-- ==== Sys2Proof/Word.lean ====
section
/-! DEFINITION. The word types of the part and their plainest arithmetic (R10, R14). -/

namespace Sys2Proof

/-- A scalar register's value, a cursor or a system register: 64 bits (R111). -/
abbrev Word := BitVec 64

/-- A slot word (R17). -/
abbrev SlotWord := BitVec 32

/-- A vector register: 2048 bits, two scratchpad lines (R184). -/
abbrev VReg := BitVec 2048

/-- A scratchpad line, a pool line or a cache line: 128 bytes (R183). -/
abbrev LineData := BitVec 1024

/-- The two vector engines (R17, R230): `a` is slot 1 (VA), `b` is slot 2 (VB). -/
inductive VUnit where
  | a | b
  deriving DecidableEq, Repr

/-- The two copy slots (R17, R43): `a` is slot 4 (CA), `b` is slot 5 (CB). -/
inductive CUnit where
  | a | b
  deriving DecidableEq, Repr

/-- The eight slots of a bundle (R17). -/
inductive Slot where
  | s | va | vb | m | ca | cb | y | b
  deriving DecidableEq, Repr

/-- A slot's number in its bundle (R17). -/
def Slot.index : Slot → Nat
  | .s => 0 | .va => 1 | .vb => 2 | .m => 3 | .ca => 4 | .cb => 5 | .y => 6 | .b => 7

/-- The slots in bundle order. -/
def Slot.all : List Slot := [.s, .va, .vb, .m, .ca, .cb, .y, .b]

end Sys2Proof
end

