-- ==== Sys2Proof/Config.lean ====
section
/-! DEFINITION. What the manual leaves open: values and choices that no rule of the spec fixes. Every constant here has
no body, so a statement about the model holds whatever the hardware does. Each is named in the assumption log. -/

namespace Sys2Proof.Config

/-- The outside world's and the hardware's free choice: the `n`-th decision of a run. Latencies are typical and not
bounds (R358), so the model lets every enabled event happen at any time; this sequence says which one does. -/
opaque choice : Nat → Nat

/-- HKDF-SHA-384 of a world key and a region's or image's label, to 32 bytes. The spec names the function and not the
encoding of its label (R471), so the derived key is left open. -/
opaque deriveKey : BitVec 256 → Nat → BitVec 256

/-- A value that the spec leaves unstated, by the number of choices taken so far. -/
opaque freeWord : Nat → Word

/-- The bytes that stand for a world and a region in a line's authenticated data: the spec names the two and not their
encoding (R471). -/
opaque macHeader : Nat → Nat → List Nat

/-- The GMAC of a region's record, by "mac" key, world and bits [959:0]: the spec gives no IV and no encoding (R480). -/
opaque recordTag : BitVec 256 → Nat → Nat → BitVec 64

/-- The bytes that stand for tenant, world, launch number and program root in a measurement: the spec names them and not
their encoding (R469). -/
opaque measureHeader : Nat → Nat → Nat → BitVec 256 → List Nat

/-- Whether the boot ROM accepts an image: the key whose digest is fused, and the image's layout, are not stated (R550). -/
opaque firmwareAccepted : List (BitVec 8) → Bool

/-- The component of an image that a measurement block covers, as bytes: the image's layout is not stated (R551). -/
opaque component : List (BitVec 8) → Nat → List Nat

/-- The keystream under which Onyx seals one piece of a protected world's context image, and the tag that authenticates it, by world key, image counter and
piece: the spec names no algorithm (R483). -/
opaque imagePad : BitVec 256 → BitVec 64 → Nat → BitVec 2048
opaque imageTag : BitVec 256 → BitVec 64 → Nat → BitVec 2048 → BitVec 128

/-- The bits of an event record whose layout the spec does not give, by what the record holds (R501). -/
opaque recordBits : List Nat → BitVec 512

/-- The count of corrected symbols above which a lane is poor: the spec gives no number (R519, R522). -/
opaque laneThreshold : Nat

/-- The time over which the rate of a lane's corrected symbols is taken, and the count within it above which the rate is too high: the spec gives
no numbers (R522). -/
opaque laneWindow : Nat
opaque laneRate : Nat

/-- The set of a cluster cache that holds a line of an object: the spec leaves the mapping to the implementation (R355). -/
opaque cacheSet : Nat → Nat → Nat

/-- The set of a cluster TLB that holds a page, by space, object and page: the spec gives 256 sets and no mapping (R399). -/
opaque tlbSet : Nat → Nat → Nat → Nat

/-- The target function of a host bus address: the spec does not say how the part tells them apart (R373). -/
opaque hostFunction : Nat → Nat

end Sys2Proof.Config
end

