-- ==== Sys2Proof/Syntax.lean ====
section
/-! DEFINITION. The syntax of the part's steps: one constructor for each row of the spec's table of operations and
events. A slot word's constructor holds the word's own fields, each at the width the encoding gives it (R31 to R38);
a vector or copy word also holds the unit that executes it, which the bundle's slot number gives (R17). A row that no
word encodes is a step that the hardware, the command processor, the host or the board takes; what such an event names
(a context, an entry, a queue) is an `Event` of the state (Machine/Event.lean). -/

namespace Sys2Proof

/-- Every step of the part: the slot words and the events. -/
inductive Instr where
  -- S slot (R31, R40)
  /-- xd gets xa + xb modulo 2^64 (R116). -/
  | add (d a b : BitVec 6)
  /-- xd gets xa - xb modulo 2^64 (R116). -/
  | sub (d a b : BitVec 6)
  /-- xd gets the low 64 bits of xa x xb (R116). -/
  | mul (d a b : BitVec 6)
  /-- xd gets the high 64 bits of the signed 128-bit product (R116). -/
  | mulh (d a b : BitVec 6)
  /-- xd gets the high 64 bits of the unsigned 128-bit product (R116). -/
  | mulhn (d a b : BitVec 6)
  /-- Signed division; xd empty until written at c + 18 (R117). -/
  | div (d a b : BitVec 6)
  /-- Unsigned division; xd empty until written at c + 18 (R117). -/
  | divn (d a b : BitVec 6)
  /-- Signed remainder taking the sign of xa; xd written at c + 18 (R117). -/
  | rem (d a b : BitVec 6)
  /-- Unsigned remainder; xd written at c + 18 (R117). -/
  | remn (d a b : BitVec 6)
  /-- xd gets the bitwise and of xa and xb (R116). -/
  | and (d a b : BitVec 6)
  /-- xd gets the bitwise or of xa and xb (R116). -/
  | or (d a b : BitVec 6)
  /-- xd gets the bitwise exclusive or of xa and xb (R116). -/
  | xor (d a b : BitVec 6)
  /-- xd gets xa shifted left by xb[5:0] (R116). -/
  | shl (d a b : BitVec 6)
  /-- xd gets xa shifted right logically by xb[5:0] (R116). -/
  | shr (d a b : BitVec 6)
  /-- xd gets xa shifted right arithmetically by xb[5:0] (R116). -/
  | sar (d a b : BitVec 6)
  /-- xd gets the signed smaller of xa and xb (R116). -/
  | min (d a b : BitVec 6)
  /-- xd gets the signed larger of xa and xb (R116). -/
  | max (d a b : BitVec 6)
  /-- xd gets the unsigned smaller of xa and xb (R116). -/
  | minn (d a b : BitVec 6)
  /-- xd gets the unsigned larger of xa and xb (R116). -/
  | maxn (d a b : BitVec 6)
  /-- xd gets the count of leading zero bits of xa (R116). -/
  | clz (d a : BitVec 6)
  /-- xd gets the count of one bits of xa (R116). -/
  | popc (d a : BitVec 6)
  /-- xd gets xa if predicate pn is 1, else xb (R116). -/
  | sel (d a b : BitVec 6) (p : BitVec 4)
  /-- xd gets xa plus a sign-extended 12-bit immediate (R118). -/
  | addi (d a : BitVec 6) (i : BitVec 12)
  /-- xd gets xa and a zero-extended immediate (R118). -/
  | andi (d a : BitVec 6) (i : BitVec 12)
  /-- xd gets xa or a zero-extended immediate (R118). -/
  | ori (d a : BitVec 6) (i : BitVec 12)
  /-- xd gets xa xor a zero-extended immediate (R118). -/
  | xori (d a : BitVec 6) (i : BitVec 12)
  /-- xd gets xa shifted left by an immediate 0 to 63 (R118). -/
  | shli (d a i : BitVec 6)
  /-- xd gets xa shifted right logically by an immediate (R118). -/
  | shri (d a i : BitVec 6)
  /-- xd gets xa shifted right arithmetically by an immediate (R118). -/
  | sari (d a i : BitVec 6)
  /-- xd gets the low 64 bits of xa times a signed immediate (R118). -/
  | muli (d a : BitVec 6) (i : BitVec 12)
  /-- xd gets a sign-extended 18-bit immediate (R119). -/
  | movi (d : BitVec 6) (i : BitVec 18)
  /-- xd gets xd shifted left 18 plus an 18-bit immediate (R119). -/
  | movs (d : BitVec 6) (i : BitVec 18)
  /-- pd gets 1 when xa equals xb (R120). -/
  | cmpEq (p : BitVec 4) (a b : BitVec 6)
  /-- pd gets 1 when xa differs from xb (R120). -/
  | cmpNe (p : BitVec 4) (a b : BitVec 6)
  /-- pd gets 1 when xa is signed less than xb (R120). -/
  | cmpLt (p : BitVec 4) (a b : BitVec 6)
  /-- pd gets 1 when xa is signed less than or equal to xb (R120). -/
  | cmpLe (p : BitVec 4) (a b : BitVec 6)
  /-- pd gets 1 when xa is unsigned less than xb (R120). -/
  | cmpLtn (p : BitVec 4) (a b : BitVec 6)
  /-- pd gets 1 when xa is unsigned less than or equal to xb (R120). -/
  | cmpLen (p : BitVec 4) (a b : BitVec 6)
  /-- pd gets 1 when xa equals the immediate (R121). -/
  | cmpiEq (p : BitVec 4) (a : BitVec 6) (i : BitVec 12)
  /-- pd gets 1 when xa differs from the immediate (R121). -/
  | cmpiNe (p : BitVec 4) (a : BitVec 6) (i : BitVec 12)
  /-- pd gets 1 when xa is signed less than the immediate (R121). -/
  | cmpiLt (p : BitVec 4) (a : BitVec 6) (i : BitVec 12)
  /-- pd gets 1 when xa is signed at most the immediate (R121). -/
  | cmpiLe (p : BitVec 4) (a : BitVec 6) (i : BitVec 12)
  /-- pd gets 1 when xa is signed greater than the immediate (R121). -/
  | cmpiGt (p : BitVec 4) (a : BitVec 6) (i : BitVec 12)
  /-- pd gets 1 when xa is signed at least the immediate (R121). -/
  | cmpiGe (p : BitVec 4) (a : BitVec 6) (i : BitVec 12)
  /-- pd gets pa and pb (R122). -/
  | pand (d a b : BitVec 4)
  /-- pd gets pa or pb (R122). -/
  | por (d a b : BitVec 4)
  /-- pd gets pa xor pb (R122). -/
  | pxor (d a b : BitVec 4)
  /-- pd gets not pa (R122). -/
  | pnot (d a : BitVec 4)
  /-- Checked load of a sign-extended byte through a capability (R123). -/
  | ldI8 (x : BitVec 6) (c : BitVec 5) (o : BitVec 13)
  /-- Checked load of a zero-extended byte (R123). -/
  | ldN8 (x : BitVec 6) (c : BitVec 5) (o : BitVec 13)
  /-- Checked load of a sign-extended 16-bit value (R123). -/
  | ldI16 (x : BitVec 6) (c : BitVec 5) (o : BitVec 13)
  /-- Checked load of a zero-extended 16-bit value (R123). -/
  | ldN16 (x : BitVec 6) (c : BitVec 5) (o : BitVec 13)
  /-- Checked load of a sign-extended 32-bit value (R123). -/
  | ldI32 (x : BitVec 6) (c : BitVec 5) (o : BitVec 13)
  /-- Checked load of a zero-extended 32-bit value (R123). -/
  | ldN32 (x : BitVec 6) (c : BitVec 5) (o : BitVec 13)
  /-- Checked load of a 64-bit value (R123). -/
  | ldI64 (x : BitVec 6) (c : BitVec 5) (o : BitVec 13)
  /-- Checked store of xs[7:0], clearing the granule tag (R123). -/
  | st8 (x : BitVec 6) (c : BitVec 5) (o : BitVec 13)
  /-- Checked store of xs[15:0] (R123). -/
  | st16 (x : BitVec 6) (c : BitVec 5) (o : BitVec 13)
  /-- Checked store of xs[31:0] (R123). -/
  | st32 (x : BitVec 6) (c : BitVec 5) (o : BitVec 13)
  /-- Checked store of xs[63:0] (R123). -/
  | st64 (x : BitVec 6) (c : BitVec 5) (o : BitVec 13)
  /-- Loads a 16-byte granule into cd, keeping its tag only under LDCAP (R169). -/
  | ldc (d c : BitVec 5) (o : BitVec 13)
  /-- Stores cs as a 16-byte granule and sets the granule tag from cs (R169). -/
  | stc (d c : BitVec 5) (o : BitVec 13)
  /-- Derives cd with bounds at the cursor of length xb, rounded outward (R160). -/
  | clim (d a : BitVec 5) (b : BitVec 6)
  /-- Derives cd with exact bounds at the cursor, faulting if not exact (R160). -/
  | climx (d a : BitVec 5) (b : BitVec 6)
  /-- Derives cd with permissions ANDed with xb[11:0] (R161). -/
  | cmask (d a : BitVec 5) (b : BitVec 6)
  /-- Moves the cursor by xb, clearing the tag if unrepresentable (R162). -/
  | cadv (d a : BitVec 5) (b : BitVec 6)
  /-- Moves the cursor by a signed 14-bit immediate (R162). -/
  | cadvi (d a : BitVec 5) (i : BitVec 14)
  /-- Sets the cursor to xb, clearing the tag if unrepresentable (R162). -/
  | cpos (d a : BitVec 5) (b : BitVec 6)
  /-- Reads one field of a capability into xd (R165). -/
  | cget (d : BitVec 6) (a : BitVec 5) (s : BitVec 4)
  /-- Copies ca to cd unchanged (R163). -/
  | cmov (d a : BitVec 5)
  /-- Seals ca with the object type named by authority cs (R164). -/
  | cseal (d a s : BitVec 5)
  /-- Unseals ca with matching authority cs (R164). -/
  | cunseal (d a s : BitVec 5)
  /-- Tests a capability condition into pd without faulting (R166). -/
  | ctest (p : BitVec 4) (a : BitVec 5) (b : BitVec 6) (c : BitVec 8)
  /-- Copies ca to cd with the tag cleared (R163). -/
  | cclr (d a : BitVec 5)
  /-- Reads a system register into xd (R96). -/
  | mfs (d n : BitVec 6)
  /-- Writes xa to a system register, with VRS and VRB value checks (R97). -/
  | mts (a n : BitVec 6)
  /-- Writes capability register ca into a descriptor's CAP field (R324). -/
  | mtdCap (d : BitVec 4) (c : BitVec 5)
  /-- Writes xa into a selected value field of a descriptor, with range checks (R324). -/
  | mtdValue (d s : BitVec 4) (a : BitVec 6)
  /-- Writes one field of a stream register, with range checks (R291). -/
  | mtstr (s e : BitVec 4) (a : BitVec 6)
  /-- Writes the current LCLK into xd (R99). -/
  | time (d : BitVec 6)
  -- VA and VB slots (R32, R41)
  /-- FP32 lane-wise addition (R240). -/
  | vaddF32 (u : VUnit) (n : BitVec 2) (k : BitVec 3) (t : BitVec 1) (d a b : BitVec 6)
  /-- BF16 lane-wise addition (R240). -/
  | vaddBf16 (u : VUnit) (n : BitVec 2) (k : BitVec 3) (t : BitVec 1) (d a b : BitVec 6)
  /-- Wrapping 32-bit integer addition (R244). -/
  | vaddI32 (u : VUnit) (n : BitVec 2) (k : BitVec 3) (t : BitVec 1) (d a b : BitVec 6)
  /-- Wrapping 16-bit integer addition (R244). -/
  | vaddI16 (u : VUnit) (n : BitVec 2) (k : BitVec 3) (t : BitVec 1) (d a b : BitVec 6)
  /-- Wrapping 8-bit integer addition (R244). -/
  | vaddI8 (u : VUnit) (n : BitVec 2) (k : BitVec 3) (t : BitVec 1) (d a b : BitVec 6)
  /-- FP32 lane-wise subtraction (R240). -/
  | vsubF32 (u : VUnit) (n : BitVec 2) (k : BitVec 3) (t : BitVec 1) (d a b : BitVec 6)
  /-- BF16 lane-wise subtraction (R240). -/
  | vsubBf16 (u : VUnit) (n : BitVec 2) (k : BitVec 3) (t : BitVec 1) (d a b : BitVec 6)
  /-- Wrapping 32-bit integer subtraction (R244). -/
  | vsubI32 (u : VUnit) (n : BitVec 2) (k : BitVec 3) (t : BitVec 1) (d a b : BitVec 6)
  /-- Wrapping 16-bit integer subtraction (R244). -/
  | vsubI16 (u : VUnit) (n : BitVec 2) (k : BitVec 3) (t : BitVec 1) (d a b : BitVec 6)
  /-- Wrapping 8-bit integer subtraction (R244). -/
  | vsubI8 (u : VUnit) (n : BitVec 2) (k : BitVec 3) (t : BitVec 1) (d a b : BitVec 6)
  /-- FP32 lane-wise multiplication (R240). -/
  | vmulF32 (u : VUnit) (n : BitVec 2) (k : BitVec 3) (t : BitVec 1) (d a b : BitVec 6)
  /-- BF16 lane-wise multiplication (R240). -/
  | vmulBf16 (u : VUnit) (n : BitVec 2) (k : BitVec 3) (t : BitVec 1) (d a b : BitVec 6)
  /-- Low half of 32-bit integer products (R244). -/
  | vmulI32 (u : VUnit) (n : BitVec 2) (k : BitVec 3) (t : BitVec 1) (d a b : BitVec 6)
  /-- Low half of 16-bit integer products (R244). -/
  | vmulI16 (u : VUnit) (n : BitVec 2) (k : BitVec 3) (t : BitVec 1) (d a b : BitVec 6)
  /-- FP32 fused multiply-add into vd with one rounding (R241). -/
  | vfmaF32 (u : VUnit) (n : BitVec 2) (k : BitVec 3) (t : BitVec 1) (d a b : BitVec 6)
  /-- BF16 fused multiply-add into vd (R241). -/
  | vfmaBf16 (u : VUnit) (n : BitVec 2) (k : BitVec 3) (t : BitVec 1) (d a b : BitVec 6)
  /-- FP32 fused multiply-subtract from vd (R241). -/
  | vfmsF32 (u : VUnit) (n : BitVec 2) (k : BitVec 3) (t : BitVec 1) (d a b : BitVec 6)
  /-- BF16 fused multiply-subtract from vd (R241). -/
  | vfmsBf16 (u : VUnit) (n : BitVec 2) (k : BitVec 3) (t : BitVec 1) (d a b : BitVec 6)
  /-- FP32 lane-wise maximum (R242). -/
  | vmaxF32 (u : VUnit) (n : BitVec 2) (k : BitVec 3) (t : BitVec 1) (d a b : BitVec 6)
  /-- BF16 lane-wise maximum (R242). -/
  | vmaxBf16 (u : VUnit) (n : BitVec 2) (k : BitVec 3) (t : BitVec 1) (d a b : BitVec 6)
  /-- Signed 32-bit lane-wise maximum (R244). -/
  | vmaxI32 (u : VUnit) (n : BitVec 2) (k : BitVec 3) (t : BitVec 1) (d a b : BitVec 6)
  /-- Signed 16-bit lane-wise maximum (R244). -/
  | vmaxI16 (u : VUnit) (n : BitVec 2) (k : BitVec 3) (t : BitVec 1) (d a b : BitVec 6)
  /-- Signed 8-bit lane-wise maximum (R244). -/
  | vmaxI8 (u : VUnit) (n : BitVec 2) (k : BitVec 3) (t : BitVec 1) (d a b : BitVec 6)
  /-- FP32 lane-wise minimum (R242). -/
  | vminF32 (u : VUnit) (n : BitVec 2) (k : BitVec 3) (t : BitVec 1) (d a b : BitVec 6)
  /-- BF16 lane-wise minimum (R242). -/
  | vminBf16 (u : VUnit) (n : BitVec 2) (k : BitVec 3) (t : BitVec 1) (d a b : BitVec 6)
  /-- Signed 32-bit lane-wise minimum (R244). -/
  | vminI32 (u : VUnit) (n : BitVec 2) (k : BitVec 3) (t : BitVec 1) (d a b : BitVec 6)
  /-- Signed 16-bit lane-wise minimum (R244). -/
  | vminI16 (u : VUnit) (n : BitVec 2) (k : BitVec 3) (t : BitVec 1) (d a b : BitVec 6)
  /-- Signed 8-bit lane-wise minimum (R244). -/
  | vminI8 (u : VUnit) (n : BitVec 2) (k : BitVec 3) (t : BitVec 1) (d a b : BitVec 6)
  /-- FP32 absolute value by clearing the sign bit (R243). -/
  | vabsF32 (u : VUnit) (n : BitVec 2) (k : BitVec 3) (t : BitVec 1) (d a : BitVec 6)
  /-- 32-bit integer absolute value, wrapping (R244). -/
  | vabsI32 (u : VUnit) (n : BitVec 2) (k : BitVec 3) (t : BitVec 1) (d a : BitVec 6)
  /-- FP32 negation by inverting the sign bit (R243). -/
  | vnegF32 (u : VUnit) (n : BitVec 2) (k : BitVec 3) (t : BitVec 1) (d a : BitVec 6)
  /-- 32-bit integer negation, wrapping (R244). -/
  | vnegI32 (u : VUnit) (n : BitVec 2) (k : BitVec 3) (t : BitVec 1) (d a : BitVec 6)
  /-- Saturating 16-bit addition (R244). -/
  | vaddsI16 (u : VUnit) (n : BitVec 2) (k : BitVec 3) (t : BitVec 1) (d a b : BitVec 6)
  /-- Saturating 8-bit addition (R244). -/
  | vaddsI8 (u : VUnit) (n : BitVec 2) (k : BitVec 3) (t : BitVec 1) (d a b : BitVec 6)
  /-- Saturating 16-bit subtraction (R244). -/
  | vsubsI16 (u : VUnit) (n : BitVec 2) (k : BitVec 3) (t : BitVec 1) (d a b : BitVec 6)
  /-- Saturating 8-bit subtraction (R244). -/
  | vsubsI8 (u : VUnit) (n : BitVec 2) (k : BitVec 3) (t : BitVec 1) (d a b : BitVec 6)
  /-- High half of signed 32-bit products (R244). -/
  | vmulhI32 (u : VUnit) (n : BitVec 2) (k : BitVec 3) (t : BitVec 1) (d a b : BitVec 6)
  /-- Bitwise and of 32-bit lanes (R245). -/
  | vand (u : VUnit) (n : BitVec 2) (k : BitVec 3) (t : BitVec 1) (d a b : BitVec 6)
  /-- Bitwise or of 32-bit lanes (R245). -/
  | vor (u : VUnit) (n : BitVec 2) (k : BitVec 3) (t : BitVec 1) (d a b : BitVec 6)
  /-- Bitwise xor of 32-bit lanes (R245). -/
  | vxor (u : VUnit) (n : BitVec 2) (k : BitVec 3) (t : BitVec 1) (d a b : BitVec 6)
  /-- Bitwise not of 32-bit lanes (R245). -/
  | vnot (u : VUnit) (n : BitVec 2) (k : BitVec 3) (t : BitVec 1) (d a : BitVec 6)
  /-- Per-lane left shift by vb lane bits [4:0] (R246). -/
  | vshlI32 (u : VUnit) (n : BitVec 2) (k : BitVec 3) (t : BitVec 1) (d a b : BitVec 6)
  /-- Per-lane logical right shift (R246). -/
  | vshrI32 (u : VUnit) (n : BitVec 2) (k : BitVec 3) (t : BitVec 1) (d a b : BitVec 6)
  /-- Per-lane arithmetic right shift (R246). -/
  | vsarI32 (u : VUnit) (n : BitVec 2) (k : BitVec 3) (t : BitVec 1) (d a b : BitVec 6)
  /-- FP32 equality compare into a mask register (R247). -/
  | vcmpF32Eq (u : VUnit) (n : BitVec 2) (k : BitVec 3) (t : BitVec 1) (d : BitVec 3) (a b : BitVec 6)
  /-- FP32 inequality compare into a mask register (R247). -/
  | vcmpF32Ne (u : VUnit) (n : BitVec 2) (k : BitVec 3) (t : BitVec 1) (d : BitVec 3) (a b : BitVec 6)
  /-- FP32 less-than compare into a mask register (R247). -/
  | vcmpF32Lt (u : VUnit) (n : BitVec 2) (k : BitVec 3) (t : BitVec 1) (d : BitVec 3) (a b : BitVec 6)
  /-- FP32 less-or-equal compare into a mask register (R247). -/
  | vcmpF32Le (u : VUnit) (n : BitVec 2) (k : BitVec 3) (t : BitVec 1) (d : BitVec 3) (a b : BitVec 6)
  /-- Integer equality compare into a mask register (R247). -/
  | vcmpI32Eq (u : VUnit) (n : BitVec 2) (k : BitVec 3) (t : BitVec 1) (d : BitVec 3) (a b : BitVec 6)
  /-- Integer inequality compare into a mask register (R247). -/
  | vcmpI32Ne (u : VUnit) (n : BitVec 2) (k : BitVec 3) (t : BitVec 1) (d : BitVec 3) (a b : BitVec 6)
  /-- Signed less-than compare into a mask register (R247). -/
  | vcmpI32Lt (u : VUnit) (n : BitVec 2) (k : BitVec 3) (t : BitVec 1) (d : BitVec 3) (a b : BitVec 6)
  /-- Signed less-or-equal compare into a mask register (R247). -/
  | vcmpI32Le (u : VUnit) (n : BitVec 2) (k : BitVec 3) (t : BitVec 1) (d : BitVec 3) (a b : BitVec 6)
  /-- Selects va or vb per lane by the mask field (R249). -/
  | vsel (u : VUnit) (n : BitVec 2) (k : BitVec 3) (t : BitVec 1) (d a b : BitVec 6)
  /-- Broadcasts xb[31:0] to every enabled 32-bit lane (R250). -/
  | vbcx32 (u : VUnit) (n : BitVec 2) (k : BitVec 3) (t : BitVec 1) (d x : BitVec 6)
  /-- Broadcasts xb[15:0] to every enabled 16-bit lane (R250). -/
  | vbcx16 (u : VUnit) (n : BitVec 2) (k : BitVec 3) (t : BitVec 1) (d x : BitVec 6)
  /-- Copies enabled 32-bit lanes (R251). -/
  | vmov (u : VUnit) (n : BitVec 2) (k : BitVec 3) (t : BitVec 1) (d a : BitVec 6)
  /-- Narrows FP32 to BF16 with rounding (R252). -/
  | vcvtF32Bf16 (u : VUnit) (n : BitVec 2) (k : BitVec 3) (t : BitVec 1) (d a : BitVec 6)
  /-- Widens BF16 to FP32 exactly (R252). -/
  | vcvtBf16F32 (u : VUnit) (n : BitVec 2) (k : BitVec 3) (t : BitVec 1) (d a : BitVec 6)
  /-- Converts FP32 to INT32 under the rounding mode (R252). -/
  | vcvtF32I32 (u : VUnit) (n : BitVec 2) (k : BitVec 3) (t : BitVec 1) (d a : BitVec 6)
  /-- Converts INT32 to FP32 with rounding (R252). -/
  | vcvtI32F32 (u : VUnit) (n : BitVec 2) (k : BitVec 3) (t : BitVec 1) (d a : BitVec 6)
  /-- Narrows INT32 to INT16 with saturation (R252). -/
  | vcvtI32I16 (u : VUnit) (n : BitVec 2) (k : BitVec 3) (t : BitVec 1) (d a : BitVec 6)
  /-- Widens INT16 to INT32 by sign extension (R252). -/
  | vcvtI16I32 (u : VUnit) (n : BitVec 2) (k : BitVec 3) (t : BitVec 1) (d a : BitVec 6)
  /-- Narrows INT16 to INT8 with saturation (R252). -/
  | vcvtI16I8 (u : VUnit) (n : BitVec 2) (k : BitVec 3) (t : BitVec 1) (d a : BitVec 6)
  /-- Widens INT8 to INT16 by sign extension (R252). -/
  | vcvtI8I16 (u : VUnit) (n : BitVec 2) (k : BitVec 3) (t : BitVec 1) (d a : BitVec 6)
  /-- Quantises FP32 to MXINT8 byte form under BS8 scales and updates AMAX (R254). -/
  | vqntMx8 (u : VUnit) (n : BitVec 2) (k : BitVec 3) (t : BitVec 1) (d a b : BitVec 6)
  /-- Quantises FP32 to MXINT6 byte form (R254). -/
  | vqntMx6 (u : VUnit) (n : BitVec 2) (k : BitVec 3) (t : BitVec 1) (d a b : BitVec 6)
  /-- Quantises FP32 to MXINT4 byte form (R254). -/
  | vqntMx4 (u : VUnit) (n : BitVec 2) (k : BitVec 3) (t : BitVec 1) (d a b : BitVec 6)
  /-- Updates AMAX from FP32 lanes without writing lines (R255). -/
  | vamaxF32 (u : VUnit) (n : BitVec 2) (k : BitVec 3) (t : BitVec 1) (a : BitVec 6)
  /-- Updates AMAX from BF16 lanes without writing lines (R255). -/
  | vamaxBf16 (u : VUnit) (n : BitVec 2) (k : BitVec 3) (t : BitVec 1) (a : BitVec 6)
  /-- Decodes MXINT8 byte form to FP32 under scales (R256). -/
  | vdqntMx8 (u : VUnit) (n : BitVec 2) (k : BitVec 3) (t : BitVec 1) (d a b : BitVec 6)
  /-- Decodes MXINT6 byte form to FP32 (R256). -/
  | vdqntMx6 (u : VUnit) (n : BitVec 2) (k : BitVec 3) (t : BitVec 1) (d a b : BitVec 6)
  /-- Decodes MXINT4 byte form to FP32 (R256). -/
  | vdqntMx4 (u : VUnit) (n : BitVec 2) (k : BitVec 3) (t : BitVec 1) (d a b : BitVec 6)
  /-- Converts MXINT8 byte form to plane form (R257). -/
  | vplnMx8 (u : VUnit) (n : BitVec 2) (t : BitVec 1) (d a : BitVec 6)
  /-- Converts MXINT6 byte form to plane form (R257). -/
  | vplnMx6 (u : VUnit) (n : BitVec 2) (t : BitVec 1) (d a : BitVec 6)
  /-- Converts MXINT4 byte form to plane form (R257). -/
  | vplnMx4 (u : VUnit) (n : BitVec 2) (t : BitVec 1) (d a : BitVec 6)
  /-- Converts MXINT8 plane form back to byte form (R257). -/
  | vuplnMx8 (u : VUnit) (n : BitVec 2) (t : BitVec 1) (d a : BitVec 6)
  /-- Converts MXINT6 plane form back to byte form (R257). -/
  | vuplnMx6 (u : VUnit) (n : BitVec 2) (t : BitVec 1) (d a : BitVec 6)
  /-- Converts MXINT4 plane form back to byte form (R257). -/
  | vuplnMx4 (u : VUnit) (n : BitVec 2) (t : BitVec 1) (d a : BitVec 6)
  /-- Approximate reciprocal rounded to 12 significant bits (R259). -/
  | vrcpa (u : VUnit) (n : BitVec 2) (k : BitVec 3) (t : BitVec 1) (d a : BitVec 6)
  /-- Approximate reciprocal square root (R259). -/
  | vrsqa (u : VUnit) (n : BitVec 2) (k : BitVec 3) (t : BitVec 1) (d a : BitVec 6)
  /-- Approximate base-2 exponential (R259). -/
  | vexp2a (u : VUnit) (n : BitVec 2) (k : BitVec 3) (t : BitVec 1) (d a : BitVec 6)
  /-- Approximate base-2 logarithm (R259). -/
  | vlog2a (u : VUnit) (n : BitVec 2) (k : BitVec 3) (t : BitVec 1) (d a : BitVec 6)
  /-- Fixed-tree FP32 sum of each register into lanes of the first line (R263). -/
  | vrsumF32 (u : VUnit) (n : BitVec 2) (k : BitVec 3) (t : BitVec 1) (d a : BitVec 6)
  /-- Wrapping integer sum of each register (R263). -/
  | vrsumI32 (u : VUnit) (n : BitVec 2) (k : BitVec 3) (t : BitVec 1) (d a : BitVec 6)
  /-- FP32 maximum of each register (R263). -/
  | vrmaxF32 (u : VUnit) (n : BitVec 2) (k : BitVec 3) (t : BitVec 1) (d a : BitVec 6)
  /-- FP32 minimum of each register (R263). -/
  | vrminF32 (u : VUnit) (n : BitVec 2) (k : BitVec 3) (t : BitVec 1) (d a : BitVec 6)
  /-- Inclusive prefix sum within each register (R265). -/
  | vscanI32 (u : VUnit) (n : BitVec 2) (k : BitVec 3) (t : BitVec 1) (d a : BitVec 6)
  /-- Selects the k largest enabled values with their indices (R266). -/
  | vtopkF32 (u : VUnit) (n : BitVec 2) (k : BitVec 3) (t : BitVec 1) (d a x : BitVec 6)
  /-- Permutes 32-bit lanes within each register by index lanes (R267). -/
  | vperm32 (u : VUnit) (n : BitVec 2) (k : BitVec 3) (t : BitVec 1) (d a b : BitVec 6)
  /-- Permutes 16-bit lanes within each register (R267). -/
  | vperm16 (u : VUnit) (n : BitVec 2) (k : BitVec 3) (t : BitVec 1) (d a b : BitVec 6)
  /-- Permutes 8-bit lanes within each register (R267). -/
  | vperm8 (u : VUnit) (n : BitVec 2) (k : BitVec 3) (t : BitVec 1) (d a b : BitVec 6)
  /-- Rotates each register toward lane 0 by xb mod 64 (R268). -/
  | vrotl32 (u : VUnit) (n : BitVec 2) (k : BitVec 3) (t : BitVec 1) (d a x : BitVec 6)
  /-- Interleaves two groups into one of twice the size (R269). -/
  | vzip32 (u : VUnit) (n : BitVec 2) (t : BitVec 1) (d a b : BitVec 6)
  /-- De-interleaves two groups (R269). -/
  | vunzip32 (u : VUnit) (n : BitVec 2) (t : BitVec 1) (d a b : BitVec 6)
  /-- Copies one lane to a scalar register, written at c + 5 (R270). -/
  | vxtr32 (u : VUnit) (t : BitVec 1) (d a x : BitVec 6)
  /-- Writes xb[31:0] into one lane of vd (R271). -/
  | vins32 (u : VUnit) (k : BitVec 3) (t : BitVec 1) (d a b : BitVec 6)
  /-- Writes a lane-index ramp starting at xb (R272). -/
  | viota32 (u : VUnit) (n : BitVec 2) (k : BitVec 3) (t : BitVec 1) (d x : BitVec 6)
  /-- Expands 4-bit codes through a CTAB snapshot into BF16 lanes (R274). -/
  | vlutBf16 (u : VUnit) (n : BitVec 2) (k : BitVec 3) (t : BitVec 1) (d a : BitVec 6)
  /-- Loads the 16-entry CTAB from bytes 0-31 of va (R273). -/
  | vltld (u : VUnit) (t : BitVec 1) (a : BitVec 6)
  /-- Gathers 32-bit elements through a capability at per-lane offsets (R276). -/
  | vgath32 (n : BitVec 2) (k : BitVec 3) (t : BitVec 1) (d a : BitVec 6) (c : BitVec 5)
  /-- Gathers 16-bit elements through a capability (R276). -/
  | vgath16 (n : BitVec 2) (k : BitVec 3) (t : BitVec 1) (d a : BitVec 6) (c : BitVec 5)
  /-- Scatters 32-bit elements into the store queue (R276). -/
  | vscat32 (n : BitVec 2) (k : BitVec 3) (t : BitVec 1) (d a : BitVec 6) (c : BitVec 5)
  /-- Scatters 16-bit elements into the store queue (R276). -/
  | vscat16 (n : BitVec 2) (k : BitVec 3) (t : BitVec 1) (d a : BitVec 6) (c : BitVec 5)
  -- M slot (R35, R42)
  /-- Block-scaled matrix multiply accumulating into a tile (R297). -/
  | mma (a b : BitVec 4) (t : BitVec 6) (g : BitVec 4)
  /-- Block-scaled matrix multiply overwriting the tile rows (R297). -/
  | mmaOw (a b : BitVec 4) (t : BitVec 6) (g : BitVec 4)
  /-- Sets every element of a tile to +0 (R307). -/
  | mzero (t : BitVec 6)
  /-- Marks a tile released, reading as +0 (R307). -/
  | mres (t : BitVec 6)
  /-- Copies tile rows into vector lines as FP32 (R308). -/
  | mrdF32 (v t : BitVec 6) (c f : BitVec 4)
  /-- Copies tile rows into vector lines rounded to BF16 (R308). -/
  | mrdBf16 (v t : BitVec 6) (c f : BitVec 4)
  /-- Writes vector lines into tile rows as a bit copy (R309). -/
  | mwrF32 (v t : BitVec 6) (c f : BitVec 4)
  /-- Scales tile rows by lanes of one register (R310). -/
  | mscl (v t : BitVec 6) (c f : BitVec 4)
  /-- Writes the row maxima of a tile to one register (R311). -/
  | mrowmax (v t : BitVec 6) (c f : BitVec 4)
  -- CA and CB slots (R36, R43)
  /-- Copies remote rows into local lines through the descriptor snapshot (R338). -/
  | getc (u : CUnit) (d : BitVec 4) (q r : BitVec 1) (s : BitVec 3) (m : BitVec 1) (x : BitVec 6) (g : BitVec 8)
  /-- Copies local lines to remote rows, holding the source lines (R338). -/
  | putc (u : CUnit) (d : BitVec 4) (q r : BitVec 1) (s : BitVec 3) (m : BitVec 1) (x : BitVec 6) (g : BitVec 8)
  /-- GET without bounds check; out-of-bounds bytes land as zero (R339). -/
  | getp (u : CUnit) (d : BitVec 4) (q r : BitVec 1) (s : BitVec 3) (m : BitVec 1) (x : BitVec 6) (g : BitVec 8)
  /-- Pushes local lines into another stage's scratchpad region (R340). -/
  | xfer (u : CUnit) (d : BitVec 4) (q r : BitVec 1) (s : BitVec 3) (m : BitVec 1) (x : BitVec 6) (g : BitVec 8)
  /-- Makes pool pages resident in HBM frames, optionally with a page lease (R342). -/
  | bget (u : CUnit) (d : BitVec 4) (m : BitVec 1) (x : BitVec 6) (g : BitVec 8)
  /-- Hint to make pages resident and prefetch first lines; never faults (R343). -/
  | pref (u : CUnit) (d : BitVec 4)
  /-- Sends local rows as one contribution to a reduction (R344). -/
  | putr (u : CUnit) (d : BitVec 4) (q r : BitVec 1) (s : BitVec 3) (m : BitVec 1) (x : BitVec 6) (g : BitVec 8)
  /-- Cancels the context's pending non-eligible timed commands with the tag (R345). -/
  | cflush (u : CUnit) (n : BitVec 8)
  -- Y slot (R37, R44)
  /-- Release over up to three ranges and/or acquire at a scope (R380). -/
  | fence (a b c : BitVec 5) (s : BitVec 3) (k : BitVec 2)
  /-- Release over every tracker entry and/or acquire at a scope (R381). -/
  | fenceall (s : BitVec 3) (k : BitVec 2)
  /-- Atomic 32-bit add returning the old value (R387). -/
  | aaddI32 (d : BitVec 6) (c : BitVec 5) (x : BitVec 6) (s : BitVec 3) (q r : BitVec 1)
  /-- Atomic 64-bit add returning the old value (R387). -/
  | aaddI64 (d : BitVec 6) (c : BitVec 5) (x : BitVec 6) (s : BitVec 3) (q r : BitVec 1)
  /-- Atomic signed minimum (R387). -/
  | aminI64 (d : BitVec 6) (c : BitVec 5) (x : BitVec 6) (s : BitVec 3) (q r : BitVec 1)
  /-- Atomic signed maximum (R387). -/
  | amaxI64 (d : BitVec 6) (c : BitVec 5) (x : BitVec 6) (s : BitVec 3) (q r : BitVec 1)
  /-- Atomic unsigned minimum (R387). -/
  | aminnN64 (d : BitVec 6) (c : BitVec 5) (x : BitVec 6) (s : BitVec 3) (q r : BitVec 1)
  /-- Atomic unsigned maximum (R387). -/
  | amaxnN64 (d : BitVec 6) (c : BitVec 5) (x : BitVec 6) (s : BitVec 3) (q r : BitVec 1)
  /-- Atomic and (R387). -/
  | aand (d : BitVec 6) (c : BitVec 5) (x : BitVec 6) (s : BitVec 3) (q r : BitVec 1)
  /-- Atomic or (R387). -/
  | aor (d : BitVec 6) (c : BitVec 5) (x : BitVec 6) (s : BitVec 3) (q r : BitVec 1)
  /-- Atomic exclusive or (R387). -/
  | axor (d : BitVec 6) (c : BitVec 5) (x : BitVec 6) (s : BitVec 3) (q r : BitVec 1)
  /-- Atomic exchange (R387). -/
  | axchg (d : BitVec 6) (c : BitVec 5) (x : BitVec 6) (s : BitVec 3) (q r : BitVec 1)
  /-- Atomic 64-bit compare-and-swap (R387). -/
  | acas (d : BitVec 6) (c : BitVec 5) (x : BitVec 6) (s : BitVec 3) (q r : BitVec 1)
  /-- Atomic 128-bit compare-and-swap on register pairs (R387). -/
  | acas2 (d : BitVec 6) (c : BitVec 5) (x : BitVec 6) (s : BitVec 3) (q r : BitVec 1)
  /-- Atomic FP32 add with round-to-nearest-even (R387). -/
  | afaddF32 (d : BitVec 6) (c : BitVec 5) (x : BitVec 6) (s : BitVec 3) (q r : BitVec 1)
  /-- Initialises an arrival object with its expected count (R351). -/
  | ainit (a : BitVec 6) (n : BitVec 12)
  /-- Announces arrivals and expected bytes to an arrival object (R352). -/
  | arrive (d a s n : BitVec 6)
  /-- Waits, with an optional bound, for an arrival object's phase to change (R353). -/
  | waitph (d a : BitVec 6) (p : BitVec 4) (l : BitVec 8)
  /-- Acquires a read page lease over the capability's pages (R436). -/
  | lacqR (d : BitVec 6) (c : BitVec 5) (s : BitVec 6)
  /-- Acquires a write page lease over the capability's pages (R436). -/
  | lacqW (d : BitVec 6) (c : BitVec 5) (s : BitVec 6)
  /-- Releases the range at POOL scope, then releases the lease (R438). -/
  | lrel (d : BitVec 6) (c : BitVec 5) (s : BitVec 6)
  /-- Asks the home to renew a held lease by its original term (R437). -/
  | lrenew (d : BitVec 6) (c : BitVec 5) (s : BitVec 6)
  /-- Releases a pool range and harvests its dirty pages into a list (R414). -/
  | harv (d : BitVec 6) (c : BitVec 5) (s : BitVec 6)
  /-- Encrypts plain lines into cipher lines of a writable region (R477). -/
  | sealLines (a b : BitVec 6) (c : BitVec 5)
  /-- Verifies and decrypts cipher lines, poisoning failures (R477). -/
  | openLines (a b : BitVec 6) (c : BitVec 5)
  /-- Applies arrived host-window writes and acquires at PACKAGE scope (R510). -/
  | hwin (d : BitVec 6) (c : BitVec 5)
  /-- Claims the merge unit and folds a similarity tile into the match state (R454). -/
  | mgmatch (t a b : BitVec 6)
  /-- Selects the best m merges and commits them to the map object (R458). -/
  | mgsel (a b c : BitVec 6)
  /-- Forms size-weighted averages of rows per the map (R459). -/
  | mgmerge (a b c : BitVec 6)
  /-- Expands merged rows back to original positions (R460). -/
  | mgunm (a b c : BitVec 6)
  /-- Writes BF16 natural logs of the current token sizes (R461). -/
  | mglogs (a b : BitVec 6)
  /-- Raises TRAP after the bundle issues; the context enters HALT (R103). -/
  | trap (i : BitVec 16)
  /-- Posts a record to the tenant's event ring (R102). -/
  | signal (a : BitVec 6) (i : BitVec 12)
  -- B slot (R38, R45)
  /-- Predicated relative branch (R134). -/
  | br (p : BitVec 4) (n : BitVec 1) (o : BitVec 19)
  /-- Predicated absolute jump (R135). -/
  | jmp (p : BitVec 4) (n : BitVec 1) (i : BitVec 19)
  /-- Predicated jump to the bundle index in xa (R135). -/
  | jmpx (p : BitVec 4) (n : BitVec 1) (a : BitVec 6)
  /-- Predicated call setting LNK to the next bundle (R136). -/
  | call (p : BitVec 4) (n : BitVec 1) (i : BitVec 19)
  /-- Predicated return to LNK (R137). -/
  | ret (p : BitVec 4) (n : BitVec 1)
  /-- Pushes a hardware loop entry or skips the body when the count is zero (R138). -/
  | loop (a : BitVec 6) (s : BitVec 5) (e : BitVec 13)
  /-- Rotates the rotating register window by n (R192). -/
  | rot (n : BitVec 10)
  /-- Waits until a run of the context's lines is full (R201). -/
  | waitl (a : BitVec 6) (n : BitVec 11)
  /-- Waits until a tile retires (R312). -/
  | waitt (t : BitVec 6)
  /-- Waits until pending copy commands drop to n, then delivers a copy fault (R346). -/
  | waitc (n : BitVec 8)
  /-- Raises BREAK after the bundle issues; the context enters HALT (R104). -/
  | brk (i : BitVec 16)
  -- Slot words without fields (R24, R40, R44, R45)
  /-- All-zero slot word of any slot: no effect, reads nothing, never faults (R24). -/
  | nop
  /-- Aligns the context's load and store queues (R364). -/
  | lsync
  /-- Makes the bundle boundary a switch point that passes over this context (R101). -/
  | yield
  /-- Ends the task; the context enters DRAIN (R106). -/
  | taskEnd
  -- Steps of the part that no slot word encodes
  /-- A context whose next PC is 8192 raises ILLEGAL at fetch, reported against bundle 8191 (R18). -/
  | fetchPastEnd
  /-- A wait counter reaching 8192 forces a switch to the highest-counter context (R78). -/
  | waitCounterExpiry
  /-- The condition of an engine wait is met and the context becomes READY (R75). -/
  | engineWaitEnd
  /-- After 64 idle cycles the core clock-gates (R79). -/
  | coreClockGate
  /-- A gated core wakes 2 cycles after a context becomes ready (R79). -/
  | coreWake
  /-- Dispatcher considers queue heads, fired armed launches and evicted gangs (R497). -/
  | dispatchOpportunity
  /-- A gang passed over for 2^16 cycles is reserved and lower gangs may be evicted (R499). -/
  | gangReserve
  /-- Command processor evicts a whole gang; contexts drain and enter EVICTING (R84). -/
  | gangEvict
  /-- Context image written; lines and tiles released (R84). -/
  | evictionComplete
  /-- An evicted gang is restored onto cores from its image (R86). -/
  | gangRestore
  /-- A draining context's last work is acknowledged and it becomes FREE (R106). -/
  | drainComplete
  /-- Tenant function resumes a halted context (R105). -/
  | contextResume
  /-- Tenant function ends a halted context (R539). -/
  | contextEnd
  /-- A due asynchronous fault is delivered at a bundle boundary (R537). -/
  | asyncFaultDelivery
  /-- A vector operation's last result fills its bypass register at c + b + 1 (R54). -/
  | vectorBypassFill
  /-- A vector operation writes its destination lines and FSTAT at c + b + 4 (R53). -/
  | vectorLineWrite
  /-- A compare writes its mask register at c + b + 1 (R55). -/
  | maskWrite
  /-- A division result is written to xd at c + 18 (R117). -/
  | divideResult
  /-- Load data returns and fills xd, possibly as poison (R126). -/
  | loadReturn
  /-- A queued store or scatter lane is applied at CORE scope (R361). -/
  | storeApply
  /-- Home grant and all drops reach the writing cluster (R365). -/
  | writeAck
  /-- An atomic executes at its place and its old value returns to xd (R387). -/
  | atomicReturn
  /-- An atomic refused after issue fills xd with ones and becomes a due fault (R390). -/
  | atomicFail
  /-- Gather lane data lands and fills destination lines (R278). -/
  | gatherLand
  /-- An M word retires and clears its tile's busy bit (R284). -/
  | tileRetire
  /-- A residue mismatch recomputes the whole MMA once (R304). -/
  | residueReplay
  /-- A mismatch in the replay ends the context with RESIDUE (R305). -/
  | residue
  /-- Covered accesses reach their visibility point; queued later writes proceed (R371). -/
  | releaseComplete
  /-- Earlier loads bound and generations bumped; later accesses proceed (R374). -/
  | acquireComplete
  /-- A pinned line answering RETRY for 2^20 cycles is unpinned and written home (R386). -/
  | pinRetryTimeout
  /-- A SIGNAL record is written to its reserved ring slot after earlier releases complete (R102). -/
  | signalRecordWrite
  /-- A timed copy becomes eligible when its context's LCLK reaches TIME (R319). -/
  | timedEligible
  /-- A free active place is filled with the next eligible command (R320). -/
  | copyActivate
  /-- Copy data lands in a local line and subtracts bytes from the arrival object (R334). -/
  | copyLineLand
  /-- A destination acknowledges a copy request and bytes are subtracted (R334). -/
  | copyAck
  /-- A copy command completes and retires, giving back entry and hold (R335). -/
  | copyComplete
  /-- A copy fails after issue; unwritten lines become poison and ER is set (R336). -/
  | copyFail
  /-- After prior stores are visible, the ARRIVE update is applied at the object (R352). -/
  | arriveApply
  /-- A WAITPH bound passes without a phase change; xd gets 1 (R353). -/
  | waitphTimeout
  /-- A walk ends and fills the TLB if the map version is unchanged, else walks again (R407). -/
  | tlbWalkEnd
  /-- A page fault is served by taking a frame and filling the page (R403). -/
  | pageService
  /-- A page becomes RESIDENT and contexts in PAGE on it become READY (R403). -/
  | pageResident
  /-- Service cannot complete; PAGE turns into HALT with code PAGE (R405). -/
  | pageServiceFail
  /-- Command processor starts removing a translation from every structure (R406). -/
  | shootDown
  /-- Pins have dropped and old requests accepted; shoot-down completes (R406). -/
  | shootDownComplete
  /-- A page is copied from frame F1 to F2 and the leaf updated (R410). -/
  | pageMigrate
  /-- Command processor increments an object's generation (R179). -/
  | revoke
  /-- No access checked under the old generation remains; the bump is reported complete (R179). -/
  | revokeComplete
  /-- Clears tags of capabilities with stale generations (R180). -/
  | revocationSweep
  /-- Cluster sweep flushes gathered D and A bits at least every 2^20 cycles (R411). -/
  | daSweep
  /-- After its release, HARV flushes D bits and appends dirty pages; xd written (R414). -/
  | harvestComplete
  /-- The scrubber reads a line and corrects single-bit errors (R196). -/
  | scrubStep
  /-- Background scrub of the accumulator store (R288). -/
  | accumulatorScrub
  /-- A queued merge-unit command finishes and fills its lines (R463). -/
  | mgCommandComplete
  /-- An owner silent for 65536 cycles loses the unit to a waiting claim (R450). -/
  | mergeClaimTimeout
  /-- A waiting MGMATCH obtains the unit; a previous owner's state is lost (R450). -/
  | mergeClaim
  /-- The core's cipher unit finishes a SEAL or OPEN line or leaf (R478). -/
  | cipherLineDone
  /-- Onyx re-encrypts a region under a new major counter (R482). -/
  | rekey
  /-- A re-key finishes and waiting SEAL, OPEN and copies proceed (R482). -/
  | rekeyComplete
  /-- A protected world is created with a key delivered over SPDM (R465). -/
  | worldCreate
  /-- A world's key and region table are erased (R465). -/
  | worldDestroy
  /-- The measured loader verifies and decrypts a world's program (R468). -/
  | programLoad
  /-- A core leaving a protected world is cleared (R466). -/
  | coreClear
  /-- A signed measurement report is returned to a requester (R469). -/
  | spdmGetMeasurements
  /-- TNOW reaching a multiple of TSTEP advances LT by one (R418). -/
  | ltTick
  /-- A line read with lease returns data, wts and rts; LT may jump (R421). -/
  | lineFill
  /-- Pool-line copies far from LT are marked expired (R425). -/
  | copyAgeing
  /-- A refused pool write drops line copies and becomes a due FENCED fault (R430). -/
  | writeRefused
  /-- A lease acquire response arrives: entry set, LT advanced and acquire performed (R436). -/
  | leaseGrant
  /-- The pool home does not answer a lease acquire within 64 us; status 2 (R434). -/
  | leaseAcquireTimeout
  /-- A renewal response returns and updates the package-side expiry (R437). -/
  | leaseRenewResponse
  /-- Lease release sent after the release; entry freed and xd written (R438). -/
  | leaseReleaseResponse
  /-- Package-side expiry frees the lease entry (R431). -/
  | leaseExpiry
  /-- At half term the lease unit renews or raises an event (R432). -/
  | leaseRenewalDue
  /-- A bulk-get page becomes resident with any lease granted (R342). -/
  | bulkGetPage
  /-- Jasper issues bulk gets for step-table entries in the lookahead window (R445). -/
  | jasperWalk
  /-- A lease refused with status 0 is asked again every 8 us (R446). -/
  | leaseRetry
  /-- A background job copies harvested pages pool to pool (R447). -/
  | checkpointJob
  /-- PF0 writes a tenant mode register (R486). -/
  | tmodeWrite
  /-- Ends all a tenant's work, clears its state and completes its launches (R488). -/
  | tenantReset
  /-- A new producer index is written to a queue doorbell (R490). -/
  | doorbellNotify
  /-- A queue with a pending notify is mapped to a hardware slot (R502). -/
  | queueMap
  /-- A slot idle for 2^20 cycles is unmapped, latching notifies into PEND (R502). -/
  | queueUnmap
  /-- Host names the slot to dispatch from in host-assisted scheduling (R487). -/
  | dispatchWrite
  /-- Tenant advances the event-ring consumer index, freeing slots for overflow records (R501). -/
  | evciWrite
  /-- Tenant arms an armed-launch tag (R504). -/
  | armTag
  /-- Tenant disarms a tag, effective at completion if busy (R504). -/
  | disarmTag
  /-- A Johel message with a tag lands a payload and fires the launch (R505). -/
  | armedMessage
  /-- Command processor opens a host window onto a pinned local range (R507). -/
  | windowOpen
  /-- Command processor closes a host window (R507). -/
  | windowClose
  /-- A posted write to a window enters the ingress buffer or is dropped (R508). -/
  | hostWindowWrite
  /-- Host updates a bounce-buffer counter; mismatch puts the channel in HALTED (R513). -/
  | channelUpdate
  /-- Channel reset sets counters and leaves HALTED (R514). -/
  | channelReset
  /-- A host write to a BAR0 register with no behaviour of its own (R506). -/
  | registerWrite
  /-- A flit arrives and is checked by CRC and header (R518). -/
  | flitReceive
  /-- A link-control flit naming a failed LSEQ makes the sender resend (R519). -/
  | flitReplay
  /-- A new lane map is announced and applied from the next flit (R520). -/
  | laneMapChange
  /-- A heater at range end retires its lane at once (R521). -/
  | heaterLimit
  /-- A discretionary lane change proceeds after 10 us with no veto (R521). -/
  | vetoTimeout
  /-- Watchdog resets the optical microcontroller; held codes continue (R522). -/
  | microcontrollerReset
  /-- Retuning not resumed within 50 us retires poor lanes (R522). -/
  | retuneMarginExpiry
  /-- A type-4 flit grants a source a window of outstanding flits (R524). -/
  | windowGrant
  /-- A destination acknowledgement frees flits held for resend (R525). -/
  | cumulativeAck
  /-- Unacknowledged flits are resent on a new path (R525). -/
  | pathFailureResend
  /-- A slot-mode grant names destinations for the next round (R527). -/
  | arbiterGrant
  /-- Before each round a link die sends its request to the arbiter (R527). -/
  | arbiterRequest
  /-- A change received through PF0 starts a two-phase commit (R530). -/
  | topologyChangeRequest
  /-- An endpoint stops admitting flits, drains and answers ready or refuses (R530). -/
  | topologyPrepare
  /-- An endpoint installs the new tables and resumes (R530). -/
  | topologyCommit
  /-- An endpoint keeps the old tables and resumes (R530). -/
  | topologyAbort
  /-- Missing answers after 1 ms make the coordinator send abort (R530). -/
  | prepareTimeout
  /-- A prepared endpoint asks the coordinator again every 100 us (R530). -/
  | decisionQuery
  /-- After 10 ms without the coordinator an endpoint raises an event and holds (R530). -/
  | coordinatorUnreachable
  /-- A reduction is set up on its root collective engine (R531). -/
  | reductionSetup
  /-- Command processor tears down a reduction (R535). -/
  | reductionTeardown
  /-- A contribution flit is added exactly into element sums at the root (R533). -/
  | contributionArrival
  /-- Command processor sets a core's current limit (R547). -/
  | ilimSet
  /-- Current window would exceed ILIM; no bundle issues and FRZ increments (R545). -/
  | freezeCycle
  /-- Temperature sensors sampled every 10 us with threshold actions (R548). -/
  | temperatureSample
  /-- A supply low for 4 cycles causes freeze cycles (R548). -/
  | voltageDroop
  /-- Process monitors sampled at boot and every second (R548). -/
  | processSample
  /-- A hardware error of a class is logged and contained (R542). -/
  | hardwareError
  /-- Operator clears the health log through PF0 (R543). -/
  | healthLogClear
  /-- Power-on or reset enters BOOT and initialises state (R549). -/
  | packageReset
  /-- Boot ROM checks, measures and starts a supplied firmware image (R550). -/
  | firmwareLoad
  /-- PF0 request stops dispatch and drains or evicts gangs (R549). -/
  | quiesce
  /-- Board controller removes power and everything is lost (R549). -/
  | powerOff
  /-- The supply returns within 5 % of its set point and the voltage-caused freeze cycles of its domain end (R548). -/
  | supplyRecovery
  /-- A tenant in OTMODE 1 vetoes a discretionary lane-map change, which is dropped (R521). -/
  | laneVeto
  /-- The rebooted optical microcontroller resumes retuning after a watchdog reset (R522). -/
  | retuningResume
  /-- A new 250 ns slot begins and each port switches to the destination granted for that slot (R526). -/
  | slotStart
  /-- The coordinator receives an endpoint's ready or refuse answer and, once all have answered, sends commit or abort (R530). -/
  | prepareAnswer
  /-- The command processor creates a tenant's local or pool object with its map header and generation (R397). -/
  | objectCreate
  /-- An object is deleted, so page service for it fails and LOST local pages are cleared (R405). -/
  | objectDelete
  /-- The command processor opens a harvest list for a tenant so that HARV may name it (R413). -/
  | harvestListOpen
  /-- The command processor sets TSTEP, the number of cycles per logical-time tick (R91). -/
  | tstepSet
  /-- In host-assisted renewal mode, firmware or the host renews a launch's lease after the half-term event (R432). -/
  | hostLeaseRenewal
  deriving DecidableEq, Repr

end Sys2Proof
end

