-- ==== Sys2Proof/Machine/Event.lean ====
section
/-! DEFINITION. The events of the part: what each step that no slot word encodes acts on. An event of the syntax
(`Instr.loadReturn`, …) carries no operand; the operands stand in the state as an `Event` while the step is taken. -/

namespace Sys2Proof.Machine

/-- A region of a protected world as its tenant asks for it (R470): its place in the table, kind, object, first page, pages,
tree root and leaf digests, and the chain head that the launch carries for it (R479). -/
structure RegionSpec where
  index : Nat
  kind : BitVec 2
  obj : Nat
  page0 : Nat
  pages : Nat
  root : BitVec 256
  head : BitVec 384
  leaves : List (BitVec 256)
  deriving DecidableEq, Repr

/-- What the host's processors do to host memory: a store of bytes, or `cas128`, the compare-and-exchange of 16 aligned bytes (R559). -/
inductive HostAct where
  | store (addr : BitVec 64) (bytes : List (BitVec 8))
  | cas (addr : BitVec 64) (old new_ : BitVec 128)
  deriving DecidableEq, Repr

/-- One event, with what it names. `k` is a context of the core at hand, `g` a core's global number
(die × 192 + cluster × 16 + core), `cl` a cluster's global number (die × 12 + cluster) and `id` the number that the
state gave the entry when it was made. -/
inductive Event where
  /-- A context whose next PC is 8192 raises ILLEGAL at fetch, reported against bundle 8191 (R18). -/
  | fetchPastEnd (k : BitVec 2)
  /-- A wait counter reaching 8192 forces a switch to the highest-counter context (R78). -/
  | waitCounterExpiry
  /-- The condition of an engine wait is met and the context becomes READY (R75). -/
  | engineWaitEnd (k : BitVec 2)
  /-- After 64 idle cycles the core clock-gates (R79). -/
  | coreClockGate
  /-- A gated core wakes 2 cycles after a context becomes ready (R79). -/
  | coreWake
  /-- Dispatcher considers queue heads, fired armed launches and evicted gangs (R497). -/
  | dispatchOpportunity
  /-- A gang passed over for 2^16 cycles is reserved and lower gangs may be evicted (R499). -/
  | gangReserve (gang : Nat)
  /-- Command processor evicts a whole gang; contexts drain and enter EVICTING (R84). -/
  | gangEvict (gang : Nat)
  /-- Context image written; lines and tiles released (R84). -/
  | evictionComplete (k : BitVec 2)
  /-- An evicted gang is restored onto cores from its image (R86). -/
  | gangRestore (gang : Nat)
  /-- A draining context's last work is acknowledged and it becomes FREE (R106). -/
  | drainComplete (k : BitVec 2)
  /-- Tenant function resumes a halted context (R105). -/
  | contextResume (g : Nat) (k : BitVec 2)
  /-- Tenant function ends a halted context (R539). -/
  | contextEnd (g : Nat) (k : BitVec 2)
  /-- A due asynchronous fault is delivered at a bundle boundary (R537). -/
  | asyncFaultDelivery (k : BitVec 2)
  /-- A vector operation's last result fills its bypass register at c + b + 1 (R54). -/
  | vectorBypassFill (id : Nat)
  /-- A vector operation writes its destination lines and FSTAT at c + b + 4 (R53). -/
  | vectorLineWrite (id : Nat)
  /-- A compare writes its mask register at c + b + 1 (R55). -/
  | maskWrite (id : Nat)
  /-- A division result is written to xd at c + 18 (R117). -/
  | divideResult (id : Nat)
  /-- Load data returns and fills xd, possibly as poison (R126). -/
  | loadReturn (k : BitVec 2) (id : Nat)
  /-- A queued store or scatter lane is applied at CORE scope (R361). -/
  | storeApply (k : BitVec 2) (id : Nat)
  /-- Home grant and all drops reach the writing cluster (R365). -/
  | writeAck (id : Nat)
  /-- An atomic executes at its place and its old value returns to xd (R387). -/
  | atomicReturn (k : BitVec 2) (id : Nat)
  /-- An atomic refused after issue fills xd with ones and becomes a due fault (R390). -/
  | atomicFail (k : BitVec 2) (id : Nat) (code : BitVec 8)
  /-- Gather lane data lands and fills destination lines (R278). -/
  | gatherLand (k : BitVec 2) (id : Nat)
  /-- An M word retires and clears its tile's busy bit (R284). -/
  | tileRetire (id : Nat)
  /-- A residue mismatch recomputes the whole MMA once (R304). -/
  | residueReplay (id : Nat)
  /-- A mismatch in the replay ends the context with RESIDUE (R305). -/
  | residue (id : Nat) (row : BitVec 6) (col : BitVec 6) (block : BitVec 2)
  /-- Covered accesses reach their visibility point; queued later writes proceed (R371). -/
  | releaseComplete (k : BitVec 2) (id : Nat)
  /-- Earlier loads bound and generations bumped; later accesses proceed (R374). -/
  | acquireComplete (k : BitVec 2) (id : Nat)
  /-- A pinned line answering RETRY for 2^20 cycles is unpinned and written home (R386). -/
  | pinRetryTimeout (cl : Nat) (key : Nat)
  /-- A SIGNAL record is written to its reserved ring slot after earlier releases complete (R102). -/
  | signalRecordWrite (k : BitVec 2) (id : Nat)
  /-- A timed copy becomes eligible when its context's LCLK reaches TIME (R319). -/
  | timedEligible (id : Nat)
  /-- A free active place is filled with the next eligible command (R320). -/
  | copyActivate (id : Nat)
  /-- Copy data lands in a local line and subtracts bytes from the arrival object (R334). -/
  | copyLineLand (id : Nat) (piece : Nat)
  /-- A destination acknowledges a copy request and bytes are subtracted (R334). -/
  | copyAck (id : Nat)
  /-- A copy command completes and retires, giving back entry and hold (R335). -/
  | copyComplete (id : Nat)
  /-- A copy fails after issue; unwritten lines become poison and ER is set (R336). -/
  | copyFail (id : Nat) (cause : BitVec 8)
  /-- After prior stores are visible, the ARRIVE update is applied at the object (R352). -/
  | arriveApply (k : BitVec 2) (id : Nat)
  /-- A WAITPH bound passes without a phase change; xd gets 1 (R353). -/
  | waitphTimeout (k : BitVec 2)
  /-- A walk ends and fills the TLB if the map version is unchanged, else walks again (R407). -/
  | tlbWalkEnd (id : Nat)
  /-- A page fault is served by taking a frame and filling the page (R403). -/
  | pageService (obj : BitVec 24) (page : BitVec 24)
  /-- A page becomes RESIDENT and contexts in PAGE on it become READY; in host-assisted mode the host names the frame and what it fills it with,
  no bytes where it chooses the fetch (R403). -/
  | pageResident (obj : BitVec 24) (page : BitVec 24) (fill : Option (BitVec 25 × List (BitVec 8)))
  /-- Service cannot complete; PAGE turns into HALT with code PAGE (R405). -/
  | pageServiceFail (obj : BitVec 24) (page : BitVec 24)
  /-- Command processor starts removing a translation from every structure (R406). -/
  | shootDown (obj : BitVec 24) (page : BitVec 24)
  /-- Pins have dropped and old requests accepted; shoot-down completes (R406). -/
  | shootDownComplete (obj : BitVec 24) (page : BitVec 24)
  /-- A page is copied from frame F1 to F2 and the leaf updated (R410). -/
  | pageMigrate (obj : BitVec 24) (page : BitVec 24) (frame : BitVec 25)
  /-- Command processor increments an object's generation (R179), or a pool home does and the package is not told yet (R182). -/
  | revoke (obj : BitVec 24) (home : Bool)
  /-- No access checked under the old generation remains; the bump is reported complete (R179). -/
  | revokeComplete (obj : BitVec 24)
  /-- Clears tags of capabilities with stale generations (R180). -/
  | revocationSweep
  /-- Cluster sweep flushes gathered D and A bits at least every 2^20 cycles (R411). -/
  | daSweep (cl : Nat)
  /-- After its release, HARV flushes D bits and appends dirty pages; xd written (R414). -/
  | harvestComplete (k : BitVec 2) (id : Nat)
  /-- The scrubber reads a line and finds no error, a corrected one (1) or an uncorrectable one (R196). -/
  | scrubStep (line : BitVec 15) (err : BitVec 2)
  /-- Background scrub of the accumulator store, with what it finds (R288). -/
  | accumulatorScrub (tile : BitVec 6) (err : BitVec 2)
  /-- A queued merge-unit command finishes and fills its lines (R463). -/
  | mgCommandComplete (cl : Nat)
  /-- An owner silent for 65536 cycles loses the unit to a waiting claim (R450). -/
  | mergeClaimTimeout (cl : Nat)
  /-- A waiting MGMATCH obtains the unit; a previous owner's state is lost (R450). -/
  | mergeClaim (cl : Nat)
  /-- The core's cipher unit finishes a SEAL or OPEN line or leaf (R478). -/
  | cipherLineDone (id : Nat)
  /-- Onyx re-encrypts a region under a new major counter (R482). -/
  | rekey (w : BitVec 4) (r : BitVec 6)
  /-- A re-key finishes and waiting SEAL, OPEN and copies proceed (R482). -/
  | rekeyComplete (w : BitVec 4) (r : BitVec 6)
  /-- A protected world is created with a key delivered over SPDM (R465). -/
  | worldCreate (w : BitVec 4) (tenant : BitVec 4) (key : BitVec 256) (regions : List RegionSpec)
  /-- A world's key and region table are erased (R465). -/
  | worldDestroy (w : BitVec 4)
  /-- The measured loader verifies and decrypts a world's program (R468). -/
  | programLoad (g : Nat) (launch : Nat)
  /-- A core leaving a protected world is cleared (R466). -/
  | coreClear (g : Nat)
  /-- A signed measurement report is returned to a requester (R469). -/
  | spdmGetMeasurements (block : BitVec 8)
  /-- TNOW reaching a multiple of TSTEP advances LT by one (R418). -/
  | ltTick
  /-- A line read with lease returns data, wts and rts; LT may jump (R421). -/
  | lineFill (cl : Nat) (obj : BitVec 24) (line : BitVec 33)
  /-- Pool-line copies far from LT are marked expired (R425). -/
  | copyAgeing
  /-- A refused pool write drops line copies and becomes a due FENCED fault (R430). -/
  | writeRefused (id : Nat) (code : BitVec 8)
  /-- A lease acquire response arrives: entry set, LT advanced and acquire performed (R436). -/
  | leaseGrant (k : BitVec 2) (id : Nat)
  /-- The pool home does not answer a lease acquire within 64 us; status 2 (R434). -/
  | leaseAcquireTimeout (k : BitVec 2) (id : Nat)
  /-- A renewal response returns and updates the package-side expiry (R437). -/
  | leaseRenewResponse (id : Nat)
  /-- Lease release sent after the release; entry freed and xd written (R438). -/
  | leaseReleaseResponse (k : BitVec 2) (id : Nat)
  /-- Package-side expiry frees the lease entry (R431). -/
  | leaseExpiry (token : BitVec 64)
  /-- At half term the lease unit renews or raises an event (R432). -/
  | leaseRenewalDue (token : BitVec 64)
  /-- A bulk-get page becomes resident with any lease granted (R342). -/
  | bulkGetPage (id : Nat)
  /-- Jasper issues bulk gets for step-table entries in the lookahead window (R445). -/
  | jasperWalk (launch : Nat)
  /-- A lease refused with status 0 is asked again every 8 us (R446). -/
  | leaseRetry (launch : Nat)
  /-- A background job copies harvested pages pool to pool (R447). -/
  | checkpointJob (post : Bool) (t : BitVec 4) (list : BitVec 16) (src : BitVec 24) (dst : BitVec 24)
  /-- PF0 writes a tenant mode register (R486). -/
  | tmodeWrite (t : BitVec 4) (v : BitVec 64)
  /-- Ends all a tenant's work, clears its state and completes its launches (R488). -/
  | tenantReset (t : BitVec 4)
  /-- A new producer index is written to a queue doorbell (R490). -/
  | doorbellNotify (t : BitVec 4) (q : BitVec 8) (v : BitVec 32)
  /-- A queue with a pending notify is mapped to a hardware slot, or the tenant's function writes the queue's descriptor (R489, R502). -/
  | queueMap (t : BitVec 4) (q : BitVec 8) (desc : Option (BitVec 512))
  /-- A slot idle for 2^20 cycles is unmapped, latching notifies into PEND (R502). -/
  | queueUnmap (slot : BitVec 6)
  /-- Host names the slot to dispatch from in host-assisted scheduling (R487). -/
  | dispatchWrite (t : BitVec 4) (v : BitVec 64)
  /-- Tenant advances the event-ring consumer index, freeing slots for overflow records (R501). -/
  | evciWrite (t : BitVec 4) (v : BitVec 32)
  /-- Tenant arms an armed-launch tag (R504). -/
  | armTag (tag : BitVec 12) (t : BitVec 4) (prio : BitVec 2) (obj : BitVec 24) (off : BitVec 40)
  /-- Tenant disarms a tag, effective at completion if busy (R504). -/
  | disarmTag (tag : BitVec 12) (t : BitVec 4)
  /-- A Johel message with a tag lands a payload and fires the launch (R505). -/
  | armedMessage (src : BitVec 12) (tag : BitVec 12) (payload : List (BitVec 8))
  /-- Command processor opens a host window onto a pinned local range (R507). -/
  | windowOpen (t : BitVec 4) (w : BitVec 4) (obj : BitVec 24) (off : BitVec 40) (size : BitVec 25)
  /-- Command processor closes a host window (R507). -/
  | windowClose (t : BitVec 4) (w : BitVec 4)
  /-- A posted write to a window enters the ingress buffer or is dropped (R508). -/
  | hostWindowWrite (t : BitVec 4) (addr : BitVec 28) (bytes : List (Option (BitVec 8))) (poisoned : Bool)
  /-- Host updates a bounce-buffer counter; mismatch puts the channel in HALTED (R513). -/
  | channelUpdate (t : BitVec 4) (ch : BitVec 4) (v : BitVec 64) (seen : BitVec 64)
  /-- Channel reset sets counters and leaves HALTED (R514). -/
  | channelReset (t : BitVec 4) (ch : BitVec 4)
  /-- A host write to a BAR0 register with no behaviour of its own (R506). -/
  | registerWrite (fn : BitVec 5) (off : BitVec 21) (v : BitVec 64)
  /-- A flit arrives and is checked by CRC and header (R518). -/
  | flitReceive (port : BitVec 5) (header : BitVec 96) (payload : List (BitVec 8)) (crc : BitVec 32)
  /-- A link-control flit naming a failed LSEQ makes the sender resend (R519). -/
  | flitReplay (port : BitVec 5) (lseq : BitVec 8)
  /-- A new lane map is announced and applied from the next flit (R520). -/
  | laneMapChange (port : BitVec 5) (tx : Bool) (fibre : BitVec 2) (map : BitVec 8)
  /-- A heater at range end retires its lane at once (R521). -/
  | heaterLimit (port : BitVec 5) (tx : Bool) (fibre : BitVec 2) (lane : BitVec 3)
  /-- A discretionary lane change proceeds after 10 us with no veto (R521). -/
  | vetoTimeout
  /-- Watchdog resets the optical microcontroller; held codes continue (R522). -/
  | microcontrollerReset (ld : BitVec 1)
  /-- Retuning not resumed within 50 us retires poor lanes (R522). -/
  | retuneMarginExpiry (ld : BitVec 1)
  /-- A type-4 flit grants a source a window of outstanding flits (R524). -/
  | windowGrant (dst : BitVec 12) (n : BitVec 17)
  /-- A destination acknowledgement frees flits held for resend (R525). -/
  | cumulativeAck (dst : BitVec 12) (seq : BitVec 32)
  /-- Unacknowledged flits are resent on a new path (R525). -/
  | pathFailureResend (dst : BitVec 12) (port : BitVec 5)
  /-- A slot-mode grant names destinations for the next round (R527). -/
  | arbiterGrant (ld : BitVec 1) (round : Nat) (grants : List (Nat × Nat × Nat))
  /-- Before each round a link die sends its request to the arbiter (R527). -/
  | arbiterRequest (ld : BitVec 1)
  /-- A change received through PF0 starts a two-phase commit (R530). -/
  | topologyChangeRequest (tables : Nat)
  /-- An endpoint stops admitting flits, drains and answers ready or refuses (R530). -/
  | topologyPrepare (coord : BitVec 12) (tables : Nat)
  /-- An endpoint installs the new tables and resumes (R530). -/
  | topologyCommit
  /-- An endpoint keeps the old tables and resumes (R530). -/
  | topologyAbort
  /-- Missing answers after 1 ms make the coordinator send abort (R530). -/
  | prepareTimeout
  /-- A prepared endpoint asks the coordinator again every 100 us (R530). -/
  | decisionQuery (asker : Option (BitVec 12)) (tables : Nat)
  /-- After 10 ms without the coordinator an endpoint raises an event and holds (R530). -/
  | coordinatorUnreachable
  /-- A reduction is set up on its root collective engine (R531). -/
  | reductionSetup (root : BitVec 12) (t : BitVec 4) (obj : BitVec 24) (off : BitVec 40) (nelem : BitVec 21) (fmt : BitVec 1) (expect : BitVec 16) (token : BitVec 64) (noted : Bool) (noteRef : BitVec 64) (noteLaunch : BitVec 32) (noteGang : BitVec 16) (noteStage : BitVec 4) (evt : Bool)
  /-- Command processor tears down a reduction (R535). -/
  | reductionTeardown (obj : BitVec 24) (off : BitVec 40)
  /-- A contribution flit is added exactly into element sums at the root (R533). -/
  | contributionArrival (src : BitVec 12)
  /-- Command processor sets a core's current limit (R547). -/
  | ilimSet (g : Nat) (v : BitVec 16)
  /-- Current window would exceed ILIM; no bundle issues and FRZ increments (R545). -/
  | freezeCycle
  /-- Temperature sensors sampled every 10 us with threshold actions (R548). -/
  | temperatureSample (die : BitVec 4) (temps : List (BitVec 16))
  /-- A supply low for 4 cycles causes freeze cycles (R548). -/
  | voltageDroop (g : Nat) (monitor : BitVec 4) (reading : BitVec 16)
  /-- Process monitors sampled at boot and every second (R548). -/
  | processSample (die : BitVec 4) (readings : List (BitVec 16))
  /-- A hardware error of a class is logged and contained (R542). -/
  | hardwareError (cls : BitVec 3) (unit : BitVec 3) (g : Nat) (loc : Nat)
  /-- Operator clears the health log through PF0 (R543). -/
  | healthLogClear (die : BitVec 4)
  /-- Power-on or reset enters BOOT and initialises state (R549). -/
  | packageReset (cxl : Bool)
  /-- Boot ROM checks, measures and starts a supplied firmware image (R550). -/
  | firmwareLoad (image : List (BitVec 8))
  /-- PF0 request stops dispatch and drains or evicts gangs (R549). -/
  | quiesce
  /-- Board controller removes power and everything is lost (R549). -/
  | powerOff
  /-- The supply returns within 5 % of its set point and the voltage-caused freeze cycles of its domain end (R548). -/
  | supplyRecovery (g : Nat) (monitor : BitVec 4) (reading : BitVec 16)
  /-- A tenant in OTMODE 1 vetoes a discretionary lane-map change, which is dropped (R521). -/
  | laneVeto (t : BitVec 4) (port : BitVec 5) (tx : Bool) (fibre : BitVec 2)
  /-- The rebooted optical microcontroller resumes retuning after a watchdog reset (R522). -/
  | retuningResume (ld : BitVec 1)
  /-- A new 250 ns slot begins and each port switches to the destination granted for that slot (R526). -/
  | slotStart
  /-- The coordinator receives an endpoint's ready or refuse answer and, once all have answered, sends commit or abort (R530). -/
  | prepareAnswer (pkg : BitVec 12) (ready : Bool)
  /-- The command processor creates a tenant's local or pool object with its map header and generation; `absent` are the pages that its pool
  home does not hold, `roots` the granules of a local object in which it places the tenant's sealing root at the tenant's request (R156, R397,
  R405). -/
  | objectCreate (t : BitVec 4) (space : BitVec 3) (obj : BitVec 24) (pages : BitVec 24) (absent : List (BitVec 24)) (roots : List (BitVec 36))
  /-- An object is deleted, so page service for it fails and LOST local pages are cleared (R405). -/
  | objectDelete (obj : BitVec 24)
  /-- The command processor opens a harvest list for a tenant so that HARV may name it (R413). -/
  | harvestListOpen (t : BitVec 4) (list : BitVec 16)
  /-- The command processor sets TSTEP, the number of cycles per logical-time tick (R91). -/
  | tstepSet (v : BitVec 32)
  /-- In host-assisted renewal mode, firmware or the host renews a launch's lease after the half-term event (R432). -/
  | hostLeaseRenewal (obj page : BitVec 24) (token : BitVec 64)
  deriving DecidableEq, Repr

/-- The event's row of the table. -/
def Event.instr : Event → Instr
  | .fetchPastEnd _ => .fetchPastEnd
  | .waitCounterExpiry => .waitCounterExpiry
  | .engineWaitEnd _ => .engineWaitEnd
  | .coreClockGate => .coreClockGate
  | .coreWake => .coreWake
  | .dispatchOpportunity => .dispatchOpportunity
  | .gangReserve _ => .gangReserve
  | .gangEvict _ => .gangEvict
  | .evictionComplete _ => .evictionComplete
  | .gangRestore _ => .gangRestore
  | .drainComplete _ => .drainComplete
  | .contextResume _ _ => .contextResume
  | .contextEnd _ _ => .contextEnd
  | .asyncFaultDelivery _ => .asyncFaultDelivery
  | .vectorBypassFill _ => .vectorBypassFill
  | .vectorLineWrite _ => .vectorLineWrite
  | .maskWrite _ => .maskWrite
  | .divideResult _ => .divideResult
  | .loadReturn _ _ => .loadReturn
  | .storeApply _ _ => .storeApply
  | .writeAck _ => .writeAck
  | .atomicReturn _ _ => .atomicReturn
  | .atomicFail _ _ _ => .atomicFail
  | .gatherLand _ _ => .gatherLand
  | .tileRetire _ => .tileRetire
  | .residueReplay _ => .residueReplay
  | .residue _ _ _ _ => .residue
  | .releaseComplete _ _ => .releaseComplete
  | .acquireComplete _ _ => .acquireComplete
  | .pinRetryTimeout _ _ => .pinRetryTimeout
  | .signalRecordWrite _ _ => .signalRecordWrite
  | .timedEligible _ => .timedEligible
  | .copyActivate _ => .copyActivate
  | .copyLineLand _ _ => .copyLineLand
  | .copyAck _ => .copyAck
  | .copyComplete _ => .copyComplete
  | .copyFail _ _ => .copyFail
  | .arriveApply _ _ => .arriveApply
  | .waitphTimeout _ => .waitphTimeout
  | .tlbWalkEnd _ => .tlbWalkEnd
  | .pageService _ _ => .pageService
  | .pageResident _ _ _ => .pageResident
  | .pageServiceFail _ _ => .pageServiceFail
  | .shootDown _ _ => .shootDown
  | .shootDownComplete _ _ => .shootDownComplete
  | .pageMigrate _ _ _ => .pageMigrate
  | .revoke _ _ => .revoke
  | .revokeComplete _ => .revokeComplete
  | .revocationSweep => .revocationSweep
  | .daSweep _ => .daSweep
  | .harvestComplete _ _ => .harvestComplete
  | .scrubStep _ _ => .scrubStep
  | .accumulatorScrub _ _ => .accumulatorScrub
  | .mgCommandComplete _ => .mgCommandComplete
  | .mergeClaimTimeout _ => .mergeClaimTimeout
  | .mergeClaim _ => .mergeClaim
  | .cipherLineDone _ => .cipherLineDone
  | .rekey _ _ => .rekey
  | .rekeyComplete _ _ => .rekeyComplete
  | .worldCreate _ _ _ _ => .worldCreate
  | .worldDestroy _ => .worldDestroy
  | .programLoad _ _ => .programLoad
  | .coreClear _ => .coreClear
  | .spdmGetMeasurements _ => .spdmGetMeasurements
  | .ltTick => .ltTick
  | .lineFill _ _ _ => .lineFill
  | .copyAgeing => .copyAgeing
  | .writeRefused _ _ => .writeRefused
  | .leaseGrant _ _ => .leaseGrant
  | .leaseAcquireTimeout _ _ => .leaseAcquireTimeout
  | .leaseRenewResponse _ => .leaseRenewResponse
  | .leaseReleaseResponse _ _ => .leaseReleaseResponse
  | .leaseExpiry _ => .leaseExpiry
  | .leaseRenewalDue _ => .leaseRenewalDue
  | .bulkGetPage _ => .bulkGetPage
  | .jasperWalk _ => .jasperWalk
  | .leaseRetry _ => .leaseRetry
  | .checkpointJob _ _ _ _ _ => .checkpointJob
  | .tmodeWrite _ _ => .tmodeWrite
  | .tenantReset _ => .tenantReset
  | .doorbellNotify _ _ _ => .doorbellNotify
  | .queueMap _ _ _ => .queueMap
  | .queueUnmap _ => .queueUnmap
  | .dispatchWrite _ _ => .dispatchWrite
  | .evciWrite _ _ => .evciWrite
  | .armTag _ _ _ _ _ => .armTag
  | .disarmTag _ _ => .disarmTag
  | .armedMessage _ _ _ => .armedMessage
  | .windowOpen _ _ _ _ _ => .windowOpen
  | .windowClose _ _ => .windowClose
  | .hostWindowWrite _ _ _ _ => .hostWindowWrite
  | .channelUpdate _ _ _ _ => .channelUpdate
  | .channelReset _ _ => .channelReset
  | .registerWrite _ _ _ => .registerWrite
  | .flitReceive _ _ _ _ => .flitReceive
  | .flitReplay _ _ => .flitReplay
  | .laneMapChange _ _ _ _ => .laneMapChange
  | .heaterLimit _ _ _ _ => .heaterLimit
  | .vetoTimeout => .vetoTimeout
  | .microcontrollerReset _ => .microcontrollerReset
  | .retuneMarginExpiry _ => .retuneMarginExpiry
  | .windowGrant _ _ => .windowGrant
  | .cumulativeAck _ _ => .cumulativeAck
  | .pathFailureResend _ _ => .pathFailureResend
  | .arbiterGrant _ _ _ => .arbiterGrant
  | .arbiterRequest _ => .arbiterRequest
  | .topologyChangeRequest _ => .topologyChangeRequest
  | .topologyPrepare _ _ => .topologyPrepare
  | .topologyCommit => .topologyCommit
  | .topologyAbort => .topologyAbort
  | .prepareTimeout => .prepareTimeout
  | .decisionQuery _ _ => .decisionQuery
  | .coordinatorUnreachable => .coordinatorUnreachable
  | .reductionSetup _ _ _ _ _ _ _ _ _ _ _ _ _ _ => .reductionSetup
  | .reductionTeardown _ _ => .reductionTeardown
  | .contributionArrival _ => .contributionArrival
  | .ilimSet _ _ => .ilimSet
  | .freezeCycle => .freezeCycle
  | .temperatureSample _ _ => .temperatureSample
  | .voltageDroop _ _ _ => .voltageDroop
  | .processSample _ _ => .processSample
  | .hardwareError _ _ _ _ => .hardwareError
  | .healthLogClear _ => .healthLogClear
  | .packageReset _ => .packageReset
  | .firmwareLoad _ => .firmwareLoad
  | .quiesce => .quiesce
  | .powerOff => .powerOff
  | .supplyRecovery _ _ _ => .supplyRecovery
  | .laneVeto _ _ _ _ => .laneVeto
  | .retuningResume _ => .retuningResume
  | .slotStart => .slotStart
  | .prepareAnswer _ _ => .prepareAnswer
  | .objectCreate _ _ _ _ _ _ => .objectCreate
  | .objectDelete _ => .objectDelete
  | .harvestListOpen _ _ => .harvestListOpen
  | .tstepSet _ => .tstepSet
  | .hostLeaseRenewal _ _ _ => .hostLeaseRenewal

end Sys2Proof.Machine
end

