-- ==== Sys2Proof/Machine/State.lean ====
section
/-! DEFINITION. The state of the part: plain data holding every register, mark, queue, table and memory that the spec
gives the package, and its value right after package reset. -/

namespace Sys2Proof.Machine

/-- A byte memory: (address, byte) pairs with rising addresses and no zero byte. An unlisted byte reads as zero. -/
abbrev Memory := List Host.Cell

/-- A sparse table: (key, entry) pairs with rising keys. -/
abbrev Tab (α : Type) := List (Nat × α)

/-- The machine never stops with a fault of the model's own: every fault of the spec is taken as the spec describes it
(R536 to R539), in a next state. This constructor is the one stop outside the spec's effects: no step raises it while
the package has a core to issue. -/
inductive Fault where
  /-- Raised by `step` when the package has no power: in OFF nothing on the package runs (R549). Safe: the hardware
  does nothing either. -/
  | powerOff
  deriving DecidableEq, Repr

/-- Why the model has no answer for an instruction. -/
inductive Refusal where
  /-- Raised by an arm of `exec` whose instruction has no meaning yet. Safe: nothing is claimed about it. -/
  | notModelled (mnemonic : String)
  deriving DecidableEq, Repr

-- Registers

/-- A scalar register: value, full/empty bit and poison mark (R111, R113). -/
structure XReg where
  val : Word := 0
  full : Bool := true
  poison : Bool := false
  deriving DecidableEq, Repr

/-- A capability: the tag and the 128 bits of R144. -/
structure Cap where
  tag : Bool := false
  bits : BitVec 128 := 0
  deriving DecidableEq, Repr

/-- A capability register: value, full/empty bit and poison mark (R157). -/
structure CReg where
  cap : Cap := {}
  full : Bool := true
  poison : Bool := false
  deriving DecidableEq, Repr

/-- A mask register: one bit for each of up to 256 lanes, and whether a compare has yet to write it (R55, R234). -/
structure MaskReg where
  bits : BitVec 256 := 0
  full : Bool := true
  deriving DecidableEq, Repr

/-- A stream register (R289). -/
structure StreamReg where
  koff : BitVec 16 := 0
  sstr : BitVec 16 := 0
  sbase : BitVec 15 := 0
  rstr : BitVec 20 := 0
  fmt : BitVec 3 := 0
  base : BitVec 15 := 0
  deriving DecidableEq, Repr

/-- A copy descriptor (R323). -/
structure Desc where
  time : Word := 0
  arrV : Bool := false
  arrIdx : BitVec 18 := 0
  lstr : BitVec 15 := 0
  rstr : BitVec 32 := 0
  rows : BitVec 16 := 0
  len : BitVec 25 := 0
  line : BitVec 15 := 0
  off : Word := 0
  cap : Cap := {}
  deriving DecidableEq, Repr

/-- One entry of the loop stack: LCNTn and the fields of LENDn (R92, R138). -/
structure LoopEntry where
  cnt : Word := 0
  v : Bool := false
  step : BitVec 5 := 0
  start : BitVec 13 := 0
  last : BitVec 13 := 0
  deriving DecidableEq, Repr

/-- The system registers of one context (R88 to R93), but for the clocks TNOW, LT and TSTEP, which the package holds,
and ILIM, which the core holds. LCLK is TNOW − FRZ. -/
structure SysRegs where
  lcore : BitVec 4 := 0
  die : BitVec 3 := 0
  cluster : BitVec 4 := 0
  core : BitVec 4 := 0
  kself : BitVec 2 := 0
  task : BitVec 6 := 0
  gang : BitVec 16 := 0
  stage : BitVec 4 := 0
  step : Word := 0
  launch : BitVec 32 := 0
  world : BitVec 4 := 0
  tenant : BitVec 4 := 0
  vwb : BitVec 15 := 0
  vrw : BitVec 15 := 0
  vrs : BitVec 11 := 1
  vrb : BitVec 10 := 0
  fpm : BitVec 3 := 0
  fstat : BitVec 5 := 0
  amax : BitVec 32 := 0
  frz : Word := 0
  lnk : BitVec 13 := 0
  trapc : Word := 0
  trapi : Word := 0
  trapl0 : Word := 0
  trapl1 : Word := 0
  mgMatch : Bool := false
  mgLost : Bool := false
  mgOwn : Bool := false
  replays : BitVec 16 := 0
  beats : BitVec 32 := 0
  rchk : Bool := true
  ctab : Vector Word 4 := Vector.replicate 4 0
  allocSize : BitVec 16 := 0
  allocBase : BitVec 15 := 0
  tilesCount : BitVec 6 := 0
  tilesFirst : BitVec 6 := 0
  deriving DecidableEq, Repr

/-- The state of a context (R66). -/
inductive CtxState where
  | free | ready | run | wait | page | halt | drain | evicting
  deriving DecidableEq, Repr

/-- The form of a scratchpad line (R183). -/
inductive Form where
  | plain | cipher | poison
  deriving DecidableEq, Repr

/-- The region attachment of a cipher line (R472, R474). -/
structure Attach where
  region : Nat
  index : Nat
  major : BitVec 56 := 0
  minor : Nat := 0
  mac : BitVec 64 := 0
  tree : Bool := false
  deriving DecidableEq, Repr

-- Memory operations in flight

/-- The four data spaces of R148. -/
inductive Space where
  | scratch | local | pool | host
  deriving DecidableEq, Repr

/-- A resolved address. For scratchpad `obj` is the core's global number and `off` a byte of that core; for an object
`obj` is the object number, `off` the offset and `frame` the frame of its page; for host space `off` is the bus
address (R149). `gen` is the generation the request carries (R177) and `full` the 64-bit address of the instruction. -/
structure MAddr where
  space : Space
  obj : Nat
  off : Nat
  frame : Nat := 0
  gen : BitVec 8 := 0
  full : Word := 0
  /-- The function whose requester ID an access to host memory carries: VF1 to VF16 are tenants 0 to 15 (R506). -/
  vf : Nat := 0
  deriving DecidableEq, Repr

/-- Where a load puts its data (R123, R168). -/
inductive LoadDst where
  | x (r : BitVec 6) (signed : Bool)
  | cap (r : BitVec 5) (ldcap : Bool)
  deriving DecidableEq, Repr

/-- The thirteen atomics (R387). -/
inductive AtomOp where
  | aaddI32 | aaddI64 | aminI64 | amaxI64 | aminnN64 | amaxnN64 | aand | aor | axor | axchg | acas | acas2 | afaddF32
  deriving DecidableEq, Repr

/-- An arrival object's place: the core that holds it, the byte of that core, and the reference it was named by. -/
structure ArrRef where
  g : Nat
  byte : Nat
  ref : Word
  deriving DecidableEq, Repr

/-- A range of the tracker or of a release: space, core or object, and [base, top) (R367, R371). -/
structure Range where
  space : Nat
  obj : Nat
  base : Nat
  top : Nat
  deriving DecidableEq, Repr

/-- What a lease request carries besides its range: the TNOW of its sending, the package's LT then and the object's generation (R416,
R431). -/
structure LeaseSent where
  now : Word
  lt : BitVec 24
  gen : BitVec 8
  deriving DecidableEq, Repr

/-- A page lease that the package holds (R426): which link die's unit, object, pages, kind, token, term and expiry in
TNOW, the holder, and whether it was taken for a launch's declared ranges (R432). -/
structure LeaseEntry where
  obj : Nat
  page : Nat
  count : Nat
  write : Bool
  token : BitVec 64
  term : Nat
  expiry : Nat
  tenant : BitVec 4
  /-- Who has acquired it: launches, for their declared ranges (R432), and none for a context's LACQ or BGET. -/
  owners : List (Option (BitVec 32)) := []
  /-- Its half-term renewal has been sent, or its event raised (R432). -/
  noticed : Bool := false
  deriving DecidableEq, Repr

/-- A lease live at its pool home (R427, R431): the holder is a package and a tenant; 0 is this package. `until_` is
the home's end of term. -/
structure HomeLease where
  package : Nat
  tenant : BitVec 4
  obj : Nat
  page : Nat
  count : Nat
  write : Bool
  token : BitVec 64
  term : Nat
  until_ : Nat
  deriving DecidableEq, Repr

/-- A renewal sent and not answered (R431, R437): the lease it asks for, what it carried, and whether the lease unit sent it. An LRENEW's has
the number of the instruction's queue entry. -/
structure Renewal where
  id : Nat
  tenant : BitVec 4
  obj : Nat
  page : Nat
  count : Nat
  token : BitVec 64
  sent : LeaseSent
  hw : Bool
  deriving DecidableEq, Repr

/-- A record of an event ring (R501). The spec lays out the bits of a fault record (R541); of the others it names what
they hold, and the model keeps that. -/
inductive Record where
  /-- A fault record, of kind 0x01 (R541). -/
  | fault (bits : BitVec 512)
  /-- A SIGNAL record (R102). -/
  | signal (tenant : BitVec 4) (launch : BitVec 32) (gang : BitVec 16) (task : BitVec 6) (stage : BitVec 4) (bundle : Nat)
      (imm : BitVec 12) (value tnow : Word)
  /-- A completion record (R500). -/
  | completion (tenant : BitVec 4) (launch : BitVec 32) (status : BitVec 8) (asyncCount : Nat) (asyncFirst : Option (BitVec 8))
  /-- A queue error, of kind 0x03 (R495), or a disabled queue (R490). -/
  | queueError (q : Nat) (entry : BitVec 32)
  | queueDisabled (q : Nat)
  /-- A page fault, a lease at half term, a sweep, left to the host (R487). -/
  | pageFault (obj page : Nat)
  | leaseHalfTerm (obj page : Nat) (token : BitVec 64)
  | sweep
  /-- A retune of a link die's microring lanes, or a retired lane (R487). -/
  | retune (ld : Nat)
  | laneRetired (port : Nat)
  /-- A bounce channel halted (R514). -/
  | channelHalted (ch : Nat)
  /-- The first notify to an unmapped queue (R503). -/
  | unmappedNotify (q : Nat)
  /-- The end of a reduction, with its status (R531). -/
  | reduction (obj off : Nat) (status : BitVec 8)
  /-- A region's new HEAD, or a failed acquisition of its state (R479, R481). -/
  | region (w r : Nat) (head : BitVec 384) (failed : Bool)
  /-- A revocation is complete: object and generation (R179). -/
  | revoked (obj : Nat) (gen : BitVec 8)
  /-- A lease that lapsed or was refused to Jasper, a step held, a checkpoint job's pages copied (R437, R446, R447). -/
  | leaseEvent (obj page : Nat) (status : Nat)
  | stepHeld (launch : BitVec 32) (step : Nat)
  | jobDone (src dst copied : Nat)
  /-- An update of a reduction's note was dropped (R534). -/
  | noteDropped (launch : BitVec 32)
  /-- A coordinator that does not answer (R530); a temperature over its threshold (R548). -/
  | unreachable (coord : Nat)
  | hot (die deg : Nat)
  /-- A die or package error, of kind 0x02 (R542). -/
  | error (cls : BitVec 3) (die : Nat) (tnow : Word)
  deriving DecidableEq, Repr

/-- What an operation of a context's queues does when its turn comes (R361 to R376). -/
inductive MemKind where
  /-- A load of `n` bytes (R126, R169). -/
  | load (a : MAddr) (n : Nat) (dst : LoadDst)
  /-- A store of bytes within one line; `tags` are the granules of the line whose tag it sets, the others that it
  touches being cleared (R127, R169). -/
  | store (a : MAddr) (bytes : List (BitVec 8)) (tags : BitVec 8)
  /-- One enabled lane of a gather, of `es` bytes, by its place in the run of data registers, with the flight whose line it lands in
  (R278, R280). -/
  | gather (lane : Nat) (a : MAddr) (es : Nat) (flight : Nat)
  /-- An atomic with the values it read at issue (R387). -/
  | atomic (op : AtomOp) (a : MAddr) (scope : BitVec 3) (xd : BitVec 6) (old new_ : BitVec 128)
  /-- LSYNC (R364). -/
  | lsync
  /-- A release at a scope, with the accesses it waits for (R371). -/
  | release (scope : BitVec 3) (waits : List Nat)
  /-- An acquire at a scope; `after` is the release it starts behind (R374, R380). -/
  | acquire (scope : BitVec 3) (after : Option Nat)
  /-- AINIT (R351). -/
  | ainit (r : ArrRef) (n : BitVec 12)
  /-- ARRIVE: destination, count, bytes, bundle, and the accesses it waits for (R352). -/
  | arrive (r : ArrRef) (xd : BitVec 6) (n : BitVec 6) (b : Int) (pc : Nat) (waits : List Nat)
  /-- A SIGNAL record waiting for its slot of the event ring (R102). -/
  | signal (slot : BitVec 32) (record : Record)
  /-- HARV behind its release (R414). -/
  | harv (xd : BitVec 6) (r : Range) (list : Nat) (rel : Nat)
  /-- A lease request (R434 to R438): 0 acquire, 1 renew, 2 release. -/
  | lease (what : Nat) (xd : BitVec 6) (r : Range) (write : Bool) (arg : Word) (sent : LeaseSent) (rel : Option Nat)
  /-- HWIN: its window and the ingress writes it applies, those numbered below `upto` (R393, R510). -/
  | hwin (xd : BitVec 6) (window : Nat) (upto : Nat)
  deriving DecidableEq, Repr

/-- An operation in its context's program order. `hold` marks an acquire that keeps the next bundle waiting (R374), `lane` a lane of a
scatter, which is in-flight vector work (R281), by the number of the scatter's first lane. -/
structure MemOp where
  id : Nat
  kind : MemKind
  hold : Bool := false
  lane : Option Nat := none
  deriving DecidableEq, Repr

/-- A write that has been applied and not yet acknowledged everywhere (R365, R366). -/
structure WriteRec where
  id : Nat
  g : Nat
  k : BitVec 2
  cluster : Nat
  a : MAddr
  bytes : List (BitVec 8)
  /-- Granules of its line whose tag it sets; the others it touches are cleared. -/
  tags : BitVec 8 := 0
  /-- The home of its frame has granted it; the dies whose remote-data caches have still to drop the line (R365). -/
  granted : Bool := false
  drops : List Nat := []
  /-- Granted, with every drop collected; a pool line's write has then been forwarded to its pool home (R365). -/
  homeAcked : Bool := false
  token : BitVec 64 := 0
  /-- The package's LT when it was sent to its pool home (R416, R422). -/
  lt : BitVec 24 := 0
  /-- It counts among the writes of its cluster's line that are not acknowledged (R355); an atomic performed at its home does not. -/
  counted : Bool := true
  /-- The tenant whose lease covers it (R429), and the context's world. -/
  tenant : BitVec 4 := 0
  copy : Option Nat := none
  /-- MAC and minor counter that the request writes to its region's MAC pages: offsets in the object and values (R474). -/
  macs : Option (Nat × BitVec 64 × Nat × BitVec 8) := none
  deriving DecidableEq, Repr

/-- The three counts of a tracker entry, as the accesses counted (R367). -/
structure TrackEntry where
  range : Option Range := none
  stores : List Nat := []
  copies : List Nat := []
  atomics : List Nat := []
  /-- The stamp at which the entry took its range; 0 before any (R368). -/
  age : Nat := 0
  deriving DecidableEq, Repr

/-- A wait that a bundle has issued and that is not yet satisfied (R23). -/
inductive Pending where
  /-- WAITL: first relative line and count (R201). -/
  | lines (first n : Nat)
  /-- WAITT (R312). -/
  | tile (t : BitVec 6)
  /-- WAITC (R346). -/
  | copies (n : Nat)
  /-- WAITPH: destination, object, phase, deadline (none: unbounded), and whether the bound is a single test (R353). -/
  | phase (xd : BitVec 6) (r : ArrRef) (ph : BitVec 4) (deadline : Option Word)
  deriving DecidableEq, Repr

/-- An asynchronous fault that is due (R537): its code, when it became due and what it reports. -/
structure DueFault where
  code : BitVec 8
  due : Word
  trapi : Word
  /-- The bundle it names, where that is not the bundle that would issue next (R305). -/
  pc : Option Nat := none
  deriving DecidableEq, Repr

/-- An extent entry: a run of pinned pages of a declared range, and those of its pages that it has served with a write (D) and with
any access (A) since their last flush (R399, R401, R411). -/
structure Extent where
  space : Space
  obj : Nat
  page : Nat
  count : Nat
  frame : Nat
  d : List Nat := []
  a : List Nat := []
  deriving DecidableEq, Repr

/-- What a walk found for a waiting bundle (R400, R403), or the form of another core's line fetched over the crossbar (R125). -/
inductive WalkAnswer where
  | absent | lost
  | form (f : Form)
  deriving DecidableEq, Repr

/-- One resident context (R65). -/
structure Ctx where
  state : CtxState := .free
  /-- Bundle index of the next bundle; 8192 makes the next fetch raise ILLEGAL (R18). -/
  pc : BitVec 14 := 0
  x : Vector XReg 64 := Vector.replicate 64 {}
  c : Vector CReg 32 := Vector.replicate 32 {}
  p : Vector Bool 16 := (Vector.replicate 16 false).set 0 true
  k : Vector MaskReg 8 := (Vector.replicate 8 {}).set 0 { bits := BitVec.allOnes 256 }
  s : Vector StreamReg 16 := Vector.replicate 16 {}
  d : Vector Desc 16 := Vector.replicate 16 {}
  sys : SysRegs := {}
  loops : Vector LoopEntry 4 := Vector.replicate 4 {}
  /-- The gang's priority level (R76). -/
  prio : BitVec 2 := 0
  /-- Waits of the last bundle that are still pending (R23). -/
  waits : List Pending := []
  /-- Asynchronous faults that are due (R537). -/
  due : List DueFault := []
  /-- Wait counter of the progress rule (R78). -/
  waitCnt : Nat := 0
  /-- The memory operations of the load and store queues, in program order (R361). -/
  mq : List MemOp := []
  /-- The range tracker's 64 ranged entries and the catch-all (R367). -/
  track : Vector TrackEntry 64 := Vector.replicate 64 {}
  catchAll : TrackEntry := {}
  /-- Extent entries of the task (R399). -/
  extents : List Extent := []
  /-- Answers of finished walks for the bundle at hand: (space, object, page) and what was found; for scratchpad space (core, line). -/
  answers : List (Space × Nat × Nat × WalkAnswer) := []
  /-- The address of the page this context waits for in PAGE: space, object, page; none once the page is resident and only the drain of
  R81 is left. -/
  pageWait : Option (Space × Nat × Nat) := none
  /-- The state in which an eviction found the context (R84, R86). -/
  was : CtxState := .ready
  /-- Frames pinned for the task's life that no extent entry covers (R401). -/
  pins : List Nat := []
  /-- The release of R106 has been put in the queue. -/
  drainRel : Bool := false
  /-- The last YIELD of this context is to be passed over at the next selection (R101). -/
  yielded : Bool := false
  deriving DecidableEq, Repr

-- The core

/-- A write to a line: data, which of its 128 bytes are written, and whether the line lands as poison (R278). -/
structure LineWrite where
  line : Nat
  data : LineData
  mask : BitVec 128
  poison : Bool := false
  deriving DecidableEq, Repr

/-- A line that a gather has still to write (R278): its place among the lines of its data registers, what it writes, the lanes of it that have
not landed, by their places in the run of data registers, and whether it is of the last register. -/
structure GatherLine where
  index : Nat
  write : LineWrite
  lanes : List Nat
  last : Bool
  deriving DecidableEq, Repr

/-- What an operation in flight does when it lands (R53 to R55, R117, R237, R254, R284). -/
inductive Landing where
  /-- A result into its unit's bypass register (R54). -/
  | bypass (u : VUnit) (v : VReg)
  /-- Lines written, full from then on (R53). -/
  | lines (ws : List LineWrite)
  /-- Flags into FSTAT (R237). -/
  | fstat (flags : BitVec 5)
  /-- A magnitude into AMAX (R254). -/
  | amax (v : BitVec 32)
  /-- A compare's mask (R55). -/
  | mask (r : BitVec 3) (v : BitVec 256)
  /-- A scalar result (R117, R270). -/
  | xreg (r : BitVec 6) (v : Word)
  /-- An MMA's terms: for each row, one register of 64 terms per block (R300, R301); whether it is residue-checked and
  was replayed (R303, R304); its bundle and tile field. -/
  | mma (t : Nat) (ow : Bool) (rows : List (List VReg)) (b : Nat) (rchk replayed : Bool) (pc : Nat) (tile : BitVec 6)
  /-- Tile rows written (R309, R310). -/
  | tileRows (t : Nat) (rows : List (Nat × VReg))
  /-- A tile cleared, or marked released (R307). -/
  | tileClear (t : Nat) (released : Bool)
  /-- A tile freed (R284). -/
  | tileFree (t : Nat)
  /-- A gather: each of its lines is written once its lanes are in, and never before its cycle. `last` collects the last data register,
  and `fills` says that bp0 is still to take it, no later operation of VA having done so (R54, R278). -/
  | gather (ws : List GatherLine) (last : VReg) (fills : Bool)
  /-- The terms of a replayed MMA accepted: RESC counts the replay and its busy time (R304). -/
  | accepted (b : Nat)
  /-- A VLTLD, which has written CTAB over these entries at its issue (R273). -/
  | ctab (old : Vector Word 4)
  deriving DecidableEq, Repr

/-- An operation in flight: who issued it, in which slot and at which core cycle, and the core cycle at which it lands (R546). The flights
of one operation have the slot and the cycle of its issue in common. -/
structure Flight where
  id : Nat
  k : BitVec 2
  due : Nat
  what : Landing
  unit_ : Slot := .va
  since : Nat := 0
  deriving DecidableEq, Repr

/-- An engine's occupation: the first cycle at which it is free by the busy times (R46), the first at which a replay
leaves it free (R304), the context that used it last and its draw per busy cycle (R544). -/
structure EngState where
  until_ : Nat := 0
  replay : Nat := 0
  owner : BitVec 2 := 0
  weight : Nat := 0
  deriving DecidableEq, Repr

/-- A vector bypass register (R54). -/
structure Bypass where
  val : VReg := 0
  full : Bool := true
  deriving DecidableEq, Repr

/-- The commands of the copy slots that take a buffer entry (R329). -/
inductive CopyOp where
  | get | put | getp | xfer | bget | putr
  deriving DecidableEq, Repr

/-- How far a copy command has come (R319, R320, R335). -/
inductive CopyPhase where
  /-- Timed, and its TIME is not reached. -/
  | timed
  /-- Waiting for one of the 16 places, since this TNOW. -/
  | eligible (since : Nat)
  /-- Active and waiting for its acquire. -/
  | acquiring
  /-- Moving data. -/
  | active
  /-- Every byte moved; waiting for its release. -/
  | releasing
  /-- Failed with a cause; kept until its fault is delivered (R337). -/
  | failed (cause : BitVec 8)
  deriving DecidableEq, Repr

/-- Bytes on their way, with the tag of each 16-byte granule where the bytes are granule-aligned, and the form in which
they arrive. -/
structure Fetched where
  bytes : List (BitVec 8)
  tags : List Bool := []
  poison : Bool := false
  form : Form := .plain
  attach : Option Attach := none
  deriving DecidableEq, Repr

/-- A pending copy command (R317 to R337). -/
structure Copy where
  id : Nat
  k : BitVec 2
  op : CopyOp
  phase : CopyPhase
  desc : Desc
  scope : BitVec 3 := 0
  /-- The scope whose acquire it still performs once active (R333). -/
  acq : Option (BitVec 3) := none
  rel : Bool := false
  timed : Bool := false
  tag : BitVec 8 := 0
  slot : Nat := 4
  pc : Nat := 0
  ref : Option ArrRef := none
  /-- Pieces (row × 2^18 + line of the row) not yet moved; the pages of a BGET. `id` is also the place in program
  order: every queue operation with a smaller number is earlier. -/
  todo : List Nat := []
  /-- Pieces of these for which a request is out (R321), and what has been read for a piece that may not be written yet (R372). -/
  reqs : List Nat := []
  got : List (Nat × Fetched) := []
  /-- Writes sent and not acknowledged: write, piece, bytes. -/
  acks : List (Nat × Nat × Nat) := []
  /-- A contribution of it was refused at its root (R532). -/
  refused : Bool := false
  /-- Local lines, physical, written (GET, GETP) or held (PUT, XFER, PUTR). -/
  lines : List Nat := []
  /-- Destination lines that it made empty and has not filled: keys of the line table (R331, R340). -/
  unfilled : List Nat := []
  /-- Bytes not yet subtracted from the arrival object (R334). -/
  bytesLeft : Nat := 0
  /-- A BGET of kind 1 or 2 has its lease (R342). -/
  granted : Bool := false
  /-- What its lease acquire carried when it was sent (R416). -/
  sent : LeaseSent := { now := 0, lt := 0, gen := 0 }
  /-- Accesses that its release waits for. -/
  relWaits : List Nat := []
  /-- Translations in use: object, page and the frame pinned for them (R408). -/
  pins : List (Nat × Nat × Nat) := []
  /-- Index within the extent of the first byte not delivered, once it has failed (R337). -/
  failByte : Nat := 0
  deriving DecidableEq, Repr

/-- A SEAL or OPEN command in the core's cipher unit (R475 to R478). -/
structure CipherJob where
  id : Nat
  k : BitVec 2
  open_ : Bool
  first : Nat
  count : Nat
  done : Nat := 0
  world : BitVec 4
  region : Nat
  index : Nat
  /-- The minor counters that a SEAL took, line by line, and the major counter that each goes with: those of lines from one whose counter stood
  at 255 on are taken by the re-key (R477). -/
  minors : List (BitVec 8) := []
  majors : List (BitVec 56) := []
  deriving DecidableEq, Repr

/-- A core: its four contexts and what they share (R65). -/
structure Core where
  ctxs : Vector Ctx 4 := Vector.replicate 4 {}
  /-- The context in RUN, or the one that ran last. -/
  cur : BitVec 2 := 0
  /-- The context that issued last; none since package reset (R77). -/
  last : Option (BitVec 2) := none
  /-- Cycles of a switch still to pass (R77). -/
  switchLeft : Nat := 0
  /-- Consecutive idle cycles, the clock gate, and the cycles left of a wake (R79). -/
  idle : Nat := 0
  gated : Bool := false
  wakeLeft : Nat := 0
  /-- Non-freeze cycles since package reset (R546). -/
  cyc : Nat := 0
  va : EngState := {}
  vb : EngState := {}
  m : EngState := {}
  bp0 : Bypass := {}
  bp1 : Bypass := {}
  flights : List Flight := []
  /-- Source lines still to be read, and the cycle from which they may be written (R52, R299). -/
  reads : List (Nat × Nat) := []
  copies : List Copy := []
  /-- The command whose turn it is, and the bytes of the requests it has made in it (R320). -/
  turn : Nat × Nat := (0, 0)
  /-- The TNOW at which the engine last moved bytes into the scratchpad, and out of it (R321). -/
  movedIn : Option Word := none
  movedOut : Option Word := none
  cipher : List CipherJob := []
  /-- Current limit (R547) and the draws of the previous cycles, latest first, at most 31 (R545). -/
  ilim : BitVec 16 := 0xFFFF
  draws : List Nat := []
  /-- A voltage monitor holds the core's domain in freeze cycles (R546, R548). -/
  droop : Bool := false
  /-- The world the core belongs to, whether it is being cleared on leaving one, and the program that its instruction memory holds:
  object, offset and bundles, and in world 0 the launch (R17, R466, R468). -/
  world : BitVec 4 := 0
  clearing : Bool := false
  program : Option (Nat × Nat × Nat × Nat) := none
  /-- The scrubber's next line and next tile (R196, R288). -/
  scrubLine : Nat := 0
  scrubTile : Nat := 0
  /-- The TNOW of the last step of each scrubber. -/
  scrubAt : Word := 0
  scrubTileAt : Word := 0
  /-- The line that a scrub step holds, and the TNOW until which it does (R196). -/
  scrubHeld : Option (Nat × Nat) := none
  /-- A bundle has issued in this cycle, with the draw of its scalar, copy, system and control words (R544). -/
  issued : Option Nat := none
  deriving DecidableEq, Repr

/-- A scratchpad line's metadata (R183). -/
structure LineMeta where
  full : Bool := true
  form : Form := .plain
  tag : BitVec 8 := 0
  owner : BitVec 2 := 0
  attach : Option Attach := none
  deriving DecidableEq, Repr

/-- A region of a protected world (R470), with what Onyx holds of it while its state is held: `head` is the chain head
that the launch carries, `minors` the minor counters that are not zero, `recMinors` those of the record, `leaves` the tree's
leaf digests as its nodes hold them, and `rekeyed` says that a re-key has written every line (R477, R479, R482). -/
structure Region where
  kind : BitVec 2 := 0
  state : BitVec 2 := 0
  obj : Nat := 0
  page0 : Nat := 0
  pages : Nat := 0
  major : BitVec 56 := 0
  token : BitVec 64 := 0
  root : BitVec 256 := 0
  head : BitVec 384 := 0
  minors : Tab (BitVec 8) := []
  recMinors : Tab (BitVec 8) := []
  leaves : List (BitVec 256) := []
  clean : Bool := true
  rekeyed : Bool := false
  deriving DecidableEq, Repr

/-- A protected world (R465, R469, R470, R483): its tenant, key, measurement, the programs already measured, its region
table, image counter and integrity log. -/
structure World where
  tenant : BitVec 4
  key : BitVec 256
  meas : BitVec 384 := 0
  measured : List (BitVec 256) := []
  regions : Tab Region := []
  imageCtr : BitVec 64 := 0
  integrity : Nat := 0
  deriving DecidableEq, Repr

/-- An update of an arrival object by a copy or a reduction that has not been applied yet (R334, R349, R534). -/
structure ObjUpdate where
  id : Nat
  ref : ArrRef
  bytes : Nat
  er : Bool
  /-- An arrival of count 1 and 0 bytes, in place of a subtraction (R534). -/
  arrive : Bool := false
  /-- The record that its reduction posts after it (R534). -/
  rec_ : Option (BitVec 4 × Record) := none
  deriving DecidableEq, Repr

/-- An element of a reduction that has contributions: exact sum, special-value word, count and result (R531, R533). -/
structure Element where
  sum : Int := 0
  word : BitVec 32 := 0
  cnt : Nat := 0
  res : BitVec 32 := 0
  deriving DecidableEq, Repr

/-- The NOTE of a reduction: an arrival reference in cluster form, and the gang and stage whose region it names (R531). -/
structure Note where
  ref : Word
  launch : BitVec 32
  gang : BitVec 16
  stage : BitVec 4
  deriving DecidableEq, Repr

/-- A reduction rooted on this package (R531). -/
structure Reduction where
  tenant : BitVec 4
  obj : Nat
  off : Nat
  nelem : Nat
  bf16 : Bool
  expect : Nat
  token : BitVec 64
  note : Option Note := none
  evt : Bool := false
  elems : Tab Element := []
  extra : Bool := false
  deriving DecidableEq, Repr

-- The merge unit

/-- What a merge-unit command does: its lines are relative to the allotment at `base` (R453, R457). -/
inductive MgKind where
  | match_ (tile row0 nrows col0 ncols : Nat) (new_ : Bool)
  | sel (m count n : Nat) (init : Bool)
  | merge (m src dst rl : Nat)
  | unmerge (m src dst rl : Nat)
  | logs (m dst : Nat)
  deriving DecidableEq, Repr

/-- A merge-unit command: who issued it, since when it runs and how long, the physical lines it has
still to read, and those that it fills (R463). -/
structure MgCmd where
  id : Nat
  g : Nat
  k : BitVec 2
  base : Nat
  kind : MgKind
  started : Option Word := none
  cycles : Nat
  reads : List Nat := []
  fills : List Nat := []
  deriving DecidableEq, Repr

/-- A cluster's merge unit (R449 to R452): its owner and when it last issued a command, the match state by A index (score
bits and B index), the commands in order, and the MGMATCH bundles that have tried to issue and do not own it, in the order of their first
attempts: core, context and bundle, with the TNOW of the attempt. -/
structure MergeUnit where
  owner : Option (Nat × BitVec 2) := none
  ownerCmd : Word := 0
  entries : Tab (BitVec 32 × Nat) := []
  queue : List MgCmd := []
  claims : List (Nat × BitVec 2 × Nat × Word) := []
  deriving DecidableEq, Repr

-- Links and topology

/-- A port of the link dies (R515 to R519): lane maps by fibre and wavelength, link sequence numbers, the last 256 flits
sent, whether the receiver discards until a resend, consecutive failures, and corrected symbols by lane (lane, or 32 + lane for the
receive direction). -/
structure Port where
  txMap : BitVec 32 := 0xFFFFFFFF
  rxMap : BitVec 32 := 0xFFFFFFFF
  txSeq : BitVec 8 := 0
  rxSeq : BitVec 8 := 0
  replay : List (BitVec 96 × List (BitVec 8)) := []
  discarding : Bool := false
  fails : Nat := 0
  symbols : Tab Nat := []
  /-- The corrected symbols of the last part of the time, a lane and a TNOW each (R522). -/
  recent : List (Nat × Word) := []
  /-- The flits next to arrive that an uncorrectable codeword carries (R517). -/
  spoiled : Nat := 0
  /-- In slot mode: flits to be sent again, and link-control flits, which go before any other through this port (R519, R527). -/
  resend : List (BitVec 96 × List (BitVec 8)) := []
  deriving DecidableEq, Repr

/-- A flit that its source keeps until it is acknowledged (R525): the number by which its copy waits for it, the link die that
holds it (R416), and the port through which it has left (R516). -/
structure OutFlit where
  id : Nat
  ld : Nat
  via : Option Nat := none
  header : BitVec 96
  payload : List (BitVec 8)
  deriving DecidableEq, Repr

/-- The source side of a pair of packages (R523 to R525): the next SEQ, the first one not acknowledged, the window granted, the flits
kept, and the flits that a topology change keeps from being admitted, which have no SEQ yet (R530). -/
structure PairOut where
  seq : BitVec 32 := 0
  acked : BitVec 32 := 0
  window : Nat := 16
  kept : List OutFlit := []
  held : List OutFlit := []
  deriving DecidableEq, Repr

/-- The destination side of a pair: the next SEQ to deliver, the flits that came early, each with the link die whose reorder buffer holds it,
and the window granted (R523, R524); the flits delivered to the units that have not been dealt with, the number of the flit that refuses the first of
them, and the parts of an armed message that have come (R505, R532, R533). -/
structure PairIn where
  next : BitVec 32 := 0
  early : List (Nat × BitVec 96 × List (BitVec 8)) := []
  window : Nat := 16
  ready : List (BitVec 96 × List (BitVec 8)) := []
  refusing : Option Nat := none
  parts : List (BitVec 8) := []
  deriving DecidableEq, Repr

/-- A discretionary lane change that waits for a veto: port, direction, fibre, the lanes that it readmits and retires, and the TNOW at which it
is made (R521). -/
structure LaneChange where
  port : Nat
  tx : Bool
  fibre : BitVec 2
  set : BitVec 8
  clear : BitVec 8
  at_ : Word
  deriving DecidableEq, Repr

/-- A topology change under way (R530): its coordinator and tables, the TNOW at which it began here, whether this package
coordinates it, the packages that have answered ready, whether this package has drained, and as an endpoint when it last asked, when it last heard
from the coordinator and whether its event for an unreachable coordinator was raised. -/
structure TopoChange where
  coord : Nat
  tables : Nat
  since : Word
  coordinator : Bool
  ready : List Nat := []
  prepared : Bool := false
  asked : Word := 0
  heard : Word := 0
  raised : Bool := false
  deriving DecidableEq, Repr

/-- A routing entry for the contributions to a reduction whose root is another package (R531, R532). -/
structure Route where
  obj : Nat
  off : Nat
  nelem : Nat
  bf16 : Bool
  root : Nat
  deriving DecidableEq, Repr

/-- What the package sends outward beside the pool and the host's memory, oldest first. -/
inductive Sent where
  | casDone (swapped : Bool)
  /-- A flit of 256 bytes: its header, its payload and its CRC (R518). -/
  | flit (port : Nat) (header : BitVec 96) (payload : List (BitVec 8)) (crc : BitVec 32)
  | slotRequest (ld : Nat) (round : Nat) (held : List (Nat × Nat))
  | measurement (block : BitVec 8) (digest : BitVec 384)
  | thermalTrip
  deriving DecidableEq, Repr

/-- The links' shared state (R520 to R532). `tables` numbers the topology, the mode and the package's own place in it; `slot`
and `slotAt` are the current slot of the round and the TNOW of its start, `requested` the link dies that have sent their request for
the next round, and `grants` the grants taken: (round, port, slot, destination). -/
structure Links where
  ports : Tab Port := []
  outs : Tab PairOut := []
  ins : Tab PairIn := []
  tables : Nat := 0
  round : Nat := 0
  slot : Nat := 0
  slotAt : Word := 0
  requested : List Nat := []
  grants : List (Nat × Nat × Nat × Nat) := []
  changes : List LaneChange := []
  /-- The TNOW at which a link die's microcontroller was reset and has not resumed retuning, and whether the margin has ended
  (R522). -/
  held : Tab (Word × Bool) := []
  change : Option TopoChange := none
  /-- The decisions of the changes that this package has coordinated: tables and whether they were committed (R530). -/
  decisions : List (Nat × Bool) := []
  routes : List Route := []
  /-- Flits that are not kept for a pair and wait for a port: forwarded ones and those of types 4 and 6, with the link die that holds each
  (R529). -/
  waiting : List (Nat × BitVec 96 × List (BitVec 8)) := []
  deriving DecidableEq, Repr

/-- A bulk get of Jasper (R445): its launch, the index of its entry, its kind, and the pages not yet resident. -/
structure BulkGet where
  id : Nat
  tenant : BitVec 4
  launch : BitVec 32
  entry : Nat
  kind : Nat
  obj : Nat
  pages : List Nat
  first : Nat
  count : Nat
  granted : Bool := false
  /-- What its last request carried: the TNOW of its sending, LT and the generation (R416, R434). -/
  sent : LeaseSent := { now := 0, lt := 0, gen := 0 }
  /-- Refused with status 0, and when it may be asked again (R446). -/
  retryAt : Option Word := none
  /-- Refused otherwise: the step is held (R446). -/
  stuck : Bool := false
  deriving DecidableEq, Repr

/-- A checkpoint job of a lease unit (R447). -/
structure Job where
  tenant : BitVec 4
  list : List (Nat × Nat)
  src : Nat
  dst : Nat
  copied : Nat := 0
  deriving DecidableEq, Repr

-- The memory system

/-- A line's class in a cluster cache (R355, R374). -/
inductive LineClass where
  | own | other | pool
  deriving DecidableEq, Repr

/-- The contents of a line outside the scratchpad: data, granule tags and poisoned granules (R172, R542). -/
structure LineVal where
  data : LineData := 0
  tags : BitVec 8 := 0
  poison : BitVec 8 := 0
  deriving DecidableEq, Repr

/-- A line of a cluster cache (R355): the object's line, its contents, class, generation, the copy of rts of a pool
line, the pin bit with the cycle since which it has answered RETRY, and its writes not yet acknowledged. -/
structure CLine where
  obj : Nat
  line : Nat
  val : LineVal
  cls : LineClass
  gen : BitVec 4
  rts : BitVec 24 := 0
  frame : Nat := 0
  pin : Bool := false
  retrySince : Option Word := none
  unacked : Nat := 0
  /-- Its copy had expired when a page lease was granted on its page: the lease does not serve it (R426, R433). -/
  expired : Bool := false
  deriving DecidableEq, Repr

/-- A line of a remote-data cache: the die, the object's line, its contents and, for a pool line, its rts (R357). -/
structure RLine where
  die : Nat
  obj : Nat
  line : Nat
  val : LineVal
  pool : Bool := false
  rts : BitVec 24 := 0
  deriving DecidableEq, Repr

/-- A TLB entry (R399). -/
structure TlbEntry where
  space : Space
  obj : Nat
  page : Nat
  frame : Nat
  gen : BitVec 8
  d : Bool := false
  a : Bool := false
  deriving DecidableEq, Repr

/-- A cluster: its cache, the three generations (R374), its TLB (R399), and a flash-invalidation in progress (R376). -/
structure Cluster where
  cache : List CLine := []
  gOwn : BitVec 4 := 0
  gOther : BitVec 4 := 0
  gPool : BitVec 4 := 0
  tlb : List TlbEntry := []
  flash : Nat := 0
  /-- The TNOW of the last sweep of its gathered D and A bits (R411). -/
  sweptAt : Word := 0
  deriving DecidableEq, Repr

/-- A walk in progress (R399, R407). -/
structure Walk where
  id : Nat
  cluster : Nat
  g : Nat
  k : BitVec 2
  space : Space
  obj : Nat
  page : Nat
  gen : BitVec 8
  version : BitVec 32
  deriving DecidableEq, Repr

/-- A page's state in its object's map (R398). -/
inductive PageState where
  | invalid | resident | moving | lost
  deriving DecidableEq, Repr

/-- A leaf entry of an object map (R398). -/
structure Leaf where
  state : PageState := .invalid
  d : Bool := false
  a : Bool := false
  t : Bool := false
  frame : Nat := 0
  deriving DecidableEq, Repr

/-- An object: its map header (R397), its leaves by page, and the nodes of its tree. `gen` is the generation of the header and `homeGen`
that at the homes: the pool home of a pool object, the L2 homes of a local one (R177, R182). -/
structure ObjMap where
  gen : BitVec 8 := 0
  homeGen : BitVec 8 := 0
  pool : Bool
  tenant : BitVec 4
  levels : BitVec 2
  pages : Nat
  root : BitVec 29 := 0
  /-- Node addresses by level and place: key `level × 2^24 + page >> (9 × level)`, the leaves' nodes being of level 1 (R397). -/
  nodes : Tab (BitVec 29) := []
  leaves : Tab Leaf := []
  /-- Pages of a pool object that are absent at the pool (R405). -/
  absent : List Nat := []
  /-- Its number is retired: it was revoked at generation 255 (R181). -/
  retired : Bool := false
  /-- Deleted (R405). -/
  deleted : Bool := false
  deriving DecidableEq, Repr

/-- A page frame in use: its page, its extent and copy pins (R396, R408). -/
structure FrameRec where
  pool : Bool
  obj : Nat
  page : Nat
  extentPins : Nat := 0
  copyPins : Nat := 0
  deriving DecidableEq, Repr

/-- What a shoot-down is for (R406). -/
inductive ShootFor where
  | migrate (dest : Nat)
  | evict (forService : Bool)
  | setLost
  | revoke
  deriving DecidableEq, Repr

/-- A shoot-down in progress (R406). -/
structure Shoot where
  obj : Nat
  page : Nat
  why : ShootFor
  /-- Accesses that passed their check under the old translation or generation and are still outstanding. -/
  waits : List Nat := []
  deriving DecidableEq, Repr

/-- A page fault or bulk get being served (R403, R404, R342). -/
structure PageService where
  obj : Nat
  page : Nat
  pool : Bool
  die : Nat
  frame : Option Nat := none
  victim : Option (Nat × Nat) := none
  /-- What the bulk get for a pool page carried when it was sent (R416). -/
  sent : LeaseSent := { now := 0, lt := 0, gen := 0 }
  deriving DecidableEq, Repr

/-- The place of a gang and stage: cluster, and for each logical core used its physical core, first line and number
of lines (R68, R69, R149). -/
structure Placement where
  tenant : BitVec 4
  launch : BitVec 32
  gang : BitVec 16
  stage : BitVec 4
  cluster : Nat
  cores : Tab (Nat × Nat × Nat) := []
  deriving DecidableEq, Repr

/-- A line at a pool home (R417): data, tags and poisoned granules, and its two timestamps. -/
structure PoolLine where
  wts : BitVec 24 := 0
  rts : BitVec 24 := 0
  tags : BitVec 8 := 0
  poison : BitVec 8 := 0
  deriving DecidableEq, Repr

-- Launches, queues, tenants and the host

/-- A tenant's event ring (R501): the next slot to give and EVCI, the slots written, the slots given to SIGNAL records
that are not written yet (R102), and the overflow queue. EVPI is the first slot not written. -/
structure EvRing where
  pi : BitVec 32 := 0
  ci : BitVec 32 := 0
  slots : Tab Record := []
  reserved : List (BitVec 32) := []
  overflow : List Record := []
  deriving DecidableEq, Repr

/-- A wait entry of a launch record (R493). -/
structure WaitEntry where
  obj : Nat
  off : Nat
  target : Word
  deriving DecidableEq, Repr

/-- An operand entry of a launch record (R492). -/
structure OperandEntry where
  off : Word
  len : Word
  obj : Nat
  space : Nat
  acc : Nat
  lease : Nat
  bounce : Bool
  chan : Nat
  deriving DecidableEq, Repr

/-- An entry of a step table (R444): step, operand, offset, length and kind. -/
structure StepEntry where
  step : Nat
  opnd : Nat
  off : Nat
  len : Nat
  kind : Nat
  deriving DecidableEq, Repr

/-- A launch that a queue or an armed tag has supplied (R491), with how far it has come: `nextGang` of the current step
to dispatch, tasks of the current step still to leave DRAIN (R107), and what R540 and R500 report. -/
structure Launch where
  tenant : BitVec 4
  number : BitVec 32
  header : BitVec 1024
  waits : List WaitEntry := []
  operands : List OperandEntry := []
  steps : List StepEntry := []
  /-- The first reserved frame of its step table, where it has steps (R443). -/
  table : Option Nat := none
  queue : Option Nat := none
  /-- The queue that supplied it, for as long as it lasts (R487). -/
  origin : Option Nat := none
  armed : Option Nat := none
  prio : BitVec 2 := 0
  argObj : Nat := 0
  argLen : Nat := 0
  checked : Bool := false
  step : Nat := 0
  nextGang : Nat := 0
  tasksLeft : Nat := 0
  firstFault : Option (BitVec 8) := none
  asyncCount : Nat := 0
  asyncFirst : Option (BitVec 8) := none
  stopping : Bool := false
  status : Option (BitVec 8 × BitVec 8) := none
  deriving DecidableEq, Repr

/-- A gang's image (R85): its contexts, the lines and tile rows of each by its place in the list (place × 32768 + line,
(place × 48 + tile) × 64 + row), and the timed or failed commands with the place of their context. -/
structure GangImage where
  tenant : BitVec 4
  launch : BitVec 32
  gang : BitVec 16
  ctxs : List Ctx
  lines : Tab (LineData × LineMeta)
  tileRows : Tab VReg
  copies : List (Nat × Copy)
  /-- Tiles marked released, as place × 48 + tile: an image holds one bit for each (R307, R313). -/
  released : List Nat := []
  /-- The world key and the value of the world's image counter under which Onyx sealed it, the tags of its lines, at twice their number, and of its tile rows, at one
more, and whether a line of it has been lost; no key where the world is open (R483). The lines and rows of a sealed image are ciphertext. -/
  onyx : Option (BitVec 256) := none
  counter : BitVec 64 := 0
  tags : Tab (BitVec 128) := []
  bad : Bool := false
  deriving DecidableEq, Repr

/-- A queue descriptor (R489), and whether the queue is disabled (R490). -/
structure Queue where
  tenant : BitVec 4
  q : Nat
  slot : Nat := 0
  mapped : Bool := false
  pri : BitVec 2 := 0
  pi : BitVec 32 := 0
  ci : BitVec 32 := 0
  log2size : BitVec 5 := 4
  base : Word := 0
  /-- The descriptor as the tenant's function has written it last, and whether it has done so since the queue was disabled (R489, R495). -/
  desc : BitVec 512 := BitVec.ofNat 512 (4 * 2 ^ 64)
  rewritten : Bool := false
  /-- PEND and PV, and the TNOW at which the queue was unmapped (R502). -/
  pend : BitVec 32 := 0
  pv : Bool := false
  unmappedAt : Option Word := none
  disabled : Bool := false
  /-- The record of the unmapped-notify page (R503). -/
  unmapped : Option (BitVec 32) := none
  idleSince : Word := 0
  deriving DecidableEq, Repr

/-- A host window (R507). -/
structure HostWindow where
  obj : Nat
  off : Nat
  size : Nat
  deriving DecidableEq, Repr

/-- An entry of an ingress buffer (R508): arrival order and TNOW of the arrival, window, offset in the window, bytes with their enables. -/
structure Ingress where
  id : Nat
  at_ : Word := 0
  window : Nat
  off : Nat
  bytes : List (Option (BitVec 8))
  deriving DecidableEq, Repr

/-- A bounce-buffer channel (R512). -/
structure Channel where
  base : Word := 0
  size : Nat := 0
  dir : Bool := false
  prod : Word := 0
  cons : Word := 0
  resyncAddr : Word := 0
  resync : Word := 0
  halted : Bool := false
  deriving DecidableEq, Repr

/-- What the package holds for one tenant (R485, R486). -/
structure Tenant where
  weight : BitVec 8 := 1
  llen : BitVec 12 := 16
  rvmode : Bool := false
  qsmode : Bool := false
  otmode : Bool := false
  rnmode : Bool := false
  pfmode : Bool := false
  ring : EvRing := {}
  windows : Tab HostWindow := []
  /-- Windows whose DROP mark is set (R508). -/
  drops : List Nat := []
  ingress : List Ingress := []
  channels : Tab Channel := []
  dispatchReg : Word := 0
  credits : Vector Nat 4 := Vector.replicate 4 1
  /-- The slot last served at each priority (R497). -/
  lastSlot : Vector Nat 4 := Vector.replicate 4 63
  lists : Tab (List (Nat × Nat)) := []
  nextLaunch : BitVec 32 := 0
  deriving DecidableEq, Repr

/-- An entry of the armed table (R504). -/
structure ArmedTag where
  tenant : BitVec 4
  prio : BitVec 2
  obj : Nat
  off : Nat
  payload : List (BitVec 8) := []
  busy : Bool := false
  disarm : Bool := false
  deriving DecidableEq, Repr

/-- The power states (R549). -/
inductive Power where
  | boot | run | quiesce | off
  deriving DecidableEq, Repr

/-- An entry of a die's health log (R542, R543): class, unit, core, location and cycle. -/
structure HealthEntry where
  die : Nat
  cls : BitVec 3
  unit_ : BitVec 3
  g : Nat
  loc : Nat
  tnow : Word
  deriving DecidableEq, Repr

/-- The state of one package, of the pool it reaches and of its host's memory. -/
structure State where
  power : Power := .boot
  tnow : Word := 0
  lt : BitVec 24 := 0
  tstep : BitVec 32 := 4096
  /-- LT as every die of the package sees it in this cycle: a change becomes visible with the next TNOW (R418). -/
  ltSeen : BitVec 24 := 0
  /-- The value of TNOW whose tick of LT has been taken (R418). -/
  lastTick : Word := 0
  /-- The core being stepped and its global number; the other cores that are not in their reset state. -/
  g : Nat := 0
  cr : Core := {}
  others : Tab Core := []
  /-- Register scratchpads: byte `core × 2^22 + b`; and their lines' metadata: line `core × 32768 + l` (R183). -/
  scratch : Memory := []
  lineMeta : Tab LineMeta := []
  /-- Accumulator rows: row `(core × 48 + tile) × 64 + r`, 64 elements (R282); tiles marked released (R307). -/
  tiles : Tab VReg := []
  released : List Nat := []
  /-- Instruction memories: byte `core × 2^18 + b` (R17). -/
  imem : Memory := []
  /-- HBM: byte `frame × 65536 + b`; set granule tags and poisoned granules by number (byte div 16) (R396). -/
  hbm : Memory := []
  hbmTags : List Nat := []
  hbmPoison : List Nat := []
  /-- Timestamps of the lines of frames that cache pool pages: line `byte div 128` (R357, R417). -/
  frameTs : Tab (BitVec 24 × BitVec 24) := []
  /-- The pool homes: byte `object × 2^40 + offset`, and the lines' metadata by line number (R417). -/
  pool : Memory := []
  poolLines : Tab PoolLine := []
  /-- Home time (R417) and page tokens by `object × 2^24 + page` (R428); live leases at the homes (R427). -/
  ht : BitVec 24 := 0
  /-- HT at the pool homes' last visit to their lines, and LT at the part's last visit to its pool copies (R424, R425). -/
  homeAged : BitVec 24 := 0
  /-- HT has passed 2^22 once, so a line without an entry in `poolLines` has been aged (R424). -/
  homeOld : Bool := false
  partAged : BitVec 24 := 0
  pageTokens : Tab (BitVec 64) := []
  homeLeases : List HomeLease := []
  /-- The lease units' entries (R426). -/
  leases : List LeaseEntry := []
  /-- The host port is trained as CXL, so host space is a coherent mapping (R384, R506). -/
  cxl : Bool := false
  /-- Host memory by bus address (R148). -/
  host : Memory := []
  clusters : Tab Cluster := []
  rdc : List RLine := []
  /-- Map version of every die (R406). -/
  version : BitVec 32 := 0
  walks : List Walk := []
  objects : Tab ObjMap := []
  frames : Tab FrameRec := []
  clockHand : Nat := 32768
  /-- The next free 4 KiB node of the reserved frames for object maps (R397). -/
  nextNode : Nat := 0
  shoots : List Shoot := []
  /-- Pages that a PREF has asked for and that are not resident: the die it came from, space, object and page (R343). -/
  prefs : List (Nat × Space × Nat × Nat) := []
  services : List PageService := []
  /-- Writes applied and not yet acknowledged everywhere (R365). -/
  writes : List WriteRec := []
  /-- Updates of arrival objects still to be applied (R334, R534), and notes waiting for their
  gang, each with the record that is posted after its update (R534). -/
  updates : List ObjUpdate := []
  notes : List (BitVec 4 × Note × Option Record) := []
  /-- The reductions of the two collective engines (R531). -/
  reductions : List Reduction := []
  /-- The protected worlds (R465, R470). -/
  worlds : Tab World := []
  /-- The merge units of the clusters (R449). -/
  merge : Tab MergeUnit := []
  /-- Renewals sent and not answered (R431, R437). -/
  renewals : List Renewal := []
  /-- Jasper's bulk gets (R445) and the lease units' background jobs (R447). -/
  bulks : List BulkGet := []
  jobs : List Job := []
  links : Links := {}
  placements : List Placement := []
  tenants : Tab Tenant := []
  launches : List Launch := []
  queues : List Queue := []
  images : List GangImage := []
  armed : Tab ArmedTag := []
  /-- The gang that is reserved, and since when gangs have been passed over, by gang key (R499). -/
  reserved : Option Nat := none
  passed : Tab Word := []
  /-- A dispatch opportunity has arisen and is not over, and the TNOW of the end of the last (R497). -/
  opportunity : Bool := false
  dispatchAt : Word := 0
  /-- Gangs whose eviction was asked for and is under way, and dies that take no dispatch (R84, R542). -/
  evicting : List Nat := []
  deadDies : List Nat := []
  /-- The package has stopped answering (R542, R548). -/
  stopped : Bool := false
  /-- The clocks have stopped after a thermal trip (R548). -/
  clocksStopped : Bool := false
  /-- BAR0 registers without a behaviour of their own, by `function × 2^21 + offset` (R506); BOOTSTAT (R550). -/
  registers : Tab Word := []
  bootstat : Word := 0
  /-- Measurements by SPDM block (R551), and the optical microcontroller's copy of its firmware held since boot (R550). -/
  measures : Tab (BitVec 384) := []
  /-- The latest readings of the monitors (R548): temperature in °C by die × 64 + sensor, voltage by die × 16 + monitor, process by die × 8 + monitor. -/
  temps : Tab (BitVec 16) := []
  volts : Tab (BitVec 16) := []
  procs : Tab (BitVec 16) := []
  /-- What the package has sent outward. -/
  sent : List Sent := []
  /-- Tenant last served at each priority (R498). -/
  lastTenant : Vector Nat 4 := Vector.replicate 4 15
  /-- Records for the operator's function: die and package errors, refusals (R542). -/
  pf0 : List Record := []
  /-- The health logs, oldest entry first, and the error counters by `die × 64 + class × 8 + unit` (R543). -/
  health : List HealthEntry := []
  healthCnt : Tab Nat := []
  /-- The event at hand; none while a core's bundle is taken. -/
  event : Option Event := none
  /-- What the outside world has done and the package has not yet taken: the host, the operator, the board, the fabric
  and the hardware's own errors, in order. -/
  inputs : List Event := []
  /-- What the host's processors do to its memory, oldest first (R559). -/
  hostActs : List HostAct := []
  /-- The next number for an entry of a queue. -/
  nextId : Nat := 1
  /-- How many free choices have been taken: the model's own field. -/
  tick : Nat := 0
  deriving DecidableEq, Repr

/-- The package right after package reset (R549): in BOOT, with every context FREE, every line zero, full and plain
(R183), TNOW and LT 0, TSTEP 4096 (R91), and every ILIM 0xFFFF (R547). -/
def State.reset : State := {}

end Sys2Proof.Machine
end

