-- ==== Sys2Proof/Machine/Ops.lean ====
section
/-! DEFINITION. The named operations over memory, tables, registers and lines, the taking of a fault (R536 to R541) and
the return from one (R105). -/

namespace Sys2Proof.Machine

-- Tables and memories

/-- The entry of a key. -/
def tabGet {α : Type} : Tab α → Nat → Option α
  | [], _ => none
  | (k, v) :: rest, key => if k = key then some v else tabGet rest key

/-- The table with a key's entry replaced or added in its place. -/
def tabSet {α : Type} : Tab α → Nat → α → Tab α
  | [], key, v => [(key, v)]
  | (k, w) :: rest, key, v =>
    if key < k then (key, v) :: (k, w) :: rest
    else if key = k then (key, v) :: rest
    else (k, w) :: tabSet rest key v

/-- The table without a key. -/
def tabErase {α : Type} (t : Tab α) (key : Nat) : Tab α := t.filter (fun e => e.1 != key)

/-- The table without the keys of [lo, hi). -/
def tabEraseRange {α : Type} (t : Tab α) (lo hi : Nat) : Tab α := t.filter (fun e => !(lo ≤ e.1 && e.1 < hi))

/-- One byte; an unlisted byte reads as zero (R183; HBM, pool and host: a DESIGN CHOICE of the log). -/
def memByte : Memory → Nat → BitVec 8
  | [], _ => 0
  | (k, v) :: rest, a => if k = a then v else memByte rest a

/-- The canonical cells of bytes laid from an address. -/
def memCells : Nat → List (BitVec 8) → Memory
  | _, [] => []
  | a, b :: bs => if b = 0 then memCells (a + 1) bs else (a, b) :: memCells (a + 1) bs

/-- Bytes written from an address upwards. -/
def memWrite (m : Memory) (a : Nat) (bs : List (BitVec 8)) : Memory :=
  m.filter (fun c => c.1 < a) ++ (memCells a bs ++ m.filter (fun c => a + bs.length ≤ c.1))

/-- `n` bytes read from an address upwards. -/
def memRead (m : Memory) (a n : Nat) : List (BitVec 8) :=
  let near := m.filter (fun c => a ≤ c.1 && c.1 < a + n)
  (List.range n).map (fun i => memByte near (a + i))

/-- Every byte of [lo, hi) zero. -/
def memClear (m : Memory) (lo hi : Nat) : Memory := m.filter (fun c => !(lo ≤ c.1 && c.1 < hi))

/-- Rising addresses from `lo` and no zero byte. -/
def memWfFrom : Nat → Memory → Bool
  | _, [] => true
  | lo, (a, b) :: rest => decide (lo ≤ a) && (b != 0) && memWfFrom (a + 1) rest

/-- The canonical form of a memory. -/
def Memory.wf (m : Memory) : Bool := memWfFrom 0 m

/-- Little-endian number of bytes (R10). -/
def leNat : List (BitVec 8) → Nat
  | [] => 0
  | b :: bs => b.toNat + 256 * leNat bs

/-- The `n` little-endian bytes of a number (R10). -/
def leBytes : Nat → Nat → List (BitVec 8)
  | 0, _ => []
  | n + 1, v => BitVec.ofNat 8 v :: leBytes n (v / 256)

/-- Bits [h:l] of a number. -/
def bitsOf (v h l : Nat) : Nat := v / 2 ^ l % 2 ^ (h + 1 - l)

/-- Each bit of a byte mask as eight bits. -/
def expandMask (m : BitVec 128) : LineData :=
  BitVec.ofNat 1024 (leNat ((List.range 128).map (fun i => if m.getLsbD i then 0xFF else 0)))

/-- The bytes that a mask names taken from `new_`, the others from `old`. -/
def mergeBytes (old new_ : LineData) (m : BitVec 128) : LineData :=
  if m = BitVec.allOnes 128 then new_
  else
    let e := expandMask m
    (new_ &&& e) ||| (old &&& ~~~e)

/-- The granules of a line that a byte mask touches (R172). -/
def maskGranules (m : BitVec 128) : BitVec 8 :=
  BitVec.ofNat 8 ((List.range 8).foldl (fun acc g => if m.toNat / 2 ^ (16 * g) % 65536 = 0 then acc else acc + 2 ^ g) 0)

/-- The byte mask of `n` bytes from byte `a` of a line. -/
def byteMask (a n : Nat) : BitVec 128 := BitVec.ofNat 128 ((2 ^ n - 1) * 2 ^ a)

-- The contexts and cores

/-- The context being stepped. -/
def State.ctx (s : State) : Ctx := s.cr.ctxs[s.cr.cur.toNat]

/-- A context of the core at hand. -/
def State.ctxAt (s : State) (k : BitVec 2) : Ctx := s.cr.ctxs[k.toNat]

/-- The core at hand replaced. -/
def State.setCore (s : State) (c : Core) : State := { s with cr := c }

/-- A context of the core at hand replaced. -/
def State.setCtxAt (s : State) (k : BitVec 2) (c : Ctx) : State :=
  { s with cr := { s.cr with ctxs := s.cr.ctxs.set k.toNat c } }

/-- The context being stepped replaced. -/
def State.setCtx (s : State) (c : Ctx) : State := s.setCtxAt s.cr.cur c

/-- The context being stepped changed. -/
def State.modCtx (s : State) (f : Ctx → Ctx) : State := s.setCtx (f s.ctx)

/-- A context of the core at hand changed. -/
def State.modCtxAt (s : State) (k : BitVec 2) (f : Ctx → Ctx) : State := s.setCtxAt k (f (s.ctxAt k))

/-- Every context of the package changed. -/
def State.mapCtxs (s : State) (f : Ctx → Ctx) : State :=
  { s with
    cr := { s.cr with ctxs := s.cr.ctxs.map f }
    others := s.others.map (fun e => (e.1, { e.2 with ctxs := e.2.ctxs.map f })) }

/-- A core of the package by its global number. -/
def State.coreAt (s : State) (g : Nat) : Core := if g = s.g then s.cr else (tabGet s.others g).getD {}

/-- A core of the package replaced. -/
def State.setCoreAt (s : State) (g : Nat) (c : Core) : State :=
  if g = s.g then { s with cr := c } else { s with others := tabSet s.others g c }

/-- Another core taken to be stepped. -/
def State.focus (s : State) (g : Nat) : State :=
  if g = s.g then s
  else { s with g := g, cr := s.coreAt g, others := tabErase (tabSet s.others s.g s.cr) g }

/-- A fresh number for an entry of a queue. -/
def State.fresh (s : State) : State := { s with nextId := s.nextId + 1 }

/-- The global number of a core's cluster (R2). -/
def clusterOf (g : Nat) : Nat := g / 16

/-- A cluster's compute die (R2). -/
def dieOfCluster (cl : Nat) : Nat := cl / 12

/-- The home die of a frame (R3, R395). -/
def frameDie (f : Nat) : Nat := f / 2 ^ 21 / 2

-- Scalar, predicate, mask and capability registers

/-- Whether a scalar register is empty; x0 never is (R111). -/
def Ctx.xEmpty (c : Ctx) (r : BitVec 6) : Bool := r != 0 && !(c.x[r.toNat]).full

/-- Whether a scalar register is full and poisoned (R113). -/
def Ctx.xPoison (c : Ctx) (r : BitVec 6) : Bool := r != 0 && (c.x[r.toNat]).full && (c.x[r.toNat]).poison

/-- A scalar register's value; x0 reads as zero (R111). -/
def Ctx.xVal (c : Ctx) (r : BitVec 6) : Word := if r = 0 then 0 else (c.x[r.toNat]).val

/-- A scalar register written: full and free of poison (R113); a write to x0 is discarded (R27). -/
def Ctx.setX (c : Ctx) (r : BitVec 6) (v : Word) : Ctx :=
  if r = 0 then c else { c with x := c.x.set r.toNat { val := v } }

/-- A scalar register marked empty (R49). -/
def Ctx.emptyX (c : Ctx) (r : BitVec 6) : Ctx :=
  if r = 0 then c else { c with x := c.x.set r.toNat { val := (c.x[r.toNat]).val, full := false } }

/-- A scalar register filled with poison (R130). -/
def Ctx.poisonX (c : Ctx) (r : BitVec 6) : Ctx :=
  if r = 0 then c else { c with x := c.x.set r.toNat { val := (c.x[r.toNat]).val, full := true, poison := true } }

/-- A predicate; p0 reads as 1 (R114). -/
def Ctx.pVal (c : Ctx) (r : BitVec 4) : Bool := if r = 0 then true else c.p[r.toNat]

/-- A predicate written; a write to p0 is discarded (R114). -/
def Ctx.setP (c : Ctx) (r : BitVec 4) (v : Bool) : Ctx := if r = 0 then c else { c with p := c.p.set r.toNat v }

/-- A mask register's bits; k0 is all ones (R73). -/
def Ctx.kVal (c : Ctx) (r : BitVec 3) : BitVec 256 := if r = 0 then BitVec.allOnes 256 else (c.k[r.toNat]).bits

/-- Whether a compare has still to write a mask (R55). -/
def Ctx.kEmpty (c : Ctx) (r : BitVec 3) : Bool := r != 0 && !(c.k[r.toNat]).full

/-- A mask register written; a write to k0 is discarded (R34). -/
def Ctx.setK (c : Ctx) (r : BitVec 3) (v : MaskReg) : Ctx := if r = 0 then c else { c with k := c.k.set r.toNat v }

/-- A capability register's value; c0 reads as null (R145). -/
def Ctx.cVal (c : Ctx) (r : BitVec 5) : Cap := if r = 0 then {} else (c.c[r.toNat]).cap

/-- Whether a capability register is empty (R157). -/
def Ctx.cEmpty (c : Ctx) (r : BitVec 5) : Bool := r != 0 && !(c.c[r.toNat]).full

/-- Whether a capability register is full and poisoned (R157). -/
def Ctx.cPoison (c : Ctx) (r : BitVec 5) : Bool := r != 0 && (c.c[r.toNat]).full && (c.c[r.toNat]).poison

/-- A capability register written (R157). -/
def Ctx.setC (c : Ctx) (r : BitVec 5) (v : Cap) : Ctx :=
  if r = 0 then c else { c with c := c.c.set r.toNat { cap := v } }

/-- A capability register marked empty (R157). -/
def Ctx.emptyC (c : Ctx) (r : BitVec 5) : Ctx :=
  if r = 0 then c else { c with c := c.c.set r.toNat { cap := (c.c[r.toNat]).cap, full := false } }

/-- A capability register filled with poison (R171). -/
def Ctx.poisonC (c : Ctx) (r : BitVec 5) : Ctx :=
  if r = 0 then c else { c with c := c.c.set r.toNat { cap := (c.c[r.toNat]).cap, full := true, poison := true } }

/-- TNOW goes up by one, and the changes of LT become visible (R4, R418). -/
def State.nextTnow (s : State) : State := { s with tnow := s.tnow + 1, ltSeen := s.lt }

/-- LCLK: TNOW less the context's freeze cycles (R91). -/
def lclk (tnow : Word) (c : Ctx) : Word := tnow - c.sys.frz

-- Lines

/-- The key of a line of a core in the line table. -/
def lineKey (g l : Nat) : Nat := g * 32768 + l

/-- A line's metadata; the reset metadata where nothing else was written (R183). -/
def State.metaAt (s : State) (key : Nat) : LineMeta := (tabGet s.lineMeta key).getD {}

/-- A line's metadata replaced. -/
def State.setMeta (s : State) (key : Nat) (m : LineMeta) : State := { s with lineMeta := tabSet s.lineMeta key m }

/-- A line's 128 bytes. -/
def State.lineAt (s : State) (key : Nat) : LineData := BitVec.ofNat 1024 (leNat (memRead s.scratch (key * 128) 128))

/-- A line's full/empty bit written. -/
def State.setFull (s : State) (key : Nat) (f : Bool) : State := s.setMeta key { s.metaAt key with full := f }

/-- A write to some bytes of a line: the bytes, the tags of the granules it touches cleared (R173), and, when every
byte is written, the form (R194). -/
def State.writeLine (s : State) (key : Nat) (data : LineData) (mask : BitVec 128) (form : Form) : State :=
  let m := s.metaAt key
  let d := mergeBytes (s.lineAt key) data mask
  let s := { s with scratch := memWrite s.scratch (key * 128) (leBytes 128 d.toNat) }
  let whole := mask = BitVec.allOnes 128
  s.setMeta key { m with
    tag := m.tag &&& ~~~(maskGranules mask)
    form := if whole then form else m.form
    attach := if whole then none else m.attach }

/-- A line zeroed, full, plain, its tags clear, owned by a context (R73, R188). -/
def State.zeroLine (s : State) (key : Nat) (owner : BitVec 2) : State :=
  ({ s with scratch := memClear s.scratch (key * 128) (key * 128 + 128) }).setMeta key { owner := owner }

/-- Some bytes of a core's scratchpad. -/
def State.scratchRead (s : State) (g byte n : Nat) : List (BitVec 8) := memRead s.scratch (g * 2 ^ 22 + byte) n

-- Accumulator tiles

/-- The key of a tile's row. -/
def tileKey (g t row : Nat) : Nat := (g * 48 + t) * 64 + row

/-- A tile's row: zero while the tile is marked released (R307). -/
def State.tileRow (s : State) (g t row : Nat) : VReg :=
  if s.released.contains (g * 48 + t) then 0 else (tabGet s.tiles (tileKey g t row)).getD 0

/-- A tile's row written; the first write clears the released mark, the other rows reading as +0 (R307). -/
def State.setTileRow (s : State) (g t row : Nat) (v : VReg) : State :=
  let s := if s.released.contains (g * 48 + t) then
      { s with released := s.released.filter (· != g * 48 + t)
               tiles := tabEraseRange s.tiles (tileKey g t 0) (tileKey g t 64) }
    else s
  { s with tiles := if v = 0 then tabErase s.tiles (tileKey g t row) else tabSet s.tiles (tileKey g t row) v }

/-- A tile cleared to +0. -/
def State.zeroTile (s : State) (g t : Nat) : State :=
  { s with released := s.released.filter (· != g * 48 + t)
           tiles := tabEraseRange s.tiles (tileKey g t 0) (tileKey g t 64) }

-- Flights

/-- The core cycle at which a line that is empty will fill, where a vector or matrix result fixes it (R53, R75). -/
def Core.lineFixed (c : Core) (line : Nat) : Bool :=
  c.flights.any (fun f => match f.what with
    | .lines ws => ws.any (fun w => w.line = line)
    | _ => false)

/-- Whether a tile's busy bit is set by an operation in flight (R284). -/
def Landing.tile : Landing → Option Nat
  | .mma t .. => some t
  | .tileRows t _ => some t
  | .tileClear t _ => some t
  | .tileFree t => some t
  | _ => none

/-- A tile that an MGMATCH of the core at hand has still to read (R455). -/
def State.mergeReads (s : State) (t : Nat) : Bool :=
  match tabGet s.merge (clusterOf s.g) with
  | some u => u.queue.any (fun m => m.g == s.g && (match m.kind with
      | .match_ tile .. => tile == t
      | _ => false))
  | none => false

/-- A tile is busy (R284). -/
def Core.tileBusy (c : Core) (t : Nat) : Bool := c.flights.any (fun f => f.what.tile = some t)

/-- A tile is busy only because of MMAs (R286). -/
def Core.tileMmaOnly (c : Core) (t : Nat) : Bool :=
  c.flights.all (fun f => match f.what with
    | .mma .. => true
    | w => w.tile != some t)

/-- An operation put in flight. -/
def State.addFlight (s : State) (u : Slot) (k : BitVec 2) (due : Nat) (w : Landing) : State :=
  { s with
    nextId := s.nextId + 1
    cr := { s.cr with flights := s.cr.flights ++ [{ id := s.nextId, k := k, due := due, what := w, unit_ := u, since := s.cr.cyc }] } }

-- Loop stack

/-- Entry 0 removed: entries 1 to 3 move down and entry 3 is cleared (R139). -/
def popLoop (l : Vector LoopEntry 4) : Vector LoopEntry 4 :=
  ((((l.set 0 l[1]).set 1 l[2]).set 2 l[3]).set 3 {})

/-- An entry pushed (R138). -/
def pushLoop (l : Vector LoopEntry 4) (e : LoopEntry) : Vector LoopEntry 4 :=
  ((((l.set 3 l[2]).set 2 l[1]).set 1 l[0]).set 0 e)

/-- An entry is valid and a bundle lies inside its body (R138). -/
def LoopEntry.holds (e : LoopEntry) (target : Nat) : Bool := e.v && decide (e.start.toNat ≤ target) && decide (target ≤ e.last.toNat)

/-- Some entry of the loop stack is valid. -/
def someLoop (l : Vector LoopEntry 4) : Bool := l[0].v || l[1].v || l[2].v || l[3].v

/-- Entries removed until the target lies inside entry 0's body or no valid entry remains (R141); the stack holds four. An invalid
entry above a valid one (R143) has no body. -/
def unwindLoops (fuel : Nat) (l : Vector LoopEntry 4) (target : Nat) : Vector LoopEntry 4 :=
  match fuel with
  | 0 => l
  | n + 1 => if someLoop l && !(l[0].holds target) then unwindLoops n (popLoop l) target else l

-- Faults

/-- The codes of R536. -/
inductive Code where
  | illegal | schedule | emptyTrap | capTag | capBounds | capPerm | capSealed | capStale | capSpace | align
  | lineRange | tileRange | form | integrity | page | fenced | barrierOverrun | mergeStateLost | residue | eccUncorr
  | trap | break_ | copyFault | world
  deriving DecidableEq, Repr

/-- A code's number (R536). -/
def Code.num : Code → BitVec 8
  | .illegal => 0x01 | .schedule => 0x02 | .emptyTrap => 0x03 | .capTag => 0x04 | .capBounds => 0x05
  | .capPerm => 0x06 | .capSealed => 0x07 | .capStale => 0x08 | .capSpace => 0x09 | .align => 0x0A
  | .lineRange => 0x0B | .tileRange => 0x0C | .form => 0x0D | .integrity => 0x0E | .page => 0x0F | .fenced => 0x10
  | .barrierOverrun => 0x11 | .mergeStateLost => 0x12 | .residue => 0x13 | .eccUncorr => 0x14 | .trap => 0x15
  | .break_ => 0x16 | .copyFault => 0x17 | .world => 0x18

/-- A fault with its information registers. -/
structure Trap where
  code : BitVec 8
  trapi : Word := 0
  trapl : BitVec 128 := 0
  /-- Delivered with TRAPC.ASYNC = 1 (R315). -/
  async : Bool := false
  deriving DecidableEq, Repr

/-- What becomes of the context (R536, R539); the numbers are the FATE field of R541. -/
inductive Fate where
  | halt | task | gang | launch
  deriving DecidableEq, Repr

/-- The number of a fate (R541). -/
def Fate.num : Fate → Nat
  | .halt => 0 | .task => 1 | .gang => 2 | .launch => 3

/-- The launch of a context. -/
def State.launchOf (s : State) (c : Ctx) : Option Launch :=
  s.launches.find? (fun l => l.tenant = c.sys.tenant && l.number = c.sys.launch)

/-- A launch changed. -/
def State.modLaunch (s : State) (tenant : BitVec 4) (number : BitVec 32) (f : Launch → Launch) : State :=
  { s with launches := s.launches.map (fun l => if l.tenant = tenant && l.number = number then f l else l) }

/-- FPOL of a context's launch (R491); 00 for a context whose launch the package does not list. -/
def State.fpol (s : State) (c : Ctx) : Nat :=
  match s.launchOf c with
  | some l => bitsOf l.header.toNat 7 6
  | none => 0

/-- The fate of a fault other than PAGE (R536, R539). -/
def fateOf (fpol : Nat) (code : BitVec 8) : Fate :=
  if code = Code.trap.num || code = Code.break_.num then .halt
  else
    let ends := code = Code.integrity.num || code = Code.residue.num || code = Code.eccUncorr.num
    match fpol with
    | 0 => if ends then .task else .halt
    | 1 => .task
    | 2 => .gang
    | _ => .launch

/-- TRAPC: bundle index, ASYNC and code (R92). -/
def trapcWord (pc : Nat) (async : Bool) (code : BitVec 8) : Word :=
  BitVec.ofNat 64 (pc % 8192 * 65536 + (if async then 256 else 0) + code.toNat)

/-- A tenant's record, as it stands after reset where nothing changed it. -/
def State.tenant (s : State) (t : BitVec 4) : Tenant := (tabGet s.tenants t.toNat).getD {}

/-- A tenant changed. -/
def State.modTenant (s : State) (t : BitVec 4) (f : Tenant → Tenant) : State :=
  { s with tenants := tabSet s.tenants t.toNat (f (s.tenant t)) }

/-- The ring has 4096 records that the tenant has not consumed (R501). -/
def EvRing.isFull (r : EvRing) : Bool := r.pi - r.ci == 4096#32

/-- EVPI as software reads it: the first slot that is not written (R501). -/
def EvRing.evpi (r : EvRing) : BitVec 32 :=
  match r.reserved with
  | [] => r.pi
  | i :: _ => i

/-- The next slot reserved for a SIGNAL record (R102). -/
def EvRing.reserve (r : EvRing) : EvRing := { r with reserved := r.reserved ++ [r.pi], pi := r.pi + 1 }

/-- A reserved slot written (R102). -/
def EvRing.fill (r : EvRing) (i : BitVec 32) (rec : Record) : EvRing :=
  { r with slots := tabSet r.slots (i.toNat % 4096) rec, reserved := r.reserved.filter (· != i) }

/-- A record placed in the next slot. -/
def EvRing.put (r : EvRing) (rec : Record) : EvRing :=
  { r with slots := tabSet r.slots (r.pi.toNat % 4096) rec, pi := r.pi + 1 }

/-- A command-processor record posted: into the ring, or behind the overflow when the ring is full (R501). -/
def EvRing.post (r : EvRing) (rec : Record) : EvRing :=
  if r.isFull || !r.overflow.isEmpty then { r with overflow := r.overflow ++ [rec] } else r.put rec

/-- A record posted to a tenant's event ring (R501). -/
def State.postRecord (s : State) (t : BitVec 4) (rec : Record) : State :=
  s.modTenant t (fun te => { te with ring := te.ring.post rec })

/-- What a record holds, behind a number for its sort. -/
def Record.fields : Record → List Nat
  | .fault bits => [0, bits.toNat]
  | .signal t l g k st b i v now => [1, t.toNat, l.toNat, g.toNat, k.toNat, st.toNat, b, i.toNat, v.toNat, now.toNat]
  | .completion t l st n f => [2, t.toNat, l.toNat, st.toNat, n, match f with | some c => c.toNat + 1 | none => 0]
  | .queueError q e => [3, q, e.toNat]
  | .queueDisabled q => [4, q]
  | .pageFault o p => [5, o, p]
  | .leaseHalfTerm o p t => [6, o, p, t.toNat]
  | .sweep => [7]
  | .retune ld => [8, ld]
  | .laneRetired p => [9, p]
  | .channelHalted ch => [10, ch]
  | .unmappedNotify q => [11, q]
  | .reduction o f st => [12, o, f, st.toNat]
  | .region w r h b => [13, w, r, h.toNat, b.toNat]
  | .revoked o g => [14, o, g.toNat]
  | .leaseEvent o p st => [15, o, p, st]
  | .stepHeld l st => [16, l.toNat, st]
  | .jobDone a b n => [17, a, b, n]
  | .noteDropped l => [18, l.toNat]
  | .unreachable c => [19, c]
  | .hot d t => [20, d, t]
  | .error c d now => [21, c.toNat, d, now.toNat]

/-- The 64 bytes of a record: a fault record's as R541 lays them out; of the others the KIND where a rule gives it, the rest left open (R495, R501, R542). -/
def Record.bits (r : Record) : BitVec 512 :=
  let open_ := Config.recordBits r.fields
  let kind := fun (n : BitVec 512) => (open_ &&& ~~~(0xFF : BitVec 512)) ||| n
  match r with
  | .fault bits => bits
  | .error .. => kind 0x02
  | .queueError .. => kind 0x03
  | _ => open_

/-- What a slot of a tenant's event ring holds in HBM (R501): the 64 bytes of the record written there last. -/
def State.ringBytes (s : State) (t : BitVec 4) (slot : Nat) : Option (List (BitVec 8)) :=
  (tabGet (s.tenant t).ring.slots slot).map (fun r => leBytes 64 r.bits.toNat)

/-- A dispatch opportunity arises: resources have become free, or a notify or a wait has changed what is ready (R497). -/
def State.opportune (s : State) : State := { s with opportunity := true }

/-- The newest 4096 entries of one die among all entries (R543). -/
def trimHealth (die : Nat) (l : List HealthEntry) : List HealthEntry :=
  if 4096 < (l.filter (fun e => e.die == die)).length then
    match l.find? (fun e => e.die == die) with
    | some e => l.erase e
    | none => l
  else l

/-- An error entered in its die's health log: the newest 4096 entries stay, and the counter of its class and unit
saturates at 2^32 − 1 (R542, R543; the counter's width is a DESIGN CHOICE of the log). -/
def State.logHealth (s : State) (die : Nat) (cls unit_ : BitVec 3) (g loc : Nat) : State :=
  let key := die * 64 + cls.toNat * 8 + unit_.toNat
  { s with health := trimHealth die (s.health ++ [{ die := die, cls := cls, unit_ := unit_, g := g, loc := loc, tnow := s.tnow }])
           healthCnt := tabSet s.healthCnt key (min (2 ^ 32 - 1) ((tabGet s.healthCnt key).getD 0 + 1)) }

/-- Fields of a record: (value, lowest bit). -/
def packFields (fs : List (Nat × Nat)) : Nat := fs.foldl (fun acc f => acc + f.1 * 2 ^ f.2) 0

/-- CTX as software reads it (R88). -/
def SysRegs.ctxWord (r : SysRegs) : Word :=
  BitVec.ofNat 64 (packFields [(r.lcore.toNat, 16), (r.die.toNat, 10), (r.cluster.toNat, 6), (r.core.toNat, 2), (r.kself.toNat, 0)])

/-- One piece of an image, as Onyx writes it and as it reads it again: the same keystream both ways (R483; DESIGN CHOICE of the log). -/
def GangImage.crypt {w : Nat} (i : GangImage) (n : Nat) (d : BitVec w) : BitVec w :=
  match i.onyx with
  | some key => d ^^^ (Config.imagePad key i.counter n).setWidth w
  | none => d

/-- A fault record (R541); a protected world's TRAPI, TRAPL and STEP are written as zero (R467). -/
def faultRecord (tnow : Word) (c : Ctx) (fate : Fate) : BitVec 512 :=
  let r := c.sys
  let hide := fun (v : Nat) => if r.world = 0 then v else 0
  BitVec.ofNat 512 (packFields [
    (tnow.toNat, 448), (hide r.trapi.toNat, 384), (hide r.trapl1.toNat, 320), (hide r.trapl0.toNat, 256),
    (r.launch.toNat, 224), (r.gang.toNat, 208), (r.task.toNat, 202), (r.stage.toNat, 198), (hide r.step.toNat, 128),
    (r.trapc.toNat % 2 ^ 32, 96), (r.tenant.toNat, 92), (r.world.toNat, 88), (r.ctxWord.toNat, 64), (fate.num, 8), (1, 0)])

/-- The task enters DRAIN (R106). -/
def Ctx.enterDrain (c : Ctx) : Ctx := { c with state := .drain, waits := [] }

/-- The context still runs its task. -/
def Ctx.live (c : Ctx) : Bool := c.state != .free && c.state != .drain

/-- Same launch, and same gang when asked. -/
def Ctx.sameWork (a b : Ctx) (gangToo : Bool) : Bool :=
  a.sys.tenant = b.sys.tenant && a.sys.launch = b.sys.launch && (!gangToo || a.sys.gang = b.sys.gang)

/-- A context that leaves its core with its image written: its task is the image's from then on (R84). -/
def Ctx.handedOver (c : Ctx) : Bool := c.state == .evicting && c.drainRel

/-- Every live task of a context's gang or launch ends because of that context's fault; it posts no record (R539). A task whose image is written
ends there. -/
def State.endWork (s : State) (c : Ctx) (gangToo : Bool) : State :=
  let f := fun (o : Ctx) => if o.live && o.sameWork c gangToo then o.enterDrain else o
  let s := s.mapCtxs (fun o => if o.handedOver then o else f o)
  let s := { s with images := s.images.map (fun i => { i with ctxs := i.ctxs.map f }) }
  if gangToo then s else s.modLaunch c.sys.tenant c.sys.launch (fun l => { l with stopping := true })

/-- A launch notes that a task was ended by a fault (R540). -/
def State.noteFault (s : State) (c : Ctx) (code : BitVec 8) : State :=
  s.modLaunch c.sys.tenant c.sys.launch (fun l => { l with firstFault := match l.firstFault with | some e => some e | none => some code })

/-- TAKING A FAULT, the one operation by which every fault reaches a context (R14, R81, R538, R539, R541): TRAPC, TRAPI
and TRAPL are written; a PAGE fault puts the context into PAGE; any other posts a fault record and puts the context
into HALT, or ends the task, its gang or its launch as the code and the fault policy decide. The context's PC stays
at the bundle to be issued on resumption. Work in flight goes on and lands as it would have (R81). -/
def State.takeFault (s : State) (k : BitVec 2) (t : Trap) (pc : Nat) (async : Bool) : State :=
  let c := s.ctxAt k
  let c := { c with sys := { c.sys with
    trapc := trapcWord pc async t.code
    trapi := t.trapi
    trapl0 := t.trapl.setWidth 64
    trapl1 := (t.trapl >>> 64).setWidth 64 } }
  if t.code = Code.page.num then s.setCtxAt k { c with state := .page, waitCnt := 0 }
  else
    let fate := fateOf (s.fpol c) t.code
    let s := s.postRecord c.sys.tenant (.fault (faultRecord s.tnow c fate))
    match fate with
    | .halt => s.setCtxAt k { c with state := .halt }
    | .task => (s.setCtxAt k c.enterDrain).noteFault c t.code
    | .gang => ((s.setCtxAt k c.enterDrain).noteFault c t.code).endWork c true
    | .launch => ((s.setCtxAt k c.enterDrain).noteFault c t.code).endWork c false

/-- RETURN FROM A FAULT: the command processor resumes a halted context at the PC the fault left (R105). -/
def State.resumeCtx (s : State) (k : BitVec 2) : State :=
  s.modCtxAt k (fun c => if c.state = .halt then { c with state := .ready } else c)

/-- An asynchronous fault becomes due (R537). A fault that arises after the context has entered DRAIN is entered in the
launch's completion record instead (R538). -/
def State.addDue (s : State) (k : BitVec 2) (code : BitVec 8) (trapi : Word) (pc : Option Nat) : State :=
  let c := s.ctxAt k
  if c.state = .drain then
    s.modLaunch c.sys.tenant c.sys.launch (fun l =>
      { l with asyncCount := l.asyncCount + 1, asyncFirst := match l.asyncFirst with | some e => some e | none => some code })
  else s.setCtxAt k { c with due := c.due ++ [{ code := code, due := s.tnow, trapi := trapi, pc := pc }] }

/-- Whether one due fault comes before another: by the TNOW at which it became due, ties by ascending code (R537). -/
def DueFault.before (a b : DueFault) : Bool :=
  a.due.toNat < b.due.toNat || (a.due = b.due && a.code.toNat < b.code.toNat)

/-- The due fault that is delivered first (R537). -/
def firstDue : List DueFault → Option DueFault
  | [] => none
  | f :: rest =>
    match firstDue rest with
    | none => some f
    | some g => if g.before f then some g else some f

/-- An earlier merge-unit command of a context has not retired (R98). -/
def State.mergePending (s : State) (k : BitVec 2) : Bool :=
  match tabGet s.merge (clusterOf s.g) with
  | some u => u.queue.any (fun m => m.g == s.g && m.k == k)
  | none => false

-- Free choices

/-- The next free choice below `n`, and the state with the choice taken. -/
def State.choose (s : State) (n : Nat) : Nat × State := (Config.choice s.tick % n, { s with tick := s.tick + 1 })

end Sys2Proof.Machine
end

