-- ==== Sys2Proof/WellFormed.lean ====
section
/-! DEFINITION. Which slot words are well-formed: every row of R28, R327 and of the instructions' own descriptions that
the fields of the word alone decide. A word that is not well-formed raises ILLEGAL (R25). -/

namespace Sys2Proof

/-- The registers a beats code stands for: 1, 2, 4 or 8 (R32). -/
def regs (n : BitVec 2) : Nat := 2 ^ n.toNat

/-- A group of `n` registers from the vector name `code` stays within v0 to v29 or w0 to w31 (R28, R33). -/
def groupOk (code : BitVec 6) (n : Nat) : Bool :=
  if code.toNat < 30 then decide (code.toNat + n ≤ 30)
  else decide (32 ≤ code.toNat) && decide (code.toNat + n ≤ 64)

/-- A vector destination: never bp0 or bp1, and its group in range (R28). -/
def dstOk (code : BitVec 6) (n : Nat) : Bool := groupOk code n

/-- A vector source: bp0 and bp1 only as a group of one register (R28). -/
def srcOk (code : BitVec 6) (n : Nat) : Bool :=
  if code = 30 ∨ code = 31 then decide (n = 1) else groupOk code n

/-- Tile fields 48 to 63 are ILLEGAL (R28). -/
def tileOk (t : BitVec 6) : Bool := decide (t.toNat < 48)

/-- Scope fields 5 to 7 are ILLEGAL (R28, R39). -/
def scopeOk (s : BitVec 3) : Bool := decide (s.toNat ≤ 4)

/-- The assigned system-register numbers (R63). -/
def sysAssigned (n : Nat) : Bool :=
  decide (n < 50) && !([15, 21, 22, 23, 33, 34, 35].contains n)

/-- The system registers whose Access is not RO (R88 to R93). -/
def sysWritable (n : Nat) : Bool :=
  [8, 9, 10, 11, 12, 13, 14, 24, 25, 26, 27, 28, 29, 30, 31, 32, 41, 42, 44, 45, 46, 47].contains n

/-- A slot word's fields break no rule that they alone decide. An event is always well-formed. -/
def Instr.wellFormed : Instr → Bool
  | .nop => true
  | .fetchPastEnd => true
  | .add _ _ _ => true
  | .sub _ _ _ => true
  | .mul _ _ _ => true
  | .mulh _ _ _ => true
  | .mulhn _ _ _ => true
  | .div _ _ _ => true
  | .divn _ _ _ => true
  | .rem _ _ _ => true
  | .remn _ _ _ => true
  | .and _ _ _ => true
  | .or _ _ _ => true
  | .xor _ _ _ => true
  | .shl _ _ _ => true
  | .shr _ _ _ => true
  | .sar _ _ _ => true
  | .min _ _ _ => true
  | .max _ _ _ => true
  | .minn _ _ _ => true
  | .maxn _ _ _ => true
  | .clz _ _ => true
  | .popc _ _ => true
  | .sel _ _ _ _ => true
  | .addi _ _ _ => true
  | .andi _ _ _ => true
  | .ori _ _ _ => true
  | .xori _ _ _ => true
  | .shli _ _ _ => true
  | .shri _ _ _ => true
  | .sari _ _ _ => true
  | .muli _ _ _ => true
  | .movi _ _ => true
  | .movs _ _ => true
  | .cmpEq _ _ _ => true
  | .cmpNe _ _ _ => true
  | .cmpLt _ _ _ => true
  | .cmpLe _ _ _ => true
  | .cmpLtn _ _ _ => true
  | .cmpLen _ _ _ => true
  | .cmpiEq _ _ _ => true
  | .cmpiNe _ _ _ => true
  | .cmpiLt _ _ _ => true
  | .cmpiLe _ _ _ => true
  | .cmpiGt _ _ _ => true
  | .cmpiGe _ _ _ => true
  | .pand _ _ _ => true
  | .por _ _ _ => true
  | .pxor _ _ _ => true
  | .pnot _ _ => true
  | .ldI8 _ _ _ => true
  | .ldN8 _ _ _ => true
  | .ldI16 _ _ _ => true
  | .ldN16 _ _ _ => true
  | .ldI32 _ _ _ => true
  | .ldN32 _ _ _ => true
  | .ldI64 _ _ _ => true
  | .st8 _ _ _ => true
  | .st16 _ _ _ => true
  | .st32 _ _ _ => true
  | .st64 _ _ _ => true
  | .ldc _ _ _ => true
  | .stc _ _ _ => true
  | .clim _ _ _ => true
  | .climx _ _ _ => true
  | .cmask _ _ _ => true
  | .cadv _ _ _ => true
  | .cadvi _ _ _ => true
  | .cpos _ _ _ => true
  | .cget _ _ s => decide (s.toNat ≤ 8)
  | .cmov _ _ => true
  | .cseal _ _ _ => true
  | .cunseal _ _ _ => true
  | .ctest _ _ b c => decide (c.toNat ≤ 4) && ((c == 1 || c == 2 || b == 0))
  | .cclr _ _ => true
  | .mfs _ n => sysAssigned n.toNat
  | .mts _ n => sysWritable n.toNat
  | .mtdCap _ _ => true
  | .mtdValue _ s _ => (1 ≤ s.toNat && s.toNat ≤ 8)
  | .mtstr _ e _ => decide (e.toNat ≤ 5)
  | .time _ => true
  | .vaddF32 _ n _ _ d a b => dstOk d (regs n) && srcOk a (regs n) && srcOk b (regs n)
  | .vaddBf16 _ n _ _ d a b => dstOk d (regs n) && srcOk a (regs n) && srcOk b (regs n)
  | .vaddI32 _ n _ _ d a b => dstOk d (regs n) && srcOk a (regs n) && srcOk b (regs n)
  | .vaddI16 _ n _ _ d a b => dstOk d (regs n) && srcOk a (regs n) && srcOk b (regs n)
  | .vaddI8 _ n _ _ d a b => dstOk d (regs n) && srcOk a (regs n) && srcOk b (regs n)
  | .vsubF32 _ n _ _ d a b => dstOk d (regs n) && srcOk a (regs n) && srcOk b (regs n)
  | .vsubBf16 _ n _ _ d a b => dstOk d (regs n) && srcOk a (regs n) && srcOk b (regs n)
  | .vsubI32 _ n _ _ d a b => dstOk d (regs n) && srcOk a (regs n) && srcOk b (regs n)
  | .vsubI16 _ n _ _ d a b => dstOk d (regs n) && srcOk a (regs n) && srcOk b (regs n)
  | .vsubI8 _ n _ _ d a b => dstOk d (regs n) && srcOk a (regs n) && srcOk b (regs n)
  | .vmulF32 _ n _ _ d a b => dstOk d (regs n) && srcOk a (regs n) && srcOk b (regs n)
  | .vmulBf16 _ n _ _ d a b => dstOk d (regs n) && srcOk a (regs n) && srcOk b (regs n)
  | .vmulI32 _ n _ _ d a b => dstOk d (regs n) && srcOk a (regs n) && srcOk b (regs n)
  | .vmulI16 _ n _ _ d a b => dstOk d (regs n) && srcOk a (regs n) && srcOk b (regs n)
  | .vfmaF32 _ n _ _ d a b => dstOk d (regs n) && srcOk a (regs n) && srcOk b (regs n)
  | .vfmaBf16 _ n _ _ d a b => dstOk d (regs n) && srcOk a (regs n) && srcOk b (regs n)
  | .vfmsF32 _ n _ _ d a b => dstOk d (regs n) && srcOk a (regs n) && srcOk b (regs n)
  | .vfmsBf16 _ n _ _ d a b => dstOk d (regs n) && srcOk a (regs n) && srcOk b (regs n)
  | .vmaxF32 _ n _ _ d a b => dstOk d (regs n) && srcOk a (regs n) && srcOk b (regs n)
  | .vmaxBf16 _ n _ _ d a b => dstOk d (regs n) && srcOk a (regs n) && srcOk b (regs n)
  | .vmaxI32 _ n _ _ d a b => dstOk d (regs n) && srcOk a (regs n) && srcOk b (regs n)
  | .vmaxI16 _ n _ _ d a b => dstOk d (regs n) && srcOk a (regs n) && srcOk b (regs n)
  | .vmaxI8 _ n _ _ d a b => dstOk d (regs n) && srcOk a (regs n) && srcOk b (regs n)
  | .vminF32 _ n _ _ d a b => dstOk d (regs n) && srcOk a (regs n) && srcOk b (regs n)
  | .vminBf16 _ n _ _ d a b => dstOk d (regs n) && srcOk a (regs n) && srcOk b (regs n)
  | .vminI32 _ n _ _ d a b => dstOk d (regs n) && srcOk a (regs n) && srcOk b (regs n)
  | .vminI16 _ n _ _ d a b => dstOk d (regs n) && srcOk a (regs n) && srcOk b (regs n)
  | .vminI8 _ n _ _ d a b => dstOk d (regs n) && srcOk a (regs n) && srcOk b (regs n)
  | .vabsF32 _ n _ _ d a => dstOk d (regs n) && srcOk a (regs n)
  | .vabsI32 _ n _ _ d a => dstOk d (regs n) && srcOk a (regs n)
  | .vnegF32 _ n _ _ d a => dstOk d (regs n) && srcOk a (regs n)
  | .vnegI32 _ n _ _ d a => dstOk d (regs n) && srcOk a (regs n)
  | .vaddsI16 _ n _ _ d a b => dstOk d (regs n) && srcOk a (regs n) && srcOk b (regs n)
  | .vaddsI8 _ n _ _ d a b => dstOk d (regs n) && srcOk a (regs n) && srcOk b (regs n)
  | .vsubsI16 _ n _ _ d a b => dstOk d (regs n) && srcOk a (regs n) && srcOk b (regs n)
  | .vsubsI8 _ n _ _ d a b => dstOk d (regs n) && srcOk a (regs n) && srcOk b (regs n)
  | .vmulhI32 _ n _ _ d a b => dstOk d (regs n) && srcOk a (regs n) && srcOk b (regs n)
  | .vand _ n _ _ d a b => dstOk d (regs n) && srcOk a (regs n) && srcOk b (regs n)
  | .vor _ n _ _ d a b => dstOk d (regs n) && srcOk a (regs n) && srcOk b (regs n)
  | .vxor _ n _ _ d a b => dstOk d (regs n) && srcOk a (regs n) && srcOk b (regs n)
  | .vnot _ n _ _ d a => dstOk d (regs n) && srcOk a (regs n)
  | .vshlI32 _ n _ _ d a b => dstOk d (regs n) && srcOk a (regs n) && srcOk b (regs n)
  | .vshrI32 _ n _ _ d a b => dstOk d (regs n) && srcOk a (regs n) && srcOk b (regs n)
  | .vsarI32 _ n _ _ d a b => dstOk d (regs n) && srcOk a (regs n) && srcOk b (regs n)
  | .vcmpF32Eq _ n _ _ _ a b => (n != 3) && srcOk a (regs n) && srcOk b (regs n)
  | .vcmpF32Ne _ n _ _ _ a b => (n != 3) && srcOk a (regs n) && srcOk b (regs n)
  | .vcmpF32Lt _ n _ _ _ a b => (n != 3) && srcOk a (regs n) && srcOk b (regs n)
  | .vcmpF32Le _ n _ _ _ a b => (n != 3) && srcOk a (regs n) && srcOk b (regs n)
  | .vcmpI32Eq _ n _ _ _ a b => (n != 3) && srcOk a (regs n) && srcOk b (regs n)
  | .vcmpI32Ne _ n _ _ _ a b => (n != 3) && srcOk a (regs n) && srcOk b (regs n)
  | .vcmpI32Lt _ n _ _ _ a b => (n != 3) && srcOk a (regs n) && srcOk b (regs n)
  | .vcmpI32Le _ n _ _ _ a b => (n != 3) && srcOk a (regs n) && srcOk b (regs n)
  | .vsel _ n _ _ d a b => dstOk d (regs n) && srcOk a (regs n) && srcOk b (regs n)
  | .vbcx32 _ n _ _ d _ => dstOk d (regs n)
  | .vbcx16 _ n _ _ d _ => dstOk d (regs n)
  | .vmov _ n _ _ d a => dstOk d (regs n) && srcOk a (regs n)
  | .vcvtF32Bf16 _ n _ _ d a => dstOk d ((regs n + 1) / 2) && srcOk a (regs n)
  | .vcvtBf16F32 _ n _ _ d a => dstOk d (2 * regs n) && srcOk a (regs n)
  | .vcvtF32I32 _ n _ _ d a => dstOk d (regs n) && srcOk a (regs n)
  | .vcvtI32F32 _ n _ _ d a => dstOk d (regs n) && srcOk a (regs n)
  | .vcvtI32I16 _ n _ _ d a => dstOk d ((regs n + 1) / 2) && srcOk a (regs n)
  | .vcvtI16I32 _ n _ _ d a => dstOk d (2 * regs n) && srcOk a (regs n)
  | .vcvtI16I8 _ n _ _ d a => dstOk d ((regs n + 1) / 2) && srcOk a (regs n)
  | .vcvtI8I16 _ n _ _ d a => dstOk d (2 * regs n) && srcOk a (regs n)
  | .vqntMx8 _ n _ _ d a b => dstOk d ((regs n + 3) / 4) && srcOk a (regs n) && srcOk b 1
  | .vqntMx6 _ n _ _ d a b => dstOk d ((regs n + 3) / 4) && srcOk a (regs n) && srcOk b 1
  | .vqntMx4 _ n _ _ d a b => dstOk d ((regs n + 3) / 4) && srcOk a (regs n) && srcOk b 1
  | .vamaxF32 _ n _ _ a => srcOk a (regs n)
  | .vamaxBf16 _ n _ _ a => srcOk a (regs n)
  | .vdqntMx8 _ n _ _ d a b => dstOk d (regs n) && srcOk a ((regs n + 3) / 4) && srcOk b 1
  | .vdqntMx6 _ n _ _ d a b => dstOk d (regs n) && srcOk a ((regs n + 3) / 4) && srcOk b 1
  | .vdqntMx4 _ n _ _ d a b => dstOk d (regs n) && srcOk a ((regs n + 3) / 4) && srcOk b 1
  | .vplnMx8 _ n _ d a => dstOk d (regs n) && srcOk a (regs n)
  | .vplnMx6 _ n _ d a => dstOk d ((3 * regs n + 3) / 4) && srcOk a (regs n)
  | .vplnMx4 _ n _ d a => dstOk d ((regs n + 1) / 2) && srcOk a (regs n)
  | .vuplnMx8 _ n _ d a => dstOk d (regs n) && srcOk a (regs n)
  | .vuplnMx6 _ n _ d a => dstOk d (regs n) && srcOk a ((3 * regs n + 3) / 4)
  | .vuplnMx4 _ n _ d a => dstOk d (regs n) && srcOk a ((regs n + 1) / 2)
  | .vrcpa _ n _ _ d a => dstOk d (regs n) && srcOk a (regs n)
  | .vrsqa _ n _ _ d a => dstOk d (regs n) && srcOk a (regs n)
  | .vexp2a _ n _ _ d a => dstOk d (regs n) && srcOk a (regs n)
  | .vlog2a _ n _ _ d a => dstOk d (regs n) && srcOk a (regs n)
  | .vrsumF32 _ n _ _ d a => dstOk d 1 && srcOk a (regs n)
  | .vrsumI32 _ n _ _ d a => dstOk d 1 && srcOk a (regs n)
  | .vrmaxF32 _ n _ _ d a => dstOk d 1 && srcOk a (regs n)
  | .vrminF32 _ n _ _ d a => dstOk d 1 && srcOk a (regs n)
  | .vscanI32 _ n _ _ d a => dstOk d (regs n) && srcOk a (regs n)
  | .vtopkF32 _ n _ _ d a _ => dstOk d 2 && srcOk a (regs n)
  | .vperm32 _ n _ _ d a b => dstOk d (regs n) && srcOk a (regs n) && srcOk b (regs n)
  | .vperm16 _ n _ _ d a b => dstOk d (regs n) && srcOk a (regs n) && srcOk b (regs n)
  | .vperm8 _ n _ _ d a b => dstOk d (regs n) && srcOk a (regs n) && srcOk b (regs n)
  | .vrotl32 _ n _ _ d a _ => dstOk d (regs n) && srcOk a (regs n)
  | .vzip32 _ n _ d a b => dstOk d (2 * regs n) && srcOk a (regs n) && srcOk b (regs n)
  | .vunzip32 _ n _ d a b => dstOk d (2 * regs n) && srcOk a (regs n) && srcOk b (regs n)
  | .vxtr32 _ _ _ a _ => srcOk a 1
  | .vins32 _ _ _ d _ _ => dstOk d 1
  | .viota32 _ n _ _ d _ => dstOk d (regs n)
  | .vlutBf16 _ n _ _ d a => dstOk d (regs n) && srcOk a ((regs n + 3) / 4)
  | .vltld _ _ a => srcOk a 1
  | .vgath32 n _ _ d a _ => dstOk d (regs n) && srcOk a (regs n)
  | .vgath16 n _ _ d a _ => dstOk d (regs n) && srcOk a (2 * regs n)
  | .vscat32 n _ _ d a _ => srcOk d (regs n) && srcOk a (regs n)
  | .vscat16 n _ _ d a _ => srcOk d (regs n) && srcOk a (2 * regs n)
  | .mma _ _ t _ => tileOk t
  | .mmaOw _ _ t _ => tileOk t
  | .mzero t => tileOk t
  | .mres t => tileOk t
  | .mrdF32 v t c f => tileOk t && decide (f.toNat + (c.toNat + 1) ≤ 16) && dstOk v (4 * (c.toNat + 1))
  | .mrdBf16 v t c f => tileOk t && decide (f.toNat + (c.toNat + 1) ≤ 16) && dstOk v (2 * (c.toNat + 1))
  | .mwrF32 v t c f => tileOk t && decide (f.toNat + (c.toNat + 1) ≤ 16) && srcOk v (4 * (c.toNat + 1))
  | .mscl v t c f => tileOk t && decide (f.toNat + (c.toNat + 1) ≤ 16) && srcOk v 1
  | .mrowmax v t c f => tileOk t && decide (f.toNat + (c.toNat + 1) ≤ 16) && dstOk v 1
  | .getc _ _ q r s _ _ _ => scopeOk s && ((q == 1 || r == 1 || s == 0))
  | .putc _ _ q r s _ _ _ => scopeOk s && ((q == 1 || r == 1 || s == 0))
  | .getp _ _ q r s _ _ _ => scopeOk s && ((q == 1 || r == 1 || s == 0))
  | .xfer _ _ q r s _ _ _ => scopeOk s && ((q == 1 || r == 1 || s == 0))
  | .bget _ _ _ _ _ => true
  | .pref _ _ => true
  | .putr _ _ q r s _ _ _ => scopeOk s && ((q == 1 || r == 1 || s == 0))
  | .cflush _ _ => true
  | .fence _ _ _ s k => scopeOk s && (k != 0)
  | .fenceall s k => scopeOk s && (k != 0)
  | .lsync => true
  | .aaddI32 _ _ _ s _ _ => scopeOk s
  | .aaddI64 _ _ _ s _ _ => scopeOk s
  | .aminI64 _ _ _ s _ _ => scopeOk s
  | .amaxI64 _ _ _ s _ _ => scopeOk s
  | .aminnN64 _ _ _ s _ _ => scopeOk s
  | .amaxnN64 _ _ _ s _ _ => scopeOk s
  | .aand _ _ _ s _ _ => scopeOk s
  | .aor _ _ _ s _ _ => scopeOk s
  | .axor _ _ _ s _ _ => scopeOk s
  | .axchg _ _ _ s _ _ => scopeOk s
  | .acas _ _ _ s _ _ => scopeOk s
  | .acas2 d _ x s _ _ => scopeOk s && (d.toNat % 2 == 0) && (x.toNat % 2 == 0)
  | .afaddF32 _ _ _ s _ _ => scopeOk s
  | .ainit _ n => (n != 0)
  | .arrive _ _ _ n => (n != 0)
  | .waitph _ _ _ _ => true
  | .lacqR _ _ _ => true
  | .lacqW _ _ _ => true
  | .lrel _ _ _ => true
  | .lrenew _ _ _ => true
  | .harv _ _ _ => true
  | .sealLines _ _ _ => true
  | .openLines _ _ _ => true
  | .hwin _ _ => true
  | .mgmatch t _ _ => tileOk t
  | .mgsel _ _ _ => true
  | .mgmerge _ _ _ => true
  | .mgunm _ _ _ => true
  | .mglogs _ _ => true
  | .trap _ => true
  | .signal _ _ => true
  | .yield => true
  | .br _ _ _ => true
  | .jmp _ _ i => decide (i.toNat < 8192)
  | .jmpx _ _ _ => true
  | .call _ _ i => decide (i.toNat < 8192)
  | .ret _ _ => true
  | .loop _ _ e => (e != 0)
  | .rot _ => true
  | .waitl _ _ => true
  | .waitt t => tileOk t
  | .waitc n => decide (n.toNat ≤ 64)
  | .taskEnd => true
  | .brk _ => true
  | .waitCounterExpiry => true
  | .engineWaitEnd => true
  | .coreClockGate => true
  | .coreWake => true
  | .dispatchOpportunity => true
  | .gangReserve => true
  | .gangEvict => true
  | .evictionComplete => true
  | .gangRestore => true
  | .drainComplete => true
  | .contextResume => true
  | .contextEnd => true
  | .asyncFaultDelivery => true
  | .vectorBypassFill => true
  | .vectorLineWrite => true
  | .maskWrite => true
  | .divideResult => true
  | .loadReturn => true
  | .storeApply => true
  | .writeAck => true
  | .atomicReturn => true
  | .atomicFail => true
  | .gatherLand => true
  | .tileRetire => true
  | .residueReplay => true
  | .residue => true
  | .releaseComplete => true
  | .acquireComplete => true
  | .pinRetryTimeout => true
  | .signalRecordWrite => true
  | .timedEligible => true
  | .copyActivate => true
  | .copyLineLand => true
  | .copyAck => true
  | .copyComplete => true
  | .copyFail => true
  | .arriveApply => true
  | .waitphTimeout => true
  | .tlbWalkEnd => true
  | .pageService => true
  | .pageResident => true
  | .pageServiceFail => true
  | .shootDown => true
  | .shootDownComplete => true
  | .pageMigrate => true
  | .revoke => true
  | .revokeComplete => true
  | .revocationSweep => true
  | .daSweep => true
  | .harvestComplete => true
  | .scrubStep => true
  | .accumulatorScrub => true
  | .mgCommandComplete => true
  | .mergeClaimTimeout => true
  | .mergeClaim => true
  | .cipherLineDone => true
  | .rekey => true
  | .rekeyComplete => true
  | .worldCreate => true
  | .worldDestroy => true
  | .programLoad => true
  | .coreClear => true
  | .spdmGetMeasurements => true
  | .ltTick => true
  | .lineFill => true
  | .copyAgeing => true
  | .writeRefused => true
  | .leaseGrant => true
  | .leaseAcquireTimeout => true
  | .leaseRenewResponse => true
  | .leaseReleaseResponse => true
  | .leaseExpiry => true
  | .leaseRenewalDue => true
  | .bulkGetPage => true
  | .jasperWalk => true
  | .leaseRetry => true
  | .checkpointJob => true
  | .tmodeWrite => true
  | .tenantReset => true
  | .doorbellNotify => true
  | .queueMap => true
  | .queueUnmap => true
  | .dispatchWrite => true
  | .evciWrite => true
  | .armTag => true
  | .disarmTag => true
  | .armedMessage => true
  | .windowOpen => true
  | .windowClose => true
  | .hostWindowWrite => true
  | .channelUpdate => true
  | .channelReset => true
  | .registerWrite => true
  | .flitReceive => true
  | .flitReplay => true
  | .laneMapChange => true
  | .heaterLimit => true
  | .vetoTimeout => true
  | .microcontrollerReset => true
  | .retuneMarginExpiry => true
  | .windowGrant => true
  | .cumulativeAck => true
  | .pathFailureResend => true
  | .arbiterGrant => true
  | .arbiterRequest => true
  | .topologyChangeRequest => true
  | .topologyPrepare => true
  | .topologyCommit => true
  | .topologyAbort => true
  | .prepareTimeout => true
  | .decisionQuery => true
  | .coordinatorUnreachable => true
  | .reductionSetup => true
  | .reductionTeardown => true
  | .contributionArrival => true
  | .ilimSet => true
  | .freezeCycle => true
  | .temperatureSample => true
  | .voltageDroop => true
  | .processSample => true
  | .hardwareError => true
  | .healthLogClear => true
  | .packageReset => true
  | .firmwareLoad => true
  | .quiesce => true
  | .powerOff => true
  | .supplyRecovery => true
  | .laneVeto => true
  | .retuningResume => true
  | .slotStart => true
  | .prepareAnswer => true
  | .objectCreate => true
  | .objectDelete => true
  | .harvestListOpen => true
  | .tstepSet => true
  | .hostLeaseRenewal => true

/-- The slots a word may stand in: the slot class of its row, and the unit where the row has two (R40 to R45).
NOP is the all-zero word of any slot and is listed under S; events stand in none. -/
def Instr.slot? : Instr → Option Slot
  | .nop => some .s
  | .fetchPastEnd => none
  | .add _ _ _ => some .s
  | .sub _ _ _ => some .s
  | .mul _ _ _ => some .s
  | .mulh _ _ _ => some .s
  | .mulhn _ _ _ => some .s
  | .div _ _ _ => some .s
  | .divn _ _ _ => some .s
  | .rem _ _ _ => some .s
  | .remn _ _ _ => some .s
  | .and _ _ _ => some .s
  | .or _ _ _ => some .s
  | .xor _ _ _ => some .s
  | .shl _ _ _ => some .s
  | .shr _ _ _ => some .s
  | .sar _ _ _ => some .s
  | .min _ _ _ => some .s
  | .max _ _ _ => some .s
  | .minn _ _ _ => some .s
  | .maxn _ _ _ => some .s
  | .clz _ _ => some .s
  | .popc _ _ => some .s
  | .sel _ _ _ _ => some .s
  | .addi _ _ _ => some .s
  | .andi _ _ _ => some .s
  | .ori _ _ _ => some .s
  | .xori _ _ _ => some .s
  | .shli _ _ _ => some .s
  | .shri _ _ _ => some .s
  | .sari _ _ _ => some .s
  | .muli _ _ _ => some .s
  | .movi _ _ => some .s
  | .movs _ _ => some .s
  | .cmpEq _ _ _ => some .s
  | .cmpNe _ _ _ => some .s
  | .cmpLt _ _ _ => some .s
  | .cmpLe _ _ _ => some .s
  | .cmpLtn _ _ _ => some .s
  | .cmpLen _ _ _ => some .s
  | .cmpiEq _ _ _ => some .s
  | .cmpiNe _ _ _ => some .s
  | .cmpiLt _ _ _ => some .s
  | .cmpiLe _ _ _ => some .s
  | .cmpiGt _ _ _ => some .s
  | .cmpiGe _ _ _ => some .s
  | .pand _ _ _ => some .s
  | .por _ _ _ => some .s
  | .pxor _ _ _ => some .s
  | .pnot _ _ => some .s
  | .ldI8 _ _ _ => some .s
  | .ldN8 _ _ _ => some .s
  | .ldI16 _ _ _ => some .s
  | .ldN16 _ _ _ => some .s
  | .ldI32 _ _ _ => some .s
  | .ldN32 _ _ _ => some .s
  | .ldI64 _ _ _ => some .s
  | .st8 _ _ _ => some .s
  | .st16 _ _ _ => some .s
  | .st32 _ _ _ => some .s
  | .st64 _ _ _ => some .s
  | .ldc _ _ _ => some .s
  | .stc _ _ _ => some .s
  | .clim _ _ _ => some .s
  | .climx _ _ _ => some .s
  | .cmask _ _ _ => some .s
  | .cadv _ _ _ => some .s
  | .cadvi _ _ _ => some .s
  | .cpos _ _ _ => some .s
  | .cget _ _ _ => some .s
  | .cmov _ _ => some .s
  | .cseal _ _ _ => some .s
  | .cunseal _ _ _ => some .s
  | .ctest _ _ _ _ => some .s
  | .cclr _ _ => some .s
  | .mfs _ _ => some .s
  | .mts _ _ => some .s
  | .mtdCap _ _ => some .s
  | .mtdValue _ _ _ => some .s
  | .mtstr _ _ _ => some .s
  | .time _ => some .s
  | .vaddF32 u _ _ _ _ _ _ => some (match u with | .a => .va | .b => .vb)
  | .vaddBf16 u _ _ _ _ _ _ => some (match u with | .a => .va | .b => .vb)
  | .vaddI32 u _ _ _ _ _ _ => some (match u with | .a => .va | .b => .vb)
  | .vaddI16 u _ _ _ _ _ _ => some (match u with | .a => .va | .b => .vb)
  | .vaddI8 u _ _ _ _ _ _ => some (match u with | .a => .va | .b => .vb)
  | .vsubF32 u _ _ _ _ _ _ => some (match u with | .a => .va | .b => .vb)
  | .vsubBf16 u _ _ _ _ _ _ => some (match u with | .a => .va | .b => .vb)
  | .vsubI32 u _ _ _ _ _ _ => some (match u with | .a => .va | .b => .vb)
  | .vsubI16 u _ _ _ _ _ _ => some (match u with | .a => .va | .b => .vb)
  | .vsubI8 u _ _ _ _ _ _ => some (match u with | .a => .va | .b => .vb)
  | .vmulF32 u _ _ _ _ _ _ => some (match u with | .a => .va | .b => .vb)
  | .vmulBf16 u _ _ _ _ _ _ => some (match u with | .a => .va | .b => .vb)
  | .vmulI32 u _ _ _ _ _ _ => some (match u with | .a => .va | .b => .vb)
  | .vmulI16 u _ _ _ _ _ _ => some (match u with | .a => .va | .b => .vb)
  | .vfmaF32 u _ _ _ _ _ _ => some (match u with | .a => .va | .b => .vb)
  | .vfmaBf16 u _ _ _ _ _ _ => some (match u with | .a => .va | .b => .vb)
  | .vfmsF32 u _ _ _ _ _ _ => some (match u with | .a => .va | .b => .vb)
  | .vfmsBf16 u _ _ _ _ _ _ => some (match u with | .a => .va | .b => .vb)
  | .vmaxF32 u _ _ _ _ _ _ => some (match u with | .a => .va | .b => .vb)
  | .vmaxBf16 u _ _ _ _ _ _ => some (match u with | .a => .va | .b => .vb)
  | .vmaxI32 u _ _ _ _ _ _ => some (match u with | .a => .va | .b => .vb)
  | .vmaxI16 u _ _ _ _ _ _ => some (match u with | .a => .va | .b => .vb)
  | .vmaxI8 u _ _ _ _ _ _ => some (match u with | .a => .va | .b => .vb)
  | .vminF32 u _ _ _ _ _ _ => some (match u with | .a => .va | .b => .vb)
  | .vminBf16 u _ _ _ _ _ _ => some (match u with | .a => .va | .b => .vb)
  | .vminI32 u _ _ _ _ _ _ => some (match u with | .a => .va | .b => .vb)
  | .vminI16 u _ _ _ _ _ _ => some (match u with | .a => .va | .b => .vb)
  | .vminI8 u _ _ _ _ _ _ => some (match u with | .a => .va | .b => .vb)
  | .vabsF32 u _ _ _ _ _ => some (match u with | .a => .va | .b => .vb)
  | .vabsI32 u _ _ _ _ _ => some (match u with | .a => .va | .b => .vb)
  | .vnegF32 u _ _ _ _ _ => some (match u with | .a => .va | .b => .vb)
  | .vnegI32 u _ _ _ _ _ => some (match u with | .a => .va | .b => .vb)
  | .vaddsI16 u _ _ _ _ _ _ => some (match u with | .a => .va | .b => .vb)
  | .vaddsI8 u _ _ _ _ _ _ => some (match u with | .a => .va | .b => .vb)
  | .vsubsI16 u _ _ _ _ _ _ => some (match u with | .a => .va | .b => .vb)
  | .vsubsI8 u _ _ _ _ _ _ => some (match u with | .a => .va | .b => .vb)
  | .vmulhI32 u _ _ _ _ _ _ => some (match u with | .a => .va | .b => .vb)
  | .vand u _ _ _ _ _ _ => some (match u with | .a => .va | .b => .vb)
  | .vor u _ _ _ _ _ _ => some (match u with | .a => .va | .b => .vb)
  | .vxor u _ _ _ _ _ _ => some (match u with | .a => .va | .b => .vb)
  | .vnot u _ _ _ _ _ => some (match u with | .a => .va | .b => .vb)
  | .vshlI32 u _ _ _ _ _ _ => some (match u with | .a => .va | .b => .vb)
  | .vshrI32 u _ _ _ _ _ _ => some (match u with | .a => .va | .b => .vb)
  | .vsarI32 u _ _ _ _ _ _ => some (match u with | .a => .va | .b => .vb)
  | .vcmpF32Eq u _ _ _ _ _ _ => some (match u with | .a => .va | .b => .vb)
  | .vcmpF32Ne u _ _ _ _ _ _ => some (match u with | .a => .va | .b => .vb)
  | .vcmpF32Lt u _ _ _ _ _ _ => some (match u with | .a => .va | .b => .vb)
  | .vcmpF32Le u _ _ _ _ _ _ => some (match u with | .a => .va | .b => .vb)
  | .vcmpI32Eq u _ _ _ _ _ _ => some (match u with | .a => .va | .b => .vb)
  | .vcmpI32Ne u _ _ _ _ _ _ => some (match u with | .a => .va | .b => .vb)
  | .vcmpI32Lt u _ _ _ _ _ _ => some (match u with | .a => .va | .b => .vb)
  | .vcmpI32Le u _ _ _ _ _ _ => some (match u with | .a => .va | .b => .vb)
  | .vsel u _ _ _ _ _ _ => some (match u with | .a => .va | .b => .vb)
  | .vbcx32 u _ _ _ _ _ => some (match u with | .a => .va | .b => .vb)
  | .vbcx16 u _ _ _ _ _ => some (match u with | .a => .va | .b => .vb)
  | .vmov u _ _ _ _ _ => some (match u with | .a => .va | .b => .vb)
  | .vcvtF32Bf16 u _ _ _ _ _ => some (match u with | .a => .va | .b => .vb)
  | .vcvtBf16F32 u _ _ _ _ _ => some (match u with | .a => .va | .b => .vb)
  | .vcvtF32I32 u _ _ _ _ _ => some (match u with | .a => .va | .b => .vb)
  | .vcvtI32F32 u _ _ _ _ _ => some (match u with | .a => .va | .b => .vb)
  | .vcvtI32I16 u _ _ _ _ _ => some (match u with | .a => .va | .b => .vb)
  | .vcvtI16I32 u _ _ _ _ _ => some (match u with | .a => .va | .b => .vb)
  | .vcvtI16I8 u _ _ _ _ _ => some (match u with | .a => .va | .b => .vb)
  | .vcvtI8I16 u _ _ _ _ _ => some (match u with | .a => .va | .b => .vb)
  | .vqntMx8 u _ _ _ _ _ _ => some (match u with | .a => .va | .b => .vb)
  | .vqntMx6 u _ _ _ _ _ _ => some (match u with | .a => .va | .b => .vb)
  | .vqntMx4 u _ _ _ _ _ _ => some (match u with | .a => .va | .b => .vb)
  | .vamaxF32 u _ _ _ _ => some (match u with | .a => .va | .b => .vb)
  | .vamaxBf16 u _ _ _ _ => some (match u with | .a => .va | .b => .vb)
  | .vdqntMx8 u _ _ _ _ _ _ => some (match u with | .a => .va | .b => .vb)
  | .vdqntMx6 u _ _ _ _ _ _ => some (match u with | .a => .va | .b => .vb)
  | .vdqntMx4 u _ _ _ _ _ _ => some (match u with | .a => .va | .b => .vb)
  | .vplnMx8 u _ _ _ _ => some (match u with | .a => .va | .b => .vb)
  | .vplnMx6 u _ _ _ _ => some (match u with | .a => .va | .b => .vb)
  | .vplnMx4 u _ _ _ _ => some (match u with | .a => .va | .b => .vb)
  | .vuplnMx8 u _ _ _ _ => some (match u with | .a => .va | .b => .vb)
  | .vuplnMx6 u _ _ _ _ => some (match u with | .a => .va | .b => .vb)
  | .vuplnMx4 u _ _ _ _ => some (match u with | .a => .va | .b => .vb)
  | .vrcpa u _ _ _ _ _ => some (match u with | .a => .va | .b => .vb)
  | .vrsqa u _ _ _ _ _ => some (match u with | .a => .va | .b => .vb)
  | .vexp2a u _ _ _ _ _ => some (match u with | .a => .va | .b => .vb)
  | .vlog2a u _ _ _ _ _ => some (match u with | .a => .va | .b => .vb)
  | .vrsumF32 u _ _ _ _ _ => some (match u with | .a => .va | .b => .vb)
  | .vrsumI32 u _ _ _ _ _ => some (match u with | .a => .va | .b => .vb)
  | .vrmaxF32 u _ _ _ _ _ => some (match u with | .a => .va | .b => .vb)
  | .vrminF32 u _ _ _ _ _ => some (match u with | .a => .va | .b => .vb)
  | .vscanI32 u _ _ _ _ _ => some (match u with | .a => .va | .b => .vb)
  | .vtopkF32 u _ _ _ _ _ _ => some (match u with | .a => .va | .b => .vb)
  | .vperm32 u _ _ _ _ _ _ => some (match u with | .a => .va | .b => .vb)
  | .vperm16 u _ _ _ _ _ _ => some (match u with | .a => .va | .b => .vb)
  | .vperm8 u _ _ _ _ _ _ => some (match u with | .a => .va | .b => .vb)
  | .vrotl32 u _ _ _ _ _ _ => some (match u with | .a => .va | .b => .vb)
  | .vzip32 u _ _ _ _ _ => some (match u with | .a => .va | .b => .vb)
  | .vunzip32 u _ _ _ _ _ => some (match u with | .a => .va | .b => .vb)
  | .vxtr32 u _ _ _ _ => some (match u with | .a => .va | .b => .vb)
  | .vins32 u _ _ _ _ _ => some (match u with | .a => .va | .b => .vb)
  | .viota32 u _ _ _ _ _ => some (match u with | .a => .va | .b => .vb)
  | .vlutBf16 u _ _ _ _ _ => some (match u with | .a => .va | .b => .vb)
  | .vltld u _ _ => some (match u with | .a => .va | .b => .vb)
  | .vgath32 _ _ _ _ _ _ => some .va
  | .vgath16 _ _ _ _ _ _ => some .va
  | .vscat32 _ _ _ _ _ _ => some .va
  | .vscat16 _ _ _ _ _ _ => some .va
  | .mma _ _ _ _ => some .m
  | .mmaOw _ _ _ _ => some .m
  | .mzero _ => some .m
  | .mres _ => some .m
  | .mrdF32 _ _ _ _ => some .m
  | .mrdBf16 _ _ _ _ => some .m
  | .mwrF32 _ _ _ _ => some .m
  | .mscl _ _ _ _ => some .m
  | .mrowmax _ _ _ _ => some .m
  | .getc u _ _ _ _ _ _ _ => some (match u with | .a => .ca | .b => .cb)
  | .putc u _ _ _ _ _ _ _ => some (match u with | .a => .ca | .b => .cb)
  | .getp u _ _ _ _ _ _ _ => some (match u with | .a => .ca | .b => .cb)
  | .xfer u _ _ _ _ _ _ _ => some (match u with | .a => .ca | .b => .cb)
  | .bget u _ _ _ _ => some (match u with | .a => .ca | .b => .cb)
  | .pref u _ => some (match u with | .a => .ca | .b => .cb)
  | .putr u _ _ _ _ _ _ _ => some (match u with | .a => .ca | .b => .cb)
  | .cflush u _ => some (match u with | .a => .ca | .b => .cb)
  | .fence _ _ _ _ _ => some .y
  | .fenceall _ _ => some .y
  | .lsync => some .y
  | .aaddI32 _ _ _ _ _ _ => some .y
  | .aaddI64 _ _ _ _ _ _ => some .y
  | .aminI64 _ _ _ _ _ _ => some .y
  | .amaxI64 _ _ _ _ _ _ => some .y
  | .aminnN64 _ _ _ _ _ _ => some .y
  | .amaxnN64 _ _ _ _ _ _ => some .y
  | .aand _ _ _ _ _ _ => some .y
  | .aor _ _ _ _ _ _ => some .y
  | .axor _ _ _ _ _ _ => some .y
  | .axchg _ _ _ _ _ _ => some .y
  | .acas _ _ _ _ _ _ => some .y
  | .acas2 _ _ _ _ _ _ => some .y
  | .afaddF32 _ _ _ _ _ _ => some .y
  | .ainit _ _ => some .y
  | .arrive _ _ _ _ => some .y
  | .waitph _ _ _ _ => some .y
  | .lacqR _ _ _ => some .y
  | .lacqW _ _ _ => some .y
  | .lrel _ _ _ => some .y
  | .lrenew _ _ _ => some .y
  | .harv _ _ _ => some .y
  | .sealLines _ _ _ => some .y
  | .openLines _ _ _ => some .y
  | .hwin _ _ => some .y
  | .mgmatch _ _ _ => some .y
  | .mgsel _ _ _ => some .y
  | .mgmerge _ _ _ => some .y
  | .mgunm _ _ _ => some .y
  | .mglogs _ _ => some .y
  | .trap _ => some .y
  | .signal _ _ => some .y
  | .yield => some .y
  | .br _ _ _ => some .b
  | .jmp _ _ _ => some .b
  | .jmpx _ _ _ => some .b
  | .call _ _ _ => some .b
  | .ret _ _ => some .b
  | .loop _ _ _ => some .b
  | .rot _ => some .b
  | .waitl _ _ => some .b
  | .waitt _ => some .b
  | .waitc _ => some .b
  | .taskEnd => some .b
  | .brk _ => some .b
  | .waitCounterExpiry => none
  | .engineWaitEnd => none
  | .coreClockGate => none
  | .coreWake => none
  | .dispatchOpportunity => none
  | .gangReserve => none
  | .gangEvict => none
  | .evictionComplete => none
  | .gangRestore => none
  | .drainComplete => none
  | .contextResume => none
  | .contextEnd => none
  | .asyncFaultDelivery => none
  | .vectorBypassFill => none
  | .vectorLineWrite => none
  | .maskWrite => none
  | .divideResult => none
  | .loadReturn => none
  | .storeApply => none
  | .writeAck => none
  | .atomicReturn => none
  | .atomicFail => none
  | .gatherLand => none
  | .tileRetire => none
  | .residueReplay => none
  | .residue => none
  | .releaseComplete => none
  | .acquireComplete => none
  | .pinRetryTimeout => none
  | .signalRecordWrite => none
  | .timedEligible => none
  | .copyActivate => none
  | .copyLineLand => none
  | .copyAck => none
  | .copyComplete => none
  | .copyFail => none
  | .arriveApply => none
  | .waitphTimeout => none
  | .tlbWalkEnd => none
  | .pageService => none
  | .pageResident => none
  | .pageServiceFail => none
  | .shootDown => none
  | .shootDownComplete => none
  | .pageMigrate => none
  | .revoke => none
  | .revokeComplete => none
  | .revocationSweep => none
  | .daSweep => none
  | .harvestComplete => none
  | .scrubStep => none
  | .accumulatorScrub => none
  | .mgCommandComplete => none
  | .mergeClaimTimeout => none
  | .mergeClaim => none
  | .cipherLineDone => none
  | .rekey => none
  | .rekeyComplete => none
  | .worldCreate => none
  | .worldDestroy => none
  | .programLoad => none
  | .coreClear => none
  | .spdmGetMeasurements => none
  | .ltTick => none
  | .lineFill => none
  | .copyAgeing => none
  | .writeRefused => none
  | .leaseGrant => none
  | .leaseAcquireTimeout => none
  | .leaseRenewResponse => none
  | .leaseReleaseResponse => none
  | .leaseExpiry => none
  | .leaseRenewalDue => none
  | .bulkGetPage => none
  | .jasperWalk => none
  | .leaseRetry => none
  | .checkpointJob => none
  | .tmodeWrite => none
  | .tenantReset => none
  | .doorbellNotify => none
  | .queueMap => none
  | .queueUnmap => none
  | .dispatchWrite => none
  | .evciWrite => none
  | .armTag => none
  | .disarmTag => none
  | .armedMessage => none
  | .windowOpen => none
  | .windowClose => none
  | .hostWindowWrite => none
  | .channelUpdate => none
  | .channelReset => none
  | .registerWrite => none
  | .flitReceive => none
  | .flitReplay => none
  | .laneMapChange => none
  | .heaterLimit => none
  | .vetoTimeout => none
  | .microcontrollerReset => none
  | .retuneMarginExpiry => none
  | .windowGrant => none
  | .cumulativeAck => none
  | .pathFailureResend => none
  | .arbiterGrant => none
  | .arbiterRequest => none
  | .topologyChangeRequest => none
  | .topologyPrepare => none
  | .topologyCommit => none
  | .topologyAbort => none
  | .prepareTimeout => none
  | .decisionQuery => none
  | .coordinatorUnreachable => none
  | .reductionSetup => none
  | .reductionTeardown => none
  | .contributionArrival => none
  | .ilimSet => none
  | .freezeCycle => none
  | .temperatureSample => none
  | .voltageDroop => none
  | .processSample => none
  | .hardwareError => none
  | .healthLogClear => none
  | .packageReset => none
  | .firmwareLoad => none
  | .quiesce => none
  | .powerOff => none
  | .supplyRecovery => none
  | .laneVeto => none
  | .retuningResume => none
  | .slotStart => none
  | .prepareAnswer => none
  | .objectCreate => none
  | .objectDelete => none
  | .harvestListOpen => none
  | .tstepSet => none
  | .hostLeaseRenewal => none

end Sys2Proof
end

