-- ==== Sys2Proof/Machine/Issue.lean ====
section
/-! DEFINITION. The issue of a bundle (R19 to R30, R46 to R48): what each slot word contributes, the choice among its
faults and waits, and the commit of all its effects at once. -/

namespace Sys2Proof.Machine

/-- Why a bundle waits: a short stall keeps the issue width, an engine wait gives it up (R75). -/
inductive Hold where
  | short | engine
  deriving DecidableEq, Repr

/-- Two holds together: an engine wait when either is one (R75). -/
def Hold.join : Option Hold → Option Hold → Option Hold
  | none, h => h
  | h, none => h
  | some .engine, _ => some .engine
  | _, some .engine => some .engine
  | some .short, some .short => some .short

/-- A hold where a condition is met. -/
def holdIf (b : Bool) (h : Hold) : Option Hold := if b then some h else none

/-- The first of a list of faults, in the order of its checks (R29). -/
def firstTrap : List (Option Trap) → Option Trap
  | [] => none
  | some t :: _ => some t
  | none :: rest => firstTrap rest

/-- A fault where a condition is met. -/
def trapIf (b : Bool) (t : Trap) : Option Trap := if b then some t else none

/-- What a slot word writes, as R26 compares it. -/
inductive Dest where
  | x (r : BitVec 6)
  | p (r : BitVec 4)
  | k (r : BitVec 3)
  | c (r : BitVec 5)
  | tile (t : BitVec 6)
  /-- A register of a vector destination group by its 6-bit code, before the windows resolve it: two words that write the register of
  one code write the same lines whatever the windows hold (R26, R29). -/
  | v (r : BitVec 6)
  | sys (n : Nat)
  | stream (r : BitVec 4)
  | desc (r : BitVec 4)
  deriving DecidableEq, Repr

/-- x0, p0, c0 and k0 never conflict (R27, R34). -/
def Dest.real : Dest → Bool
  | .x r => r != 0
  | .p r => r != 0
  | .k r => r != 0
  | .c r => r != 0
  | _ => true

/-- What the B slot does to the sequence of bundles (R22, R38). -/
inductive Ctl where
  /-- No control transfer. -/
  | fall
  /-- A transfer that acts; `unwind` removes the loop entries that do not hold the target (R141). -/
  | goto (target : Nat) (unwind : Bool)
  /-- LOOP with a count that is not zero (R138). -/
  | push (e : LoopEntry)
  /-- LOOP with a count of zero (R138). -/
  | skip (target : Nat)
  /-- END (R106). -/
  | finish
  deriving DecidableEq, Repr

/-- What one slot word contributes to its bundle's issue attempt, all read from the state before the bundle (R20). -/
structure SlotRes where
  slot : Slot
  /-- ILLEGAL that the word alone decides (R25). -/
  illegal : Bool := false
  dests : List Dest := []
  /-- Physical lines of its destination group, compared by R26 once resolved. -/
  lineDests : List Nat := []
  /-- Busy time and draw per busy cycle of the vector or matrix engine it uses (R46, R544). -/
  engine : Option (Nat × Nat) := none
  /-- Its first operand or access fault that can be evaluated now (R29). -/
  trap : Option Trap := none
  /-- What the delivery of that fault changes beside the context (R315). -/
  onTrap : State → State := id
  hold : Option Hold := none
  /-- It names a busy tile, for which it waits and never raises SCHEDULE (R285). -/
  tileWait : Bool := false
  /-- What a held attempt starts: a walk (R125). -/
  onHold : State → State := id
  /-- Draw of the word in its issue cycle (R544). -/
  draw : Nat := 0
  /-- Its effect at the end of the issue cycle. -/
  effect : State → State := id
  ctl : Ctl := .fall
  /-- TRAP or BRK, raised after the bundle has issued (R103, R104). -/
  post : Option Trap := none
  /-- Waits it leaves pending (R23). -/
  waits : List Pending := []
  yields : Bool := false
  /-- Outstanding requests it takes (R132), copy-buffer entries (R317) and hold records (R370). -/
  requests : Nat := 0
  entries : Nat := 0
  records : Nat := 0

/-- The engine of a vector or matrix slot. -/
def Core.engineOf (c : Core) : Slot → Option EngState
  | .va => some c.va
  | .vb => some c.vb
  | .m => some c.m
  | _ => none

/-- An engine changed. -/
def Core.setEngine (c : Core) (sl : Slot) (e : EngState) : Core :=
  match sl with
  | .va => { c with va := e }
  | .vb => { c with vb := e }
  | .m => { c with m := e }
  | _ => c

/-- The context stands at the end bundle of its innermost loop (R139). -/
def Ctx.atLoopEnd (c : Ctx) : Bool := c.loops[0].v && c.loops[0].last.toNat == c.pc.toNat

/-- What the end of an iteration writes: the loop stack, and VRB when the rotation step is not zero (R26, R140). -/
def loopEndDests (c : Ctx) : List Dest :=
  if c.atLoopEnd then
    ([25, 26, 27, 28, 29, 30, 31, 32].map Dest.sys) ++ (if c.loops[0].step = 0 then [] else [.sys 11])
  else []

/-- Every destination of the bundle with the number of its slot. -/
def allDests (rs : List SlotRes) : List (Nat × Dest) :=
  (rs.map (fun r => (r.dests.filter Dest.real).map (fun d => (r.slot.index, d)))).flatten

/-- The lowest-numbered slot that writes what another slot writes (R26, R29). -/
def conflictSlot (ds : List (Nat × Dest)) : Option Nat :=
  (ds.find? (fun a => ds.any (fun b => b.2 == a.2 && b.1 != a.1))).map Prod.fst

/-- ILLEGAL or SCHEDULE against a slot (R30). -/
def slotTrap (code : Code) (slot : Nat) : Trap := { code := code.num, trapi := BitVec.ofNat 64 slot }

/-- ILLEGAL that the slot words alone decide, from the lowest slot that has one (R29 step 2). -/
def staticIllegal (rs : List SlotRes) : Option Nat :=
  let own := (rs.find? (·.illegal)).map (fun r => r.slot.index)
  let con := conflictSlot (allDests rs)
  match own, con with
  | some a, some b => some (min a b)
  | some a, none => some a
  | none, b => b

/-- The engine a word needs was left busy by an earlier bundle of the same context (R47); an M word that waits for its tile raises
no SCHEDULE (R285), and neither does the first bundle after a switch, which waits for every engine (R48). -/
def SlotRes.schedule (r : SlotRes) (c : Core) : Bool :=
  match r.engine, c.engineOf r.slot with
  | some _, some e => c.cyc < e.until_ && e.owner == c.cur && c.last == some c.cur && !r.tileWait
  | _, _ => false

/-- The engine a word needs is busy after a switch (R48) or with a residue replay (R304): a wait that holds the issue width. -/
def SlotRes.engineHold (r : SlotRes) (c : Core) : Option Hold :=
  match r.engine, c.engineOf r.slot with
  | some _, some e => holdIf (c.cyc < e.until_ || c.cyc < e.replay) .short
  | _, _ => none

/-- The part of that wait which the context at hand has left behind itself: the rest counts for no readiness (R48, R74). -/
def SlotRes.ownEngineHold (r : SlotRes) (c : Core) : Option Hold :=
  match c.engineOf r.slot with
  | some e => if e.owner == c.cur then r.engineHold c else none
  | none => none

/-- Conflicts of R26 that depend on the value of a register, first among a word's own checks (R29 step 4): its lines meet those of a later
slot, which the windows and descriptors resolve, or it writes what the end of an iteration writes, which LEND0 decides (R140). -/
def valueConflict (rs : List SlotRes) (c : Ctx) (r : SlotRes) : Option Trap :=
  trapIf (rs.any (fun o => r.slot.index < o.slot.index && o.lineDests.any (fun l => r.lineDests.contains l)) ||
    r.dests.any (fun d => (loopEndDests c).contains d)) (slotTrap .illegal r.slot.index)

-- What the core's resources allow

/-- Requests an operation of the queues has outstanding: loads and stores, gather and scatter lanes, atomics (R132). -/
def MemKind.requests : MemKind → Nat
  | .load .. => 1
  | .store .. => 1
  | .gather .. => 1
  | .atomic .. => 1
  | _ => 0

/-- A copy writes local lines. -/
def CopyOp.fillsLines : CopyOp → Bool
  | .get => true | .getp => true | _ => false

/-- What has been read for a piece that may not be written yet (R372). -/
def Copy.gotFor (m : Copy) (p : Nat) : Option Fetched := (m.got.find? (fun q => q.1 == p)).map Prod.snd

/-- Requests of the copy engine's pieces that are on their way, one for each 128 bytes: a line asked for and not yet read, and a contribution's
until its root acknowledges it (R321, R344). -/
def Core.copyRequests (c : Core) : Nat :=
  (c.copies.map (fun m => (if m.op.fillsLines then (m.reqs.filter (fun p => (m.gotFor p).isNone)).length else 0) +
    (if m.op = .putr then m.acks.length else 0))).foldl (· + ·) 0

/-- Outstanding requests of the core at hand: of its queues, of its copies, and its writes not acknowledged (R132, R321, R366). -/
def State.outstanding (s : State) : Nat :=
  (s.cr.ctxs.toList.map (fun c => (c.mq.map (fun o => o.kind.requests)).foldl (· + ·) 0)).foldl (· + ·) 0 +
    s.cr.copyRequests + (s.writes.filter (fun w => w.g == s.g)).length

/-- A command that has failed. -/
def Copy.hasFailed (m : Copy) : Bool :=
  match m.phase with
  | .failed _ => true
  | _ => false

/-- A command has its local lines as sources, which it holds (R314). -/
def CopyOp.holdsLines : CopyOp → Bool
  | .put => true | .xfer => true | .putr => true | _ => false

/-- Buffer entries a context holds: those of its commands that have not finished (R317). -/
def Core.entriesOf (c : Core) (k : BitVec 2) : Nat := (c.copies.filter (fun m => m.k == k && !m.hasFailed)).length

/-- Hold records a context uses (R370). -/
def Core.recordsOf (c : Core) (k : BitVec 2) : Nat := (c.copies.filter (fun m => m.k == k && m.op.holdsLines)).length

/-- The entries guaranteed to the other resident contexts and not held by them (R318). -/
def Core.shortfall (c : Core) (k : BitVec 2) : Nat :=
  (([0, 1, 2, 3] : List (BitVec 2)).map (fun o =>
    if o = k || (c.ctxs[o.toNat]).state = .free then 0 else 4 - c.entriesOf o)).foldl (· + ·) 0

/-- A context that holds `held` entries can take `n` more of the `free` ones (R318). -/
def entriesFit (shortfall : Nat) : Nat → Nat → Nat → Bool
  | 0, _, _ => true
  | n + 1, held, free =>
    free ≠ 0 && (held < 4 || shortfall ≤ free - 1) && entriesFit shortfall n (held + 1) (free - 1)

/-- COPY_FAULT information of a failed command (R337). -/
def Copy.faultInfo (m : Copy) : Word :=
  let cause := match m.phase with | .failed c => c.toNat | _ => 0
  let op := match m.op with | .get => 1 | .put => 2 | .getp => 3 | .xfer => 4 | .bget => 5 | .putr => 7
  BitVec.ofNat 64 (packFields [(m.failByte, 33), (m.pc, 20), (m.slot - 4, 19), (op, 16), (m.tag.toNat, 8), (cause, 0)])

/-- The COPY_FAULT of a failed command, with TRAPC.ASYNC = 1 (R315, R337). -/
def Copy.fault (m : Copy) : Trap := { code := Code.copyFault.num, trapi := m.faultInfo, async := true }

/-- An access acknowledged or retired: no entry of the tracker counts it any more (R368). -/
def Ctx.retireAccess (c : Ctx) (id : Nat) : Ctx :=
  let drop := fun (e : TrackEntry) =>
    ({ e with stores := e.stores.filter (· != id), copies := e.copies.filter (· != id), atomics := e.atomics.filter (· != id) } : TrackEntry)
  { c with track := c.track.map drop, catchAll := drop c.catchAll }

/-- A command retires: its entry and its hold are gone, and its tracker count drops (R315, R335, R337). -/
def retireCopy (id : Nat) (s : State) : State :=
  match s.cr.copies.find? (fun m => m.id == id) with
  | some m =>
    let s := { s with cr := { s.cr with copies := s.cr.copies.filter (fun m => m.id != id) } }
    s.modCtxAt m.k (fun c => c.retireAccess id)
  | none => s

/-- The lowest-issued of a context's failed commands that hold lines, which blocks its hold records (R370). -/
def Core.failedHolder (c : Core) (k : BitVec 2) : Option Copy :=
  c.copies.find? (fun m => m.k == k && m.op.holdsLines && m.hasFailed)

/-- What a bundle needs in all. -/
def sumOf (f : SlotRes → Nat) (rs : List SlotRes) : Nat := rs.foldl (fun n r => n + f r) 0

/-- COPY_FAULT where two copies of a bundle need more hold records than are free and a failed command holds one (R370). -/
def recordTrap (rs : List SlotRes) (s : State) : Option Copy :=
  if 64 < s.cr.recordsOf s.cr.cur + sumOf SlotRes.records rs && sumOf SlotRes.records rs ≠ 0 then s.cr.failedHolder s.cr.cur else none

/-- The engine wait for requests (R132), entries (R317, R318) or hold records (R370). -/
def resourceHold (rs : List SlotRes) (s : State) : Option Hold :=
  let req := sumOf SlotRes.requests rs
  let held := s.cr.entriesOf s.cr.cur
  let free := 64 - (s.cr.copies.filter (fun m => !m.hasFailed)).length
  let recs := sumOf SlotRes.records rs
  holdIf ((req ≠ 0 && s.outstanding + req > 1024) ||
    !entriesFit (s.cr.shortfall s.cr.cur) (sumOf SlotRes.entries rs) held free ||
    (recs ≠ 0 && s.cr.recordsOf s.cr.cur + recs > 64)) .engine

/-- The outcome of an issue attempt (R29). -/
inductive Verdict where
  | fault (t : Trap) (onTrap : State → State)
  | hold (h : Hold)
  | go

/-- The first slot with an operand or access fault (R29 step 4). -/
def operandTrap (rs : List SlotRes) (c : Ctx) : List SlotRes → Option (Trap × (State → State))
  | [] => none
  | r :: rest =>
    match valueConflict rs c r with
    | some t => some (t, id)
    | none =>
      match r.trap with
      | some t => some (t, r.onTrap)
      | none => operandTrap rs c rest

/-- Exactly one fault, or the waits, or the issue, in the order of R29. -/
def verdict (rs : List SlotRes) (s : State) : Verdict :=
  match staticIllegal rs with
  | some n => .fault (slotTrap .illegal n) id
  | none =>
    match rs.find? (fun r => r.schedule s.cr) with
    | some r => .fault (slotTrap .schedule r.slot.index) id
    | none =>
      match operandTrap rs s.ctx rs with
      | some (t, f) => .fault t f
      | none =>
        match recordTrap rs s with
        | some m => .fault m.fault (retireCopy m.id)
        | none =>
          match rs.foldl (fun h r => Hold.join h (Hold.join r.hold (r.engineHold s.cr))) (resourceHold rs s) with
          | some h => .hold h
          | none => .go

/-- The engines that the bundle's words use become busy (R46). -/
def occupy (rs : List SlotRes) (c : Core) : Core :=
  rs.foldl (fun c r => match r.engine with
    | some (b, w) => c.setEngine r.slot { until_ := c.cyc + b, replay := 0, owner := c.cur, weight := w }
    | none => c) c

/-- The end of an iteration (R139): the count falls, VRB rotates, and the body repeats or the entry goes. -/
def endIteration (c : Ctx) : Ctx :=
  let e := c.loops[0]
  let n := e.cnt - 1
  let vrs := c.sys.vrs.toNat
  let st := e.step.toNat % vrs
  let vrb := if st = 0 then c.sys.vrb else BitVec.ofNat 10 ((c.sys.vrb.toNat + vrs - st) % vrs)
  if n != 0 then
    { c with loops := c.loops.set 0 { e with cnt := n }, sys := { c.sys with vrb := vrb }, pc := e.start.setWidth 14 }
  else
    { c with loops := popLoop c.loops, sys := { c.sys with vrb := vrb }, pc := BitVec.ofNat 14 (e.last.toNat + 1) }

/-- The loop entries that a transfer removes go before any slot takes effect: they are judged by the stack as it stood before the
bundle, and what an MTS of the bundle writes stands after it (R20, R141, R143). -/
def State.leaveLoops (s : State) : Ctl → State
  | .goto t true => s.modCtx (fun c => { c with loops := unwindLoops 4 c.loops t })
  | _ => s

/-- The sequence after an issued bundle (R22, R103, R138 to R140); `ended` says that the bundle stood at the end of entry 0's body as
the stack was before it (R20, R139). -/
def advance (ctl : Ctl) (ended : Bool) (c : Ctx) : Ctx :=
  match ctl with
  | .goto t _ => { c with pc := BitVec.ofNat 14 t }
  | .push e => { c with pc := c.pc + 1, loops := pushLoop c.loops e }
  | .skip t => { c with pc := BitVec.ofNat 14 t }
  | .finish => c.enterDrain
  | .fall => if ended then endIteration c else { c with pc := c.pc + 1 }

/-- The B slot's action on the sequence. -/
def bundleCtl (rs : List SlotRes) : Ctl :=
  match rs.find? (fun r => r.slot == .b) with
  | some r => r.ctl
  | none => .fall

/-- TRAP before BRK (R103). -/
def bundlePost (rs : List SlotRes) : Option Trap := firstTrap (rs.map (·.post))

/-- A TRAP beside an END is entered in the launch's completion record (R103, R538). -/
def State.postAfterEnd (s : State) (c : Ctx) (code : BitVec 8) : State :=
  s.modLaunch c.sys.tenant c.sys.launch (fun l =>
    { l with asyncCount := l.asyncCount + 1, asyncFirst := match l.asyncFirst with | some e => some e | none => some code })

/-- The effects of an issued bundle, all read from the state before it (R19, R20), in slot order (R21). -/
def commit (rs : List SlotRes) (s : State) : State :=
  let c0 := s.ctx
  let k := s.cr.cur
  let ctl := bundleCtl rs
  let s := rs.foldl (fun t r => r.effect t) (s.leaveLoops ctl)
  let s := { s with cr := { occupy rs s.cr with last := some k, issued := some (rs.foldl (fun (n : Nat) (r : SlotRes) => n + r.draw) 0) } }
  let s := s.modCtx (fun c => advance ctl c0.atLoopEnd
    { c with waitCnt := 0, waits := c.waits ++ (rs.map SlotRes.waits).flatten
             yielded := rs.any SlotRes.yields, answers := [] })
  match bundlePost rs with
  | none => s
  | some t => if ctl = .finish then s.postAfterEnd c0 t.code else s.takeFault k t c0.pc.toNat false

/-- One issue attempt of a bundle by the context at hand (R19): it issues whole, or it waits with no effect in any
slot, or it takes one fault with no effect in any slot. -/
def attempt (rs : List SlotRes) (s : State) : State :=
  match verdict rs s with
  | .fault t f => ((f s).modCtx (fun c => { c with answers := [] })).takeFault s.cr.cur t s.ctx.pc.toNat t.async
  | .hold .short => rs.foldl (fun t r => r.onHold t) s
  | .hold .engine => (rs.foldl (fun t r => r.onHold t) s).modCtx (fun c => { c with state := .wait })
  | .go => commit rs s

/-- The bundle whose only word that is not a no-operation is `i`, issued by the context at hand. -/
def runAlone (i : Instr) (r : SlotRes) (s : State) : Host.Outcome State Fault Refusal :=
  .next (attempt [{ r with illegal := r.illegal || !i.wellFormed }] s)

-- Operands that every family reads

/-- INTEGRITY for a poisoned scalar register (R113). -/
def xPoisonTrap (c : Ctx) (r : BitVec 6) : Option Trap :=
  trapIf (c.xPoison r) { code := Code.integrity.num, trapi := r.setWidth 64 }

/-- INTEGRITY for a poisoned capability register (R157). -/
def cPoisonTrap (c : Ctx) (r : BitVec 5) : Option Trap :=
  trapIf (c.cPoison r) { code := Code.integrity.num, trapi := r.setWidth 64 }

/-- The engine wait on an empty scalar register, as a source or as a destination (R50, R51, R112). -/
def xHold (c : Ctx) (r : BitVec 6) : Option Hold := holdIf (c.xEmpty r) .engine

/-- The engine wait on an empty capability register (R157). -/
def cHold (c : Ctx) (r : BitVec 5) : Option Hold := holdIf (c.cEmpty r) .engine

/-- Several holds together. -/
def joinHolds (hs : List (Option Hold)) : Option Hold := hs.foldl Hold.join none

end Sys2Proof.Machine
end

