-- ==== Sys2Proof/Machine/Caps.lean ====
section
/-! DEFINITION. The capability word and its derivations (R144 to R167). -/

namespace Sys2Proof.Machine

/-- The fields of a capability (R144). -/
def Cap.gen (c : Cap) : BitVec 8 := c.bits.extractLsb' 117 8
def Cap.space (c : Cap) : BitVec 3 := c.bits.extractLsb' 114 3
def Cap.otype (c : Cap) : BitVec 4 := c.bits.extractLsb' 110 4
def Cap.perms (c : Cap) : BitVec 12 := c.bits.extractLsb' 98 12
def Cap.lm (c : Cap) : BitVec 14 := c.bits.extractLsb' 84 14
def Cap.bm (c : Cap) : BitVec 14 := c.bits.extractLsb' 70 14
def Cap.e (c : Cap) : BitVec 6 := c.bits.extractLsb' 64 6
def Cap.cursor (c : Cap) : Word := c.bits.setWidth 64

/-- The word of its fields (R144). -/
def capBits (gen : BitVec 8) (space : BitVec 3) (otype : BitVec 4) (perms : BitVec 12) (lm bm : BitVec 14) (e : BitVec 6)
    (cursor : Word) : BitVec 128 :=
  ((0#3 ++ gen ++ space ++ otype ++ perms ++ lm ++ bm ++ e ++ cursor : BitVec 128))

/-- A capability with one field replaced. -/
def Cap.withCursor (c : Cap) (v : Word) : Cap := { c with bits := c.bits.extractLsb' 64 64 ++ v }
def Cap.withPerms (c : Cap) (v : BitVec 12) : Cap :=
  { c with bits := c.bits.extractLsb' 110 18 ++ v ++ c.bits.extractLsb' 0 98 }
def Cap.withOtype (c : Cap) (v : BitVec 4) : Cap :=
  { c with bits := c.bits.extractLsb' 114 14 ++ v ++ c.bits.extractLsb' 0 110 }
def Cap.withBounds (c : Cap) (e : BitVec 6) (bm lm : BitVec 14) (cursor : Word) : Cap :=
  { c with bits := c.bits.extractLsb' 98 30 ++ lm ++ bm ++ e ++ cursor }

/-- The permissions by their bit (R147). -/
inductive Perm where
  | ld | st | ldcap | stcap | atom | cpin | cpout | lease | exec | seal | unseal | global
  deriving DecidableEq, Repr

/-- A permission's bit (R147). -/
def Perm.bit : Perm → Nat
  | .ld => 0 | .st => 1 | .ldcap => 2 | .stcap => 3 | .atom => 4 | .cpin => 5 | .cpout => 6 | .lease => 7 | .exec => 8
  | .seal => 9 | .unseal => 10 | .global => 11

/-- Whether a capability grants a permission. -/
def Cap.has (c : Cap) (p : Perm) : Bool := c.perms.getLsbD p.bit

/-- Bounds [base, top) (R151). -/
def boundsOf (c : Cap) : Nat × Nat :=
  let e := c.e.toNat
  let cur := c.cursor.toNat
  if e = 63 then (0, 2 ^ 64)
  else if e > 50 then (cur, cur)
  else
    let amid := cur / 2 ^ e % 2 ^ 14
    let ahi : Int := (cur / 2 ^ (e + 14) : Nat)
    let blk : Int := if c.bm.toNat ≤ amid then ahi else ahi - 1
    let base : Nat := ((blk * 2 ^ (e + 14) + c.bm.toNat * 2 ^ e) % 2 ^ 64).toNat
    (base, base + c.lm.toNat * 2 ^ e)

/-- A cursor at which the bounds stay as they are (R152). -/
def representable (c : Cap) (a : Word) : Bool :=
  let base := (boundsOf c).1
  c.e.toNat == 63 || (base ≤ a.toNat && a.toNat < base + 2 ^ (c.e.toNat + 14))

/-- The cursor moved; the tag goes where the cursor is not representable (R162). -/
def moveCursor (c : Cap) (a : Word) : Cap :=
  let m := c.withCursor a
  { m with tag := c.tag && representable c a }

/-- Values whose tag the part never sets (R146). -/
def untaggable (bits : BitVec 128) : Bool :=
  let c : Cap := { bits := bits }
  bits.extractLsb' 125 3 != 0#3 || c.otype == 15 || c.space == 7 || (51 ≤ c.e.toNat && c.e.toNat ≤ 62)

/-- The smallest exponent from `e` on at which [b, t) fits, if one up to 26 does (R160). -/
def fitExponent (fuel e b t : Nat) : Option Nat :=
  match fuel with
  | 0 => none
  | n + 1 => if (t + 2 ^ e - 1) / 2 ^ e - b / 2 ^ e > 2 ^ 14 - 1 then fitExponent n (e + 1) b t else some e

/-- New bounds at the cursor: CLIM rounds outward, CLIMX only accepts exact ones (R160). -/
def limitCap (exact : Bool) (c : Cap) (len : Word) : Option Cap :=
  let (pb, pt) := boundsOf c
  let b := c.cursor.toNat
  let t := b + len.toNat
  match fitExponent 27 0 b t with
  | none => none
  | some e =>
    let nb := b / 2 ^ e * 2 ^ e
    let nt := (t + 2 ^ e - 1) / 2 ^ e * 2 ^ e
    if nb < pb || nt > pt || (exact && (nb != b || nt != t)) then none
    else some (c.withBounds (BitVec.ofNat 6 e) (BitVec.ofNat 14 (nb / 2 ^ e)) (BitVec.ofNat 14 ((nt - nb) / 2 ^ e)) c.cursor)

/-- A capability with exact bounds [base, base + len), its cursor at its base (R154), or none where no exact bounds
exist (R494). -/
def exactCap (gen : BitVec 8) (space : BitVec 3) (perms : BitVec 12) (base len : Nat) : Option Cap :=
  match fitExponent 27 0 base (base + len) with
  | none => none
  | some e =>
    if base % 2 ^ e = 0 && (base + len) % 2 ^ e = 0 then
      some { tag := true
             bits := capBits gen space 0 perms (BitVec.ofNat 14 (len / 2 ^ e)) (BitVec.ofNat 14 (base / 2 ^ e)) (BitVec.ofNat 6 e)
               (BitVec.ofNat 64 base) }
    else none

/-- The scratchpad root of every launch (R155). -/
def scratchRoot : Cap := { tag := true, bits := capBits 0 1 0 0x07F 0x2000 0 13 0 }

/-- The checks of R159: tag, then seal; TRAPI names the register. -/
def derivChecks (c : Ctx) (a : BitVec 5) : List (Option Trap) :=
  let ok := !c.cEmpty a
  [cPoisonTrap c a,
   trapIf (ok && !(c.cVal a).tag) { code := Code.capTag.num, trapi := a.setWidth 64 },
   trapIf (ok && (c.cVal a).otype != 0) { code := Code.capSealed.num, trapi := a.setWidth 64 }]

/-- A derivation that writes cd at the end of its issue cycle (R157). -/
def capRes (c : Ctx) (caps : List (BitVec 5)) (xs : List (BitVec 6)) (d : BitVec 5) (traps : List (Option Trap)) (v : Cap) :
    SlotRes :=
  { slot := .s, draw := 1, dests := [.c d], trap := firstTrap traps
    hold := joinHolds (((d :: caps).map (cHold c)) ++ xs.map (xHold c))
    effect := fun t => t.modCtx (fun c => c.setC d v) }

/-- CLIM and CLIMX (R160). -/
def slotLimit (exact : Bool) (d a : BitVec 5) (b : BitVec 6) (s : State) : SlotRes :=
  let c := s.ctx
  let v := limitCap exact (c.cVal a) (c.xVal b)
  capRes c [a] [b] d
    (derivChecks c a ++ [xPoisonTrap c b,
      trapIf (!c.cEmpty a && !c.xEmpty b && v.isNone) { code := Code.capBounds.num, trapi := c.xVal b }])
    (v.getD {})

/-- CLIM (R160). -/
def slotClim (d a : BitVec 5) (b : BitVec 6) (s : State) : SlotRes := slotLimit false d a b s
/-- CLIM, issued alone. -/
def execClim (d a : BitVec 5) (b : BitVec 6) (s : State) : Host.Outcome State Fault Refusal :=
  runAlone (.clim d a b) (slotClim d a b s) s
/-- CLIMX (R160). -/
def slotClimx (d a : BitVec 5) (b : BitVec 6) (s : State) : SlotRes := slotLimit true d a b s
/-- CLIMX, issued alone. -/
def execClimx (d a : BitVec 5) (b : BitVec 6) (s : State) : Host.Outcome State Fault Refusal :=
  runAlone (.climx d a b) (slotClimx d a b s) s

/-- CMASK (R161). -/
def slotCmask (d a : BitVec 5) (b : BitVec 6) (s : State) : SlotRes :=
  let c := s.ctx
  let v := (c.cVal a).withPerms ((c.cVal a).perms &&& (c.xVal b).setWidth 12)
  capRes c [a] [b] d (derivChecks c a ++ [xPoisonTrap c b]) v
/-- CMASK, issued alone. -/
def execCmask (d a : BitVec 5) (b : BitVec 6) (s : State) : Host.Outcome State Fault Refusal :=
  runAlone (.cmask d a b) (slotCmask d a b s) s

/-- CADV (R162). -/
def slotCadv (d a : BitVec 5) (b : BitVec 6) (s : State) : SlotRes :=
  let c := s.ctx
  capRes c [a] [b] d (derivChecks c a ++ [xPoisonTrap c b]) (moveCursor (c.cVal a) ((c.cVal a).cursor + c.xVal b))
/-- CADV, issued alone. -/
def execCadv (d a : BitVec 5) (b : BitVec 6) (s : State) : Host.Outcome State Fault Refusal :=
  runAlone (.cadv d a b) (slotCadv d a b s) s

/-- CADVI (R162). -/
def slotCadvi (d a : BitVec 5) (i : BitVec 14) (s : State) : SlotRes :=
  let c := s.ctx
  capRes c [a] [] d (derivChecks c a) (moveCursor (c.cVal a) ((c.cVal a).cursor + i.signExtend 64))
/-- CADVI, issued alone. -/
def execCadvi (d a : BitVec 5) (i : BitVec 14) (s : State) : Host.Outcome State Fault Refusal :=
  runAlone (.cadvi d a i) (slotCadvi d a i s) s

/-- CPOS (R162). -/
def slotCpos (d a : BitVec 5) (b : BitVec 6) (s : State) : SlotRes :=
  let c := s.ctx
  capRes c [a] [b] d (derivChecks c a ++ [xPoisonTrap c b]) (moveCursor (c.cVal a) (c.xVal b))
/-- CPOS, issued alone. -/
def execCpos (d a : BitVec 5) (b : BitVec 6) (s : State) : Host.Outcome State Fault Refusal :=
  runAlone (.cpos d a b) (slotCpos d a b s) s

/-- CMOV (R163). -/
def slotCmov (d a : BitVec 5) (s : State) : SlotRes :=
  let c := s.ctx
  capRes c [a] [] d [cPoisonTrap c a] (c.cVal a)
/-- CMOV, issued alone. -/
def execCmov (d a : BitVec 5) (s : State) : Host.Outcome State Fault Refusal := runAlone (.cmov d a) (slotCmov d a s) s

/-- CCLR (R163). -/
def slotCclr (d a : BitVec 5) (s : State) : SlotRes :=
  let c := s.ctx
  capRes c [a] [] d [cPoisonTrap c a] { c.cVal a with tag := false }
/-- CCLR, issued alone. -/
def execCclr (d a : BitVec 5) (s : State) : Host.Outcome State Fault Refusal := runAlone (.cclr d a) (slotCclr d a s) s

/-- The checks on the sealing authority (R164); TRAPI names the register (R159). -/
def sealAuthority (c : Ctx) (r : BitVec 5) : List (Option Trap) :=
  let ok := !c.cEmpty r
  let v := c.cVal r
  let info := r.setWidth 64
  [cPoisonTrap c r,
   trapIf (ok && !v.tag) { code := Code.capTag.num, trapi := info },
   trapIf (ok && v.otype != 0) { code := Code.capSealed.num, trapi := info },
   trapIf (ok && v.space != 6) { code := Code.capSpace.num, trapi := info }]

/-- CSEAL (R164). -/
def slotCseal (d a r : BitVec 5) (s : State) : SlotRes :=
  let c := s.ctx
  let v := c.cVal r
  let (b, t) := boundsOf v
  let o := v.cursor.toNat
  let ok := !c.cEmpty r
  capRes c [a, r] [] d
    (derivChecks c a ++ sealAuthority c r ++
      [trapIf (ok && !v.has .seal) { code := Code.capPerm.num, trapi := r.setWidth 64 },
       trapIf (ok && (o < b || o ≥ t || o < 1 || o > 14)) { code := Code.capBounds.num, trapi := r.setWidth 64 }])
    ((c.cVal a).withOtype (BitVec.ofNat 4 o))
/-- CSEAL, issued alone. -/
def execCseal (d a r : BitVec 5) (s : State) : Host.Outcome State Fault Refusal :=
  runAlone (.cseal d a r) (slotCseal d a r s) s

/-- CUNSEAL (R164). -/
def slotCunseal (d a r : BitVec 5) (s : State) : SlotRes :=
  let c := s.ctx
  let v := c.cVal r
  let (b, t) := boundsOf v
  let o := v.cursor.toNat
  let okA := !c.cEmpty a
  let ok := !c.cEmpty r
  capRes c [a, r] [] d
    ([cPoisonTrap c a, trapIf (okA && !(c.cVal a).tag) { code := Code.capTag.num, trapi := a.setWidth 64 }] ++ sealAuthority c r ++
      [trapIf (okA && (c.cVal a).otype == 0) { code := Code.capSealed.num, trapi := a.setWidth 64 },
       trapIf (ok && !v.has .unseal) { code := Code.capPerm.num, trapi := r.setWidth 64 },
       trapIf (ok && okA && (o < b || o ≥ t || o != (c.cVal a).otype.toNat)) { code := Code.capBounds.num, trapi := r.setWidth 64 }])
    ((c.cVal a).withOtype 0)
/-- CUNSEAL, issued alone. -/
def execCunseal (d a r : BitVec 5) (s : State) : Host.Outcome State Fault Refusal :=
  runAlone (.cunseal d a r) (slotCunseal d a r s) s

/-- The fields that CGET reads (R165). -/
def capField (c : Cap) (sel : Nat) : Word :=
  let (b, t) := boundsOf c
  match sel with
  | 0 => BitVec.ofNat 64 b
  | 1 => BitVec.ofNat 64 (min (t - b) (2 ^ 64 - 1))
  | 2 => c.cursor
  | 3 => c.perms.setWidth 64
  | 4 => c.otype.setWidth 64
  | 5 => c.space.setWidth 64
  | 6 => c.gen.setWidth 64
  | 7 => if c.tag then 1 else 0
  | _ => if c.space = 2 ∨ c.space = 3 then (c.cursor >>> 40) else 0

/-- CGET (R165). -/
def slotCget (d : BitVec 6) (a : BitVec 5) (e : BitVec 4) (s : State) : SlotRes :=
  let c := s.ctx
  { slot := .s, draw := 1, dests := [.x d], trap := cPoisonTrap c a
    hold := joinHolds [cHold c a, xHold c d]
    effect := fun t => t.modCtx (fun o => o.setX d (capField (c.cVal a) e.toNat)) }
/-- CGET, issued alone. -/
def execCget (d : BitVec 6) (a : BitVec 5) (e : BitVec 4) (s : State) : Host.Outcome State Fault Refusal :=
  runAlone (.cget d a e) (slotCget d a e s) s

end Sys2Proof.Machine
end

