-- ==== Sys2Proof/Decode.lean ====
section
/-! DEFINITION. The decoder, total on every slot word, and the encoder written from the same formats (R24, R25,
R31 to R45). A rejected word says why; the step raises ILLEGAL for it (R25). -/

namespace Sys2Proof

/-- Why a slot word is no instruction of its slot (R25). -/
inductive Reject where
  /-- The opcode is not assigned to the slot. -/
  | unassignedOpcode
  /-- A reserved field is not zero. -/
  | reservedField
  /-- A field breaks a rule that the word alone decides (R28). -/
  | illFormed
  deriving DecidableEq, Repr

/-- Field of `n` bits from bit `lo` of a word. -/
def fld (w : SlotWord) (lo n : Nat) : BitVec n := BitVec.ofNat n (w.toNat / 2 ^ lo)

/-- A decoded row: its reserved bits must be zero and its fields well-formed. -/
def row (w reserved : SlotWord) (i : Instr) : Except Reject Instr :=
  if w &&& reserved ≠ 0 then .error .reservedField
  else if i.wellFormed then .ok i else .error .illFormed

/-- The S slot (R31, R40). -/
def decodeS (w : SlotWord) : Except Reject Instr :=
  match w.toNat / 2 ^ 24 with
  | 0x00 => row w 0xFFFFFFFF .nop
  | 0x01 => row w 0x0000003F (.add (fld w 18 6) (fld w 12 6) (fld w 6 6))
  | 0x02 => row w 0x0000003F (.sub (fld w 18 6) (fld w 12 6) (fld w 6 6))
  | 0x03 => row w 0x0000003F (.mul (fld w 18 6) (fld w 12 6) (fld w 6 6))
  | 0x04 => row w 0x0000003F (.mulh (fld w 18 6) (fld w 12 6) (fld w 6 6))
  | 0x05 => row w 0x0000003F (.mulhn (fld w 18 6) (fld w 12 6) (fld w 6 6))
  | 0x06 => row w 0x0000003F (.div (fld w 18 6) (fld w 12 6) (fld w 6 6))
  | 0x07 => row w 0x0000003F (.divn (fld w 18 6) (fld w 12 6) (fld w 6 6))
  | 0x08 => row w 0x0000003F (.rem (fld w 18 6) (fld w 12 6) (fld w 6 6))
  | 0x09 => row w 0x0000003F (.remn (fld w 18 6) (fld w 12 6) (fld w 6 6))
  | 0x0A => row w 0x0000003F (.and (fld w 18 6) (fld w 12 6) (fld w 6 6))
  | 0x0B => row w 0x0000003F (.or (fld w 18 6) (fld w 12 6) (fld w 6 6))
  | 0x0C => row w 0x0000003F (.xor (fld w 18 6) (fld w 12 6) (fld w 6 6))
  | 0x0D => row w 0x0000003F (.shl (fld w 18 6) (fld w 12 6) (fld w 6 6))
  | 0x0E => row w 0x0000003F (.shr (fld w 18 6) (fld w 12 6) (fld w 6 6))
  | 0x0F => row w 0x0000003F (.sar (fld w 18 6) (fld w 12 6) (fld w 6 6))
  | 0x10 => row w 0x0000003F (.min (fld w 18 6) (fld w 12 6) (fld w 6 6))
  | 0x11 => row w 0x0000003F (.max (fld w 18 6) (fld w 12 6) (fld w 6 6))
  | 0x12 => row w 0x0000003F (.minn (fld w 18 6) (fld w 12 6) (fld w 6 6))
  | 0x13 => row w 0x0000003F (.maxn (fld w 18 6) (fld w 12 6) (fld w 6 6))
  | 0x14 => row w 0x00000FFF (.clz (fld w 18 6) (fld w 12 6))
  | 0x15 => row w 0x00000FFF (.popc (fld w 18 6) (fld w 12 6))
  | 0x16 => row w 0x00000003 (.sel (fld w 18 6) (fld w 12 6) (fld w 6 6) (fld w 2 4))
  | 0x20 => row w 0x00000000 (.addi (fld w 18 6) (fld w 12 6) (fld w 0 12))
  | 0x21 => row w 0x00000000 (.andi (fld w 18 6) (fld w 12 6) (fld w 0 12))
  | 0x22 => row w 0x00000000 (.ori (fld w 18 6) (fld w 12 6) (fld w 0 12))
  | 0x23 => row w 0x00000000 (.xori (fld w 18 6) (fld w 12 6) (fld w 0 12))
  | 0x24 => row w 0x00000FC0 (.shli (fld w 18 6) (fld w 12 6) (fld w 0 6))
  | 0x25 => row w 0x00000FC0 (.shri (fld w 18 6) (fld w 12 6) (fld w 0 6))
  | 0x26 => row w 0x00000FC0 (.sari (fld w 18 6) (fld w 12 6) (fld w 0 6))
  | 0x27 => row w 0x00000000 (.muli (fld w 18 6) (fld w 12 6) (fld w 0 12))
  | 0x28 => row w 0x00000000 (.movi (fld w 18 6) (fld w 0 18))
  | 0x29 => row w 0x00000000 (.movs (fld w 18 6) (fld w 0 18))
  | 0x30 => row w 0x000C003F (.cmpEq (fld w 20 4) (fld w 12 6) (fld w 6 6))
  | 0x31 => row w 0x000C003F (.cmpNe (fld w 20 4) (fld w 12 6) (fld w 6 6))
  | 0x32 => row w 0x000C003F (.cmpLt (fld w 20 4) (fld w 12 6) (fld w 6 6))
  | 0x33 => row w 0x000C003F (.cmpLe (fld w 20 4) (fld w 12 6) (fld w 6 6))
  | 0x34 => row w 0x000C003F (.cmpLtn (fld w 20 4) (fld w 12 6) (fld w 6 6))
  | 0x35 => row w 0x000C003F (.cmpLen (fld w 20 4) (fld w 12 6) (fld w 6 6))
  | 0x38 => row w 0x000C0000 (.cmpiEq (fld w 20 4) (fld w 12 6) (fld w 0 12))
  | 0x39 => row w 0x000C0000 (.cmpiNe (fld w 20 4) (fld w 12 6) (fld w 0 12))
  | 0x3A => row w 0x000C0000 (.cmpiLt (fld w 20 4) (fld w 12 6) (fld w 0 12))
  | 0x3B => row w 0x000C0000 (.cmpiLe (fld w 20 4) (fld w 12 6) (fld w 0 12))
  | 0x3C => row w 0x000C0000 (.cmpiGt (fld w 20 4) (fld w 12 6) (fld w 0 12))
  | 0x3D => row w 0x000C0000 (.cmpiGe (fld w 20 4) (fld w 12 6) (fld w 0 12))
  | 0x40 => row w 0x00000FFF (.pand (fld w 20 4) (fld w 16 4) (fld w 12 4))
  | 0x41 => row w 0x00000FFF (.por (fld w 20 4) (fld w 16 4) (fld w 12 4))
  | 0x42 => row w 0x00000FFF (.pxor (fld w 20 4) (fld w 16 4) (fld w 12 4))
  | 0x43 => row w 0x0000FFFF (.pnot (fld w 20 4) (fld w 16 4))
  | 0x48 => row w 0x00000000 (.ldI8 (fld w 18 6) (fld w 13 5) (fld w 0 13))
  | 0x49 => row w 0x00000000 (.ldN8 (fld w 18 6) (fld w 13 5) (fld w 0 13))
  | 0x4A => row w 0x00000000 (.ldI16 (fld w 18 6) (fld w 13 5) (fld w 0 13))
  | 0x4B => row w 0x00000000 (.ldN16 (fld w 18 6) (fld w 13 5) (fld w 0 13))
  | 0x4C => row w 0x00000000 (.ldI32 (fld w 18 6) (fld w 13 5) (fld w 0 13))
  | 0x4D => row w 0x00000000 (.ldN32 (fld w 18 6) (fld w 13 5) (fld w 0 13))
  | 0x4E => row w 0x00000000 (.ldI64 (fld w 18 6) (fld w 13 5) (fld w 0 13))
  | 0x50 => row w 0x00000000 (.st8 (fld w 18 6) (fld w 13 5) (fld w 0 13))
  | 0x51 => row w 0x00000000 (.st16 (fld w 18 6) (fld w 13 5) (fld w 0 13))
  | 0x52 => row w 0x00000000 (.st32 (fld w 18 6) (fld w 13 5) (fld w 0 13))
  | 0x53 => row w 0x00000000 (.st64 (fld w 18 6) (fld w 13 5) (fld w 0 13))
  | 0x58 => row w 0x00040000 (.ldc (fld w 19 5) (fld w 13 5) (fld w 0 13))
  | 0x59 => row w 0x00040000 (.stc (fld w 19 5) (fld w 13 5) (fld w 0 13))
  | 0x60 => row w 0x000000FF (.clim (fld w 19 5) (fld w 14 5) (fld w 8 6))
  | 0x61 => row w 0x000000FF (.climx (fld w 19 5) (fld w 14 5) (fld w 8 6))
  | 0x62 => row w 0x000000FF (.cmask (fld w 19 5) (fld w 14 5) (fld w 8 6))
  | 0x63 => row w 0x000000FF (.cadv (fld w 19 5) (fld w 14 5) (fld w 8 6))
  | 0x64 => row w 0x00000000 (.cadvi (fld w 19 5) (fld w 14 5) (fld w 0 14))
  | 0x65 => row w 0x000000FF (.cpos (fld w 19 5) (fld w 14 5) (fld w 8 6))
  | 0x66 => row w 0x00001FF0 (.cget (fld w 18 6) (fld w 13 5) (fld w 0 4))
  | 0x67 => row w 0x00003FFF (.cmov (fld w 19 5) (fld w 14 5))
  | 0x68 => row w 0x000020FF (.cseal (fld w 19 5) (fld w 14 5) (fld w 8 5))
  | 0x69 => row w 0x000020FF (.cunseal (fld w 19 5) (fld w 14 5) (fld w 8 5))
  | 0x6A => row w 0x00080000 (.ctest (fld w 20 4) (fld w 14 5) (fld w 8 6) (fld w 0 8))
  | 0x6B => row w 0x00003FFF (.cclr (fld w 19 5) (fld w 14 5))
  | 0x70 => row w 0x0003F03F (.mfs (fld w 18 6) (fld w 6 6))
  | 0x71 => row w 0x00FC003F (.mts (fld w 12 6) (fld w 6 6))
  | 0x72 => if fld w 16 4 = 0 then row w 0x0000FC1F (.mtdCap (fld w 20 4) (fld w 5 5)) else row w 0x000003FF (.mtdValue (fld w 20 4) (fld w 16 4) (fld w 10 6))
  | 0x73 => row w 0x000003FF (.mtstr (fld w 20 4) (fld w 16 4) (fld w 10 6))
  | 0x74 => row w 0x0003FFFF (.time (fld w 18 6))
  | _ => .error .unassignedOpcode

/-- The VA and VB slots (R32, R34, R41); gathers and scatters in VA only. -/
def decodeV (u : VUnit) (w : SlotWord) : Except Reject Instr :=
  match w.toNat / 2 ^ 24 with
  | 0x00 => row w 0xFFFFFFFF .nop
  | 0x01 => row w 0x00000000 (.vaddF32 u (fld w 22 2) (fld w 19 3) (fld w 18 1) (fld w 12 6) (fld w 6 6) (fld w 0 6))
  | 0x02 => row w 0x00000000 (.vaddBf16 u (fld w 22 2) (fld w 19 3) (fld w 18 1) (fld w 12 6) (fld w 6 6) (fld w 0 6))
  | 0x03 => row w 0x00000000 (.vaddI32 u (fld w 22 2) (fld w 19 3) (fld w 18 1) (fld w 12 6) (fld w 6 6) (fld w 0 6))
  | 0x04 => row w 0x00000000 (.vaddI16 u (fld w 22 2) (fld w 19 3) (fld w 18 1) (fld w 12 6) (fld w 6 6) (fld w 0 6))
  | 0x05 => row w 0x00000000 (.vaddI8 u (fld w 22 2) (fld w 19 3) (fld w 18 1) (fld w 12 6) (fld w 6 6) (fld w 0 6))
  | 0x06 => row w 0x00000000 (.vsubF32 u (fld w 22 2) (fld w 19 3) (fld w 18 1) (fld w 12 6) (fld w 6 6) (fld w 0 6))
  | 0x07 => row w 0x00000000 (.vsubBf16 u (fld w 22 2) (fld w 19 3) (fld w 18 1) (fld w 12 6) (fld w 6 6) (fld w 0 6))
  | 0x08 => row w 0x00000000 (.vsubI32 u (fld w 22 2) (fld w 19 3) (fld w 18 1) (fld w 12 6) (fld w 6 6) (fld w 0 6))
  | 0x09 => row w 0x00000000 (.vsubI16 u (fld w 22 2) (fld w 19 3) (fld w 18 1) (fld w 12 6) (fld w 6 6) (fld w 0 6))
  | 0x0A => row w 0x00000000 (.vsubI8 u (fld w 22 2) (fld w 19 3) (fld w 18 1) (fld w 12 6) (fld w 6 6) (fld w 0 6))
  | 0x0B => row w 0x00000000 (.vmulF32 u (fld w 22 2) (fld w 19 3) (fld w 18 1) (fld w 12 6) (fld w 6 6) (fld w 0 6))
  | 0x0C => row w 0x00000000 (.vmulBf16 u (fld w 22 2) (fld w 19 3) (fld w 18 1) (fld w 12 6) (fld w 6 6) (fld w 0 6))
  | 0x0D => row w 0x00000000 (.vmulI32 u (fld w 22 2) (fld w 19 3) (fld w 18 1) (fld w 12 6) (fld w 6 6) (fld w 0 6))
  | 0x0E => row w 0x00000000 (.vmulI16 u (fld w 22 2) (fld w 19 3) (fld w 18 1) (fld w 12 6) (fld w 6 6) (fld w 0 6))
  | 0x0F => row w 0x00000000 (.vfmaF32 u (fld w 22 2) (fld w 19 3) (fld w 18 1) (fld w 12 6) (fld w 6 6) (fld w 0 6))
  | 0x10 => row w 0x00000000 (.vfmaBf16 u (fld w 22 2) (fld w 19 3) (fld w 18 1) (fld w 12 6) (fld w 6 6) (fld w 0 6))
  | 0x11 => row w 0x00000000 (.vfmsF32 u (fld w 22 2) (fld w 19 3) (fld w 18 1) (fld w 12 6) (fld w 6 6) (fld w 0 6))
  | 0x12 => row w 0x00000000 (.vfmsBf16 u (fld w 22 2) (fld w 19 3) (fld w 18 1) (fld w 12 6) (fld w 6 6) (fld w 0 6))
  | 0x13 => row w 0x00000000 (.vmaxF32 u (fld w 22 2) (fld w 19 3) (fld w 18 1) (fld w 12 6) (fld w 6 6) (fld w 0 6))
  | 0x14 => row w 0x00000000 (.vmaxBf16 u (fld w 22 2) (fld w 19 3) (fld w 18 1) (fld w 12 6) (fld w 6 6) (fld w 0 6))
  | 0x15 => row w 0x00000000 (.vmaxI32 u (fld w 22 2) (fld w 19 3) (fld w 18 1) (fld w 12 6) (fld w 6 6) (fld w 0 6))
  | 0x16 => row w 0x00000000 (.vmaxI16 u (fld w 22 2) (fld w 19 3) (fld w 18 1) (fld w 12 6) (fld w 6 6) (fld w 0 6))
  | 0x17 => row w 0x00000000 (.vmaxI8 u (fld w 22 2) (fld w 19 3) (fld w 18 1) (fld w 12 6) (fld w 6 6) (fld w 0 6))
  | 0x18 => row w 0x00000000 (.vminF32 u (fld w 22 2) (fld w 19 3) (fld w 18 1) (fld w 12 6) (fld w 6 6) (fld w 0 6))
  | 0x19 => row w 0x00000000 (.vminBf16 u (fld w 22 2) (fld w 19 3) (fld w 18 1) (fld w 12 6) (fld w 6 6) (fld w 0 6))
  | 0x1A => row w 0x00000000 (.vminI32 u (fld w 22 2) (fld w 19 3) (fld w 18 1) (fld w 12 6) (fld w 6 6) (fld w 0 6))
  | 0x1B => row w 0x00000000 (.vminI16 u (fld w 22 2) (fld w 19 3) (fld w 18 1) (fld w 12 6) (fld w 6 6) (fld w 0 6))
  | 0x1C => row w 0x00000000 (.vminI8 u (fld w 22 2) (fld w 19 3) (fld w 18 1) (fld w 12 6) (fld w 6 6) (fld w 0 6))
  | 0x1D => row w 0x0000003F (.vabsF32 u (fld w 22 2) (fld w 19 3) (fld w 18 1) (fld w 12 6) (fld w 6 6))
  | 0x1E => row w 0x0000003F (.vabsI32 u (fld w 22 2) (fld w 19 3) (fld w 18 1) (fld w 12 6) (fld w 6 6))
  | 0x1F => row w 0x0000003F (.vnegF32 u (fld w 22 2) (fld w 19 3) (fld w 18 1) (fld w 12 6) (fld w 6 6))
  | 0x20 => row w 0x0000003F (.vnegI32 u (fld w 22 2) (fld w 19 3) (fld w 18 1) (fld w 12 6) (fld w 6 6))
  | 0x21 => row w 0x00000000 (.vaddsI16 u (fld w 22 2) (fld w 19 3) (fld w 18 1) (fld w 12 6) (fld w 6 6) (fld w 0 6))
  | 0x22 => row w 0x00000000 (.vaddsI8 u (fld w 22 2) (fld w 19 3) (fld w 18 1) (fld w 12 6) (fld w 6 6) (fld w 0 6))
  | 0x23 => row w 0x00000000 (.vsubsI16 u (fld w 22 2) (fld w 19 3) (fld w 18 1) (fld w 12 6) (fld w 6 6) (fld w 0 6))
  | 0x24 => row w 0x00000000 (.vsubsI8 u (fld w 22 2) (fld w 19 3) (fld w 18 1) (fld w 12 6) (fld w 6 6) (fld w 0 6))
  | 0x25 => row w 0x00000000 (.vmulhI32 u (fld w 22 2) (fld w 19 3) (fld w 18 1) (fld w 12 6) (fld w 6 6) (fld w 0 6))
  | 0x28 => row w 0x00000000 (.vand u (fld w 22 2) (fld w 19 3) (fld w 18 1) (fld w 12 6) (fld w 6 6) (fld w 0 6))
  | 0x29 => row w 0x00000000 (.vor u (fld w 22 2) (fld w 19 3) (fld w 18 1) (fld w 12 6) (fld w 6 6) (fld w 0 6))
  | 0x2A => row w 0x00000000 (.vxor u (fld w 22 2) (fld w 19 3) (fld w 18 1) (fld w 12 6) (fld w 6 6) (fld w 0 6))
  | 0x2B => row w 0x0000003F (.vnot u (fld w 22 2) (fld w 19 3) (fld w 18 1) (fld w 12 6) (fld w 6 6))
  | 0x2C => row w 0x00000000 (.vshlI32 u (fld w 22 2) (fld w 19 3) (fld w 18 1) (fld w 12 6) (fld w 6 6) (fld w 0 6))
  | 0x2D => row w 0x00000000 (.vshrI32 u (fld w 22 2) (fld w 19 3) (fld w 18 1) (fld w 12 6) (fld w 6 6) (fld w 0 6))
  | 0x2E => row w 0x00000000 (.vsarI32 u (fld w 22 2) (fld w 19 3) (fld w 18 1) (fld w 12 6) (fld w 6 6) (fld w 0 6))
  | 0x30 => row w 0x00038000 (.vcmpF32Eq u (fld w 22 2) (fld w 19 3) (fld w 18 1) (fld w 12 3) (fld w 6 6) (fld w 0 6))
  | 0x31 => row w 0x00038000 (.vcmpF32Ne u (fld w 22 2) (fld w 19 3) (fld w 18 1) (fld w 12 3) (fld w 6 6) (fld w 0 6))
  | 0x32 => row w 0x00038000 (.vcmpF32Lt u (fld w 22 2) (fld w 19 3) (fld w 18 1) (fld w 12 3) (fld w 6 6) (fld w 0 6))
  | 0x33 => row w 0x00038000 (.vcmpF32Le u (fld w 22 2) (fld w 19 3) (fld w 18 1) (fld w 12 3) (fld w 6 6) (fld w 0 6))
  | 0x34 => row w 0x00038000 (.vcmpI32Eq u (fld w 22 2) (fld w 19 3) (fld w 18 1) (fld w 12 3) (fld w 6 6) (fld w 0 6))
  | 0x35 => row w 0x00038000 (.vcmpI32Ne u (fld w 22 2) (fld w 19 3) (fld w 18 1) (fld w 12 3) (fld w 6 6) (fld w 0 6))
  | 0x36 => row w 0x00038000 (.vcmpI32Lt u (fld w 22 2) (fld w 19 3) (fld w 18 1) (fld w 12 3) (fld w 6 6) (fld w 0 6))
  | 0x37 => row w 0x00038000 (.vcmpI32Le u (fld w 22 2) (fld w 19 3) (fld w 18 1) (fld w 12 3) (fld w 6 6) (fld w 0 6))
  | 0x38 => row w 0x00000000 (.vsel u (fld w 22 2) (fld w 19 3) (fld w 18 1) (fld w 12 6) (fld w 6 6) (fld w 0 6))
  | 0x39 => row w 0x00000FC0 (.vbcx32 u (fld w 22 2) (fld w 19 3) (fld w 18 1) (fld w 12 6) (fld w 0 6))
  | 0x3A => row w 0x00000FC0 (.vbcx16 u (fld w 22 2) (fld w 19 3) (fld w 18 1) (fld w 12 6) (fld w 0 6))
  | 0x3B => row w 0x0000003F (.vmov u (fld w 22 2) (fld w 19 3) (fld w 18 1) (fld w 12 6) (fld w 6 6))
  | 0x40 => row w 0x0000003F (.vcvtF32Bf16 u (fld w 22 2) (fld w 19 3) (fld w 18 1) (fld w 12 6) (fld w 6 6))
  | 0x41 => row w 0x0000003F (.vcvtBf16F32 u (fld w 22 2) (fld w 19 3) (fld w 18 1) (fld w 12 6) (fld w 6 6))
  | 0x42 => row w 0x0000003F (.vcvtF32I32 u (fld w 22 2) (fld w 19 3) (fld w 18 1) (fld w 12 6) (fld w 6 6))
  | 0x43 => row w 0x0000003F (.vcvtI32F32 u (fld w 22 2) (fld w 19 3) (fld w 18 1) (fld w 12 6) (fld w 6 6))
  | 0x44 => row w 0x0000003F (.vcvtI32I16 u (fld w 22 2) (fld w 19 3) (fld w 18 1) (fld w 12 6) (fld w 6 6))
  | 0x45 => row w 0x0000003F (.vcvtI16I32 u (fld w 22 2) (fld w 19 3) (fld w 18 1) (fld w 12 6) (fld w 6 6))
  | 0x46 => row w 0x0000003F (.vcvtI16I8 u (fld w 22 2) (fld w 19 3) (fld w 18 1) (fld w 12 6) (fld w 6 6))
  | 0x47 => row w 0x0000003F (.vcvtI8I16 u (fld w 22 2) (fld w 19 3) (fld w 18 1) (fld w 12 6) (fld w 6 6))
  | 0x48 => row w 0x00000000 (.vqntMx8 u (fld w 22 2) (fld w 19 3) (fld w 18 1) (fld w 12 6) (fld w 6 6) (fld w 0 6))
  | 0x49 => row w 0x00000000 (.vqntMx6 u (fld w 22 2) (fld w 19 3) (fld w 18 1) (fld w 12 6) (fld w 6 6) (fld w 0 6))
  | 0x4A => row w 0x00000000 (.vqntMx4 u (fld w 22 2) (fld w 19 3) (fld w 18 1) (fld w 12 6) (fld w 6 6) (fld w 0 6))
  | 0x4B => row w 0x0003F03F (.vamaxF32 u (fld w 22 2) (fld w 19 3) (fld w 18 1) (fld w 6 6))
  | 0x4C => row w 0x0003F03F (.vamaxBf16 u (fld w 22 2) (fld w 19 3) (fld w 18 1) (fld w 6 6))
  | 0x4D => row w 0x00000000 (.vdqntMx8 u (fld w 22 2) (fld w 19 3) (fld w 18 1) (fld w 12 6) (fld w 6 6) (fld w 0 6))
  | 0x4E => row w 0x00000000 (.vdqntMx6 u (fld w 22 2) (fld w 19 3) (fld w 18 1) (fld w 12 6) (fld w 6 6) (fld w 0 6))
  | 0x4F => row w 0x00000000 (.vdqntMx4 u (fld w 22 2) (fld w 19 3) (fld w 18 1) (fld w 12 6) (fld w 6 6) (fld w 0 6))
  | 0x50 => row w 0x0038003F (.vplnMx8 u (fld w 22 2) (fld w 18 1) (fld w 12 6) (fld w 6 6))
  | 0x51 => row w 0x0038003F (.vplnMx6 u (fld w 22 2) (fld w 18 1) (fld w 12 6) (fld w 6 6))
  | 0x52 => row w 0x0038003F (.vplnMx4 u (fld w 22 2) (fld w 18 1) (fld w 12 6) (fld w 6 6))
  | 0x53 => row w 0x0038003F (.vuplnMx8 u (fld w 22 2) (fld w 18 1) (fld w 12 6) (fld w 6 6))
  | 0x54 => row w 0x0038003F (.vuplnMx6 u (fld w 22 2) (fld w 18 1) (fld w 12 6) (fld w 6 6))
  | 0x55 => row w 0x0038003F (.vuplnMx4 u (fld w 22 2) (fld w 18 1) (fld w 12 6) (fld w 6 6))
  | 0x60 => row w 0x0000003F (.vrcpa u (fld w 22 2) (fld w 19 3) (fld w 18 1) (fld w 12 6) (fld w 6 6))
  | 0x61 => row w 0x0000003F (.vrsqa u (fld w 22 2) (fld w 19 3) (fld w 18 1) (fld w 12 6) (fld w 6 6))
  | 0x62 => row w 0x0000003F (.vexp2a u (fld w 22 2) (fld w 19 3) (fld w 18 1) (fld w 12 6) (fld w 6 6))
  | 0x63 => row w 0x0000003F (.vlog2a u (fld w 22 2) (fld w 19 3) (fld w 18 1) (fld w 12 6) (fld w 6 6))
  | 0x68 => row w 0x0000003F (.vrsumF32 u (fld w 22 2) (fld w 19 3) (fld w 18 1) (fld w 12 6) (fld w 6 6))
  | 0x69 => row w 0x0000003F (.vrsumI32 u (fld w 22 2) (fld w 19 3) (fld w 18 1) (fld w 12 6) (fld w 6 6))
  | 0x6A => row w 0x0000003F (.vrmaxF32 u (fld w 22 2) (fld w 19 3) (fld w 18 1) (fld w 12 6) (fld w 6 6))
  | 0x6B => row w 0x0000003F (.vrminF32 u (fld w 22 2) (fld w 19 3) (fld w 18 1) (fld w 12 6) (fld w 6 6))
  | 0x6C => row w 0x0000003F (.vscanI32 u (fld w 22 2) (fld w 19 3) (fld w 18 1) (fld w 12 6) (fld w 6 6))
  | 0x6D => row w 0x00000000 (.vtopkF32 u (fld w 22 2) (fld w 19 3) (fld w 18 1) (fld w 12 6) (fld w 6 6) (fld w 0 6))
  | 0x70 => row w 0x00000000 (.vperm32 u (fld w 22 2) (fld w 19 3) (fld w 18 1) (fld w 12 6) (fld w 6 6) (fld w 0 6))
  | 0x71 => row w 0x00000000 (.vperm16 u (fld w 22 2) (fld w 19 3) (fld w 18 1) (fld w 12 6) (fld w 6 6) (fld w 0 6))
  | 0x72 => row w 0x00000000 (.vperm8 u (fld w 22 2) (fld w 19 3) (fld w 18 1) (fld w 12 6) (fld w 6 6) (fld w 0 6))
  | 0x73 => row w 0x00000000 (.vrotl32 u (fld w 22 2) (fld w 19 3) (fld w 18 1) (fld w 12 6) (fld w 6 6) (fld w 0 6))
  | 0x74 => row w 0x00380000 (.vzip32 u (fld w 22 2) (fld w 18 1) (fld w 12 6) (fld w 6 6) (fld w 0 6))
  | 0x75 => row w 0x00380000 (.vunzip32 u (fld w 22 2) (fld w 18 1) (fld w 12 6) (fld w 6 6) (fld w 0 6))
  | 0x76 => row w 0x00F80000 (.vxtr32 u (fld w 18 1) (fld w 12 6) (fld w 6 6) (fld w 0 6))
  | 0x77 => row w 0x00C00000 (.vins32 u (fld w 19 3) (fld w 18 1) (fld w 12 6) (fld w 6 6) (fld w 0 6))
  | 0x78 => row w 0x00000FC0 (.viota32 u (fld w 22 2) (fld w 19 3) (fld w 18 1) (fld w 12 6) (fld w 0 6))
  | 0x7C => row w 0x0000003F (.vlutBf16 u (fld w 22 2) (fld w 19 3) (fld w 18 1) (fld w 12 6) (fld w 6 6))
  | 0x7D => row w 0x00FBF03F (.vltld u (fld w 18 1) (fld w 6 6))
  | 0x80 => match u with | .a => row w 0x00000020 (.vgath32 (fld w 22 2) (fld w 19 3) (fld w 18 1) (fld w 12 6) (fld w 6 6) (fld w 0 5)) | .b => .error .unassignedOpcode
  | 0x81 => match u with | .a => row w 0x00000020 (.vgath16 (fld w 22 2) (fld w 19 3) (fld w 18 1) (fld w 12 6) (fld w 6 6) (fld w 0 5)) | .b => .error .unassignedOpcode
  | 0x82 => match u with | .a => row w 0x00000020 (.vscat32 (fld w 22 2) (fld w 19 3) (fld w 18 1) (fld w 12 6) (fld w 6 6) (fld w 0 5)) | .b => .error .unassignedOpcode
  | 0x83 => match u with | .a => row w 0x00000020 (.vscat16 (fld w 22 2) (fld w 19 3) (fld w 18 1) (fld w 12 6) (fld w 6 6) (fld w 0 5)) | .b => .error .unassignedOpcode
  | _ => .error .unassignedOpcode

/-- The M slot (R35, R42). -/
def decodeM (w : SlotWord) : Except Reject Instr :=
  match w.toNat / 2 ^ 24 with
  | 0x00 => row w 0xFFFFFFFF .nop
  | 0x01 => if fld w 4 2 = 1 then row w 0x0000000F (.mmaOw (fld w 20 4) (fld w 16 4) (fld w 10 6) (fld w 6 4)) else row w 0x0000003F (.mma (fld w 20 4) (fld w 16 4) (fld w 10 6) (fld w 6 4))
  | 0x02 => row w 0x00FF03FF (.mzero (fld w 10 6))
  | 0x03 => row w 0x00030003 (.mrdF32 (fld w 18 6) (fld w 10 6) (fld w 6 4) (fld w 2 4))
  | 0x04 => row w 0x00030003 (.mrdBf16 (fld w 18 6) (fld w 10 6) (fld w 6 4) (fld w 2 4))
  | 0x05 => row w 0x00030003 (.mwrF32 (fld w 18 6) (fld w 10 6) (fld w 6 4) (fld w 2 4))
  | 0x06 => row w 0x00030003 (.mscl (fld w 18 6) (fld w 10 6) (fld w 6 4) (fld w 2 4))
  | 0x07 => row w 0x00030003 (.mrowmax (fld w 18 6) (fld w 10 6) (fld w 6 4) (fld w 2 4))
  | 0x08 => row w 0x00FF03FF (.mres (fld w 10 6))
  | _ => .error .unassignedOpcode

/-- The CA and CB slots (R36, R43). -/
def decodeC (u : CUnit) (w : SlotWord) : Except Reject Instr :=
  match w.toNat / 2 ^ 24 with
  | 0x00 => row w 0xFFFFFFFF .nop
  | 0x01 => row w 0x00000000 (.getc u (fld w 20 4) (fld w 19 1) (fld w 18 1) (fld w 15 3) (fld w 14 1) (fld w 8 6) (fld w 0 8))
  | 0x02 => row w 0x00000000 (.putc u (fld w 20 4) (fld w 19 1) (fld w 18 1) (fld w 15 3) (fld w 14 1) (fld w 8 6) (fld w 0 8))
  | 0x03 => row w 0x00000000 (.getp u (fld w 20 4) (fld w 19 1) (fld w 18 1) (fld w 15 3) (fld w 14 1) (fld w 8 6) (fld w 0 8))
  | 0x04 => row w 0x00000000 (.xfer u (fld w 20 4) (fld w 19 1) (fld w 18 1) (fld w 15 3) (fld w 14 1) (fld w 8 6) (fld w 0 8))
  | 0x05 => row w 0x000F8000 (.bget u (fld w 20 4) (fld w 14 1) (fld w 8 6) (fld w 0 8))
  | 0x06 => row w 0x000FFFFF (.pref u (fld w 20 4))
  | 0x07 => row w 0x00000000 (.putr u (fld w 20 4) (fld w 19 1) (fld w 18 1) (fld w 15 3) (fld w 14 1) (fld w 8 6) (fld w 0 8))
  | 0x08 => row w 0x00FFFF00 (.cflush u (fld w 0 8))
  | _ => .error .unassignedOpcode

/-- The Y slot (R37, R44). -/
def decodeY (w : SlotWord) : Except Reject Instr :=
  match w.toNat / 2 ^ 24 with
  | 0x00 => row w 0xFFFFFFFF .nop
  | 0x01 => row w 0x0000000F (.fence (fld w 19 5) (fld w 14 5) (fld w 9 5) (fld w 6 3) (fld w 4 2))
  | 0x02 => row w 0x00FFFE0F (.fenceall (fld w 6 3) (fld w 4 2))
  | 0x03 => row w 0x00FFFFFF (.lsync)
  | 0x10 => row w 0x00000003 (.aaddI32 (fld w 18 6) (fld w 13 5) (fld w 7 6) (fld w 4 3) (fld w 3 1) (fld w 2 1))
  | 0x11 => row w 0x00000003 (.aaddI64 (fld w 18 6) (fld w 13 5) (fld w 7 6) (fld w 4 3) (fld w 3 1) (fld w 2 1))
  | 0x12 => row w 0x00000003 (.aminI64 (fld w 18 6) (fld w 13 5) (fld w 7 6) (fld w 4 3) (fld w 3 1) (fld w 2 1))
  | 0x13 => row w 0x00000003 (.amaxI64 (fld w 18 6) (fld w 13 5) (fld w 7 6) (fld w 4 3) (fld w 3 1) (fld w 2 1))
  | 0x14 => row w 0x00000003 (.aminnN64 (fld w 18 6) (fld w 13 5) (fld w 7 6) (fld w 4 3) (fld w 3 1) (fld w 2 1))
  | 0x15 => row w 0x00000003 (.amaxnN64 (fld w 18 6) (fld w 13 5) (fld w 7 6) (fld w 4 3) (fld w 3 1) (fld w 2 1))
  | 0x16 => row w 0x00000003 (.aand (fld w 18 6) (fld w 13 5) (fld w 7 6) (fld w 4 3) (fld w 3 1) (fld w 2 1))
  | 0x17 => row w 0x00000003 (.aor (fld w 18 6) (fld w 13 5) (fld w 7 6) (fld w 4 3) (fld w 3 1) (fld w 2 1))
  | 0x18 => row w 0x00000003 (.axor (fld w 18 6) (fld w 13 5) (fld w 7 6) (fld w 4 3) (fld w 3 1) (fld w 2 1))
  | 0x19 => row w 0x00000003 (.axchg (fld w 18 6) (fld w 13 5) (fld w 7 6) (fld w 4 3) (fld w 3 1) (fld w 2 1))
  | 0x1A => row w 0x00000003 (.acas (fld w 18 6) (fld w 13 5) (fld w 7 6) (fld w 4 3) (fld w 3 1) (fld w 2 1))
  | 0x1B => row w 0x00000003 (.acas2 (fld w 18 6) (fld w 13 5) (fld w 7 6) (fld w 4 3) (fld w 3 1) (fld w 2 1))
  | 0x1C => row w 0x00000003 (.afaddF32 (fld w 18 6) (fld w 13 5) (fld w 7 6) (fld w 4 3) (fld w 3 1) (fld w 2 1))
  | 0x20 => row w 0x00FC0000 (.ainit (fld w 12 6) (fld w 0 12))
  | 0x21 => row w 0x00000000 (.arrive (fld w 18 6) (fld w 12 6) (fld w 6 6) (fld w 0 6))
  | 0x22 => row w 0x00000000 (.waitph (fld w 18 6) (fld w 12 6) (fld w 8 4) (fld w 0 8))
  | 0x28 => if fld w 5 2 = 1 then row w 0x0000001F (.lacqW (fld w 18 6) (fld w 13 5) (fld w 7 6)) else row w 0x0000007F (.lacqR (fld w 18 6) (fld w 13 5) (fld w 7 6))
  | 0x29 => row w 0x0000007F (.lrel (fld w 18 6) (fld w 13 5) (fld w 7 6))
  | 0x2A => row w 0x0000007F (.lrenew (fld w 18 6) (fld w 13 5) (fld w 7 6))
  | 0x2B => row w 0x0000007F (.harv (fld w 18 6) (fld w 13 5) (fld w 7 6))
  | 0x30 => row w 0x0000007F (.sealLines (fld w 18 6) (fld w 12 6) (fld w 7 5))
  | 0x31 => row w 0x0000007F (.openLines (fld w 18 6) (fld w 12 6) (fld w 7 5))
  | 0x34 => row w 0x00001FFF (.hwin (fld w 18 6) (fld w 13 5))
  | 0x38 => row w 0x0000003F (.mgmatch (fld w 18 6) (fld w 12 6) (fld w 6 6))
  | 0x39 => row w 0x0000003F (.mgsel (fld w 18 6) (fld w 12 6) (fld w 6 6))
  | 0x3A => row w 0x0000003F (.mgmerge (fld w 18 6) (fld w 12 6) (fld w 6 6))
  | 0x3B => row w 0x0000003F (.mgunm (fld w 18 6) (fld w 12 6) (fld w 6 6))
  | 0x3C => row w 0x00000FFF (.mglogs (fld w 18 6) (fld w 12 6))
  | 0x40 => row w 0x00FF0000 (.trap (fld w 0 16))
  | 0x41 => row w 0x00FC0000 (.signal (fld w 12 6) (fld w 0 12))
  | 0x42 => row w 0x00FFFFFF (.yield)
  | _ => .error .unassignedOpcode

/-- The B slot (R38, R45). -/
def decodeB (w : SlotWord) : Except Reject Instr :=
  match w.toNat / 2 ^ 24 with
  | 0x00 => row w 0xFFFFFFFF .nop
  | 0x01 => row w 0x00000000 (.br (fld w 20 4) (fld w 19 1) (fld w 0 19))
  | 0x02 => row w 0x00000000 (.jmp (fld w 20 4) (fld w 19 1) (fld w 0 19))
  | 0x03 => row w 0x00001FFF (.jmpx (fld w 20 4) (fld w 19 1) (fld w 13 6))
  | 0x04 => row w 0x00000000 (.call (fld w 20 4) (fld w 19 1) (fld w 0 19))
  | 0x05 => row w 0x0007FFFF (.ret (fld w 20 4) (fld w 19 1))
  | 0x06 => row w 0x00000000 (.loop (fld w 18 6) (fld w 13 5) (fld w 0 13))
  | 0x07 => row w 0x00FFFC00 (.rot (fld w 0 10))
  | 0x08 => row w 0x0000007F (.waitl (fld w 18 6) (fld w 7 11))
  | 0x09 => row w 0x0003FFFF (.waitt (fld w 18 6))
  | 0x0A => row w 0x00FFFF00 (.waitc (fld w 0 8))
  | 0x0B => row w 0x00FFFFFF (.taskEnd)
  | 0x0C => row w 0x00FF0000 (.brk (fld w 0 16))
  | _ => .error .unassignedOpcode

/-- The instruction a slot's word holds, or why it holds none (R25). -/
def decodeSlot (sl : Slot) (w : SlotWord) : Except Reject Instr :=
  match sl with
  | .s => decodeS w
  | .va => decodeV .a w
  | .vb => decodeV .b w
  | .m => decodeM w
  | .ca => decodeC .a w
  | .cb => decodeC .b w
  | .y => decodeY w
  | .b => decodeB w

/-- The first slot of a list whose decoder accepts a word, with what it reads there. -/
def firstAccepting (w : SlotWord) : List Slot → Option (Slot × Instr)
  | [] => none
  | sl :: rest =>
    match decodeSlot sl w with
    | .ok i => some (sl, i)
    | .error _ => firstAccepting w rest

/-- The slot a lone table word is laid in: the lowest-numbered slot that accepts it. The table gives no slot and
several slots share opcodes (R40 to R45), so this is the model's reading of a word without a slot. -/
def tableSlot (w : SlotWord) : Option (Slot × Instr) := firstAccepting w Slot.all

/-- The instruction the decoder reads from a table word of `nbits` bits, laid in the lowest slot that accepts it. -/
def decodeTableWord (nbits w : Nat) : Option Instr :=
  if nbits ≤ 32 then (tableSlot (BitVec.ofNat 32 w)).map Prod.snd else none

/-- A word from its opcode and the values of its fields, each with its lowest bit. -/
def packWord (op : Nat) (fields : List (Nat × Nat)) : SlotWord :=
  BitVec.ofNat 32 (fields.foldl (fun acc f => acc + f.2 * 2 ^ f.1) (op * 2 ^ 24))

/-- The word of an instruction (R31 to R45); an event has none. -/
def encode : Instr → Option SlotWord
  | .nop => some 0
  | .fetchPastEnd => none
  | .add d a b => some (packWord 0x01 [(18, d.toNat), (12, a.toNat), (6, b.toNat)])
  | .sub d a b => some (packWord 0x02 [(18, d.toNat), (12, a.toNat), (6, b.toNat)])
  | .mul d a b => some (packWord 0x03 [(18, d.toNat), (12, a.toNat), (6, b.toNat)])
  | .mulh d a b => some (packWord 0x04 [(18, d.toNat), (12, a.toNat), (6, b.toNat)])
  | .mulhn d a b => some (packWord 0x05 [(18, d.toNat), (12, a.toNat), (6, b.toNat)])
  | .div d a b => some (packWord 0x06 [(18, d.toNat), (12, a.toNat), (6, b.toNat)])
  | .divn d a b => some (packWord 0x07 [(18, d.toNat), (12, a.toNat), (6, b.toNat)])
  | .rem d a b => some (packWord 0x08 [(18, d.toNat), (12, a.toNat), (6, b.toNat)])
  | .remn d a b => some (packWord 0x09 [(18, d.toNat), (12, a.toNat), (6, b.toNat)])
  | .and d a b => some (packWord 0x0A [(18, d.toNat), (12, a.toNat), (6, b.toNat)])
  | .or d a b => some (packWord 0x0B [(18, d.toNat), (12, a.toNat), (6, b.toNat)])
  | .xor d a b => some (packWord 0x0C [(18, d.toNat), (12, a.toNat), (6, b.toNat)])
  | .shl d a b => some (packWord 0x0D [(18, d.toNat), (12, a.toNat), (6, b.toNat)])
  | .shr d a b => some (packWord 0x0E [(18, d.toNat), (12, a.toNat), (6, b.toNat)])
  | .sar d a b => some (packWord 0x0F [(18, d.toNat), (12, a.toNat), (6, b.toNat)])
  | .min d a b => some (packWord 0x10 [(18, d.toNat), (12, a.toNat), (6, b.toNat)])
  | .max d a b => some (packWord 0x11 [(18, d.toNat), (12, a.toNat), (6, b.toNat)])
  | .minn d a b => some (packWord 0x12 [(18, d.toNat), (12, a.toNat), (6, b.toNat)])
  | .maxn d a b => some (packWord 0x13 [(18, d.toNat), (12, a.toNat), (6, b.toNat)])
  | .clz d a => some (packWord 0x14 [(18, d.toNat), (12, a.toNat)])
  | .popc d a => some (packWord 0x15 [(18, d.toNat), (12, a.toNat)])
  | .sel d a b p => some (packWord 0x16 [(18, d.toNat), (12, a.toNat), (6, b.toNat), (2, p.toNat)])
  | .addi d a i => some (packWord 0x20 [(18, d.toNat), (12, a.toNat), (0, i.toNat)])
  | .andi d a i => some (packWord 0x21 [(18, d.toNat), (12, a.toNat), (0, i.toNat)])
  | .ori d a i => some (packWord 0x22 [(18, d.toNat), (12, a.toNat), (0, i.toNat)])
  | .xori d a i => some (packWord 0x23 [(18, d.toNat), (12, a.toNat), (0, i.toNat)])
  | .shli d a i => some (packWord 0x24 [(18, d.toNat), (12, a.toNat), (0, i.toNat)])
  | .shri d a i => some (packWord 0x25 [(18, d.toNat), (12, a.toNat), (0, i.toNat)])
  | .sari d a i => some (packWord 0x26 [(18, d.toNat), (12, a.toNat), (0, i.toNat)])
  | .muli d a i => some (packWord 0x27 [(18, d.toNat), (12, a.toNat), (0, i.toNat)])
  | .movi d i => some (packWord 0x28 [(18, d.toNat), (0, i.toNat)])
  | .movs d i => some (packWord 0x29 [(18, d.toNat), (0, i.toNat)])
  | .cmpEq p a b => some (packWord 0x30 [(20, p.toNat), (12, a.toNat), (6, b.toNat)])
  | .cmpNe p a b => some (packWord 0x31 [(20, p.toNat), (12, a.toNat), (6, b.toNat)])
  | .cmpLt p a b => some (packWord 0x32 [(20, p.toNat), (12, a.toNat), (6, b.toNat)])
  | .cmpLe p a b => some (packWord 0x33 [(20, p.toNat), (12, a.toNat), (6, b.toNat)])
  | .cmpLtn p a b => some (packWord 0x34 [(20, p.toNat), (12, a.toNat), (6, b.toNat)])
  | .cmpLen p a b => some (packWord 0x35 [(20, p.toNat), (12, a.toNat), (6, b.toNat)])
  | .cmpiEq p a i => some (packWord 0x38 [(20, p.toNat), (12, a.toNat), (0, i.toNat)])
  | .cmpiNe p a i => some (packWord 0x39 [(20, p.toNat), (12, a.toNat), (0, i.toNat)])
  | .cmpiLt p a i => some (packWord 0x3A [(20, p.toNat), (12, a.toNat), (0, i.toNat)])
  | .cmpiLe p a i => some (packWord 0x3B [(20, p.toNat), (12, a.toNat), (0, i.toNat)])
  | .cmpiGt p a i => some (packWord 0x3C [(20, p.toNat), (12, a.toNat), (0, i.toNat)])
  | .cmpiGe p a i => some (packWord 0x3D [(20, p.toNat), (12, a.toNat), (0, i.toNat)])
  | .pand d a b => some (packWord 0x40 [(20, d.toNat), (16, a.toNat), (12, b.toNat)])
  | .por d a b => some (packWord 0x41 [(20, d.toNat), (16, a.toNat), (12, b.toNat)])
  | .pxor d a b => some (packWord 0x42 [(20, d.toNat), (16, a.toNat), (12, b.toNat)])
  | .pnot d a => some (packWord 0x43 [(20, d.toNat), (16, a.toNat)])
  | .ldI8 x c o => some (packWord 0x48 [(18, x.toNat), (13, c.toNat), (0, o.toNat)])
  | .ldN8 x c o => some (packWord 0x49 [(18, x.toNat), (13, c.toNat), (0, o.toNat)])
  | .ldI16 x c o => some (packWord 0x4A [(18, x.toNat), (13, c.toNat), (0, o.toNat)])
  | .ldN16 x c o => some (packWord 0x4B [(18, x.toNat), (13, c.toNat), (0, o.toNat)])
  | .ldI32 x c o => some (packWord 0x4C [(18, x.toNat), (13, c.toNat), (0, o.toNat)])
  | .ldN32 x c o => some (packWord 0x4D [(18, x.toNat), (13, c.toNat), (0, o.toNat)])
  | .ldI64 x c o => some (packWord 0x4E [(18, x.toNat), (13, c.toNat), (0, o.toNat)])
  | .st8 x c o => some (packWord 0x50 [(18, x.toNat), (13, c.toNat), (0, o.toNat)])
  | .st16 x c o => some (packWord 0x51 [(18, x.toNat), (13, c.toNat), (0, o.toNat)])
  | .st32 x c o => some (packWord 0x52 [(18, x.toNat), (13, c.toNat), (0, o.toNat)])
  | .st64 x c o => some (packWord 0x53 [(18, x.toNat), (13, c.toNat), (0, o.toNat)])
  | .ldc d c o => some (packWord 0x58 [(19, d.toNat), (13, c.toNat), (0, o.toNat)])
  | .stc d c o => some (packWord 0x59 [(19, d.toNat), (13, c.toNat), (0, o.toNat)])
  | .clim d a b => some (packWord 0x60 [(19, d.toNat), (14, a.toNat), (8, b.toNat)])
  | .climx d a b => some (packWord 0x61 [(19, d.toNat), (14, a.toNat), (8, b.toNat)])
  | .cmask d a b => some (packWord 0x62 [(19, d.toNat), (14, a.toNat), (8, b.toNat)])
  | .cadv d a b => some (packWord 0x63 [(19, d.toNat), (14, a.toNat), (8, b.toNat)])
  | .cadvi d a i => some (packWord 0x64 [(19, d.toNat), (14, a.toNat), (0, i.toNat)])
  | .cpos d a b => some (packWord 0x65 [(19, d.toNat), (14, a.toNat), (8, b.toNat)])
  | .cget d a s => some (packWord 0x66 [(18, d.toNat), (13, a.toNat), (0, s.toNat)])
  | .cmov d a => some (packWord 0x67 [(19, d.toNat), (14, a.toNat)])
  | .cseal d a s => some (packWord 0x68 [(19, d.toNat), (14, a.toNat), (8, s.toNat)])
  | .cunseal d a s => some (packWord 0x69 [(19, d.toNat), (14, a.toNat), (8, s.toNat)])
  | .ctest p a b c => some (packWord 0x6A [(20, p.toNat), (14, a.toNat), (8, b.toNat), (0, c.toNat)])
  | .cclr d a => some (packWord 0x6B [(19, d.toNat), (14, a.toNat)])
  | .mfs d n => some (packWord 0x70 [(18, d.toNat), (6, n.toNat)])
  | .mts a n => some (packWord 0x71 [(12, a.toNat), (6, n.toNat)])
  | .mtdCap d c => some (packWord 0x72 [(20, d.toNat), (5, c.toNat)])
  | .mtdValue d s a => some (packWord 0x72 [(20, d.toNat), (16, s.toNat), (10, a.toNat)])
  | .mtstr s e a => some (packWord 0x73 [(20, s.toNat), (16, e.toNat), (10, a.toNat)])
  | .time d => some (packWord 0x74 [(18, d.toNat)])
  | .vaddF32 _ n k t d a b => some (packWord 0x01 [(22, n.toNat), (19, k.toNat), (18, t.toNat), (12, d.toNat), (6, a.toNat), (0, b.toNat)])
  | .vaddBf16 _ n k t d a b => some (packWord 0x02 [(22, n.toNat), (19, k.toNat), (18, t.toNat), (12, d.toNat), (6, a.toNat), (0, b.toNat)])
  | .vaddI32 _ n k t d a b => some (packWord 0x03 [(22, n.toNat), (19, k.toNat), (18, t.toNat), (12, d.toNat), (6, a.toNat), (0, b.toNat)])
  | .vaddI16 _ n k t d a b => some (packWord 0x04 [(22, n.toNat), (19, k.toNat), (18, t.toNat), (12, d.toNat), (6, a.toNat), (0, b.toNat)])
  | .vaddI8 _ n k t d a b => some (packWord 0x05 [(22, n.toNat), (19, k.toNat), (18, t.toNat), (12, d.toNat), (6, a.toNat), (0, b.toNat)])
  | .vsubF32 _ n k t d a b => some (packWord 0x06 [(22, n.toNat), (19, k.toNat), (18, t.toNat), (12, d.toNat), (6, a.toNat), (0, b.toNat)])
  | .vsubBf16 _ n k t d a b => some (packWord 0x07 [(22, n.toNat), (19, k.toNat), (18, t.toNat), (12, d.toNat), (6, a.toNat), (0, b.toNat)])
  | .vsubI32 _ n k t d a b => some (packWord 0x08 [(22, n.toNat), (19, k.toNat), (18, t.toNat), (12, d.toNat), (6, a.toNat), (0, b.toNat)])
  | .vsubI16 _ n k t d a b => some (packWord 0x09 [(22, n.toNat), (19, k.toNat), (18, t.toNat), (12, d.toNat), (6, a.toNat), (0, b.toNat)])
  | .vsubI8 _ n k t d a b => some (packWord 0x0A [(22, n.toNat), (19, k.toNat), (18, t.toNat), (12, d.toNat), (6, a.toNat), (0, b.toNat)])
  | .vmulF32 _ n k t d a b => some (packWord 0x0B [(22, n.toNat), (19, k.toNat), (18, t.toNat), (12, d.toNat), (6, a.toNat), (0, b.toNat)])
  | .vmulBf16 _ n k t d a b => some (packWord 0x0C [(22, n.toNat), (19, k.toNat), (18, t.toNat), (12, d.toNat), (6, a.toNat), (0, b.toNat)])
  | .vmulI32 _ n k t d a b => some (packWord 0x0D [(22, n.toNat), (19, k.toNat), (18, t.toNat), (12, d.toNat), (6, a.toNat), (0, b.toNat)])
  | .vmulI16 _ n k t d a b => some (packWord 0x0E [(22, n.toNat), (19, k.toNat), (18, t.toNat), (12, d.toNat), (6, a.toNat), (0, b.toNat)])
  | .vfmaF32 _ n k t d a b => some (packWord 0x0F [(22, n.toNat), (19, k.toNat), (18, t.toNat), (12, d.toNat), (6, a.toNat), (0, b.toNat)])
  | .vfmaBf16 _ n k t d a b => some (packWord 0x10 [(22, n.toNat), (19, k.toNat), (18, t.toNat), (12, d.toNat), (6, a.toNat), (0, b.toNat)])
  | .vfmsF32 _ n k t d a b => some (packWord 0x11 [(22, n.toNat), (19, k.toNat), (18, t.toNat), (12, d.toNat), (6, a.toNat), (0, b.toNat)])
  | .vfmsBf16 _ n k t d a b => some (packWord 0x12 [(22, n.toNat), (19, k.toNat), (18, t.toNat), (12, d.toNat), (6, a.toNat), (0, b.toNat)])
  | .vmaxF32 _ n k t d a b => some (packWord 0x13 [(22, n.toNat), (19, k.toNat), (18, t.toNat), (12, d.toNat), (6, a.toNat), (0, b.toNat)])
  | .vmaxBf16 _ n k t d a b => some (packWord 0x14 [(22, n.toNat), (19, k.toNat), (18, t.toNat), (12, d.toNat), (6, a.toNat), (0, b.toNat)])
  | .vmaxI32 _ n k t d a b => some (packWord 0x15 [(22, n.toNat), (19, k.toNat), (18, t.toNat), (12, d.toNat), (6, a.toNat), (0, b.toNat)])
  | .vmaxI16 _ n k t d a b => some (packWord 0x16 [(22, n.toNat), (19, k.toNat), (18, t.toNat), (12, d.toNat), (6, a.toNat), (0, b.toNat)])
  | .vmaxI8 _ n k t d a b => some (packWord 0x17 [(22, n.toNat), (19, k.toNat), (18, t.toNat), (12, d.toNat), (6, a.toNat), (0, b.toNat)])
  | .vminF32 _ n k t d a b => some (packWord 0x18 [(22, n.toNat), (19, k.toNat), (18, t.toNat), (12, d.toNat), (6, a.toNat), (0, b.toNat)])
  | .vminBf16 _ n k t d a b => some (packWord 0x19 [(22, n.toNat), (19, k.toNat), (18, t.toNat), (12, d.toNat), (6, a.toNat), (0, b.toNat)])
  | .vminI32 _ n k t d a b => some (packWord 0x1A [(22, n.toNat), (19, k.toNat), (18, t.toNat), (12, d.toNat), (6, a.toNat), (0, b.toNat)])
  | .vminI16 _ n k t d a b => some (packWord 0x1B [(22, n.toNat), (19, k.toNat), (18, t.toNat), (12, d.toNat), (6, a.toNat), (0, b.toNat)])
  | .vminI8 _ n k t d a b => some (packWord 0x1C [(22, n.toNat), (19, k.toNat), (18, t.toNat), (12, d.toNat), (6, a.toNat), (0, b.toNat)])
  | .vabsF32 _ n k t d a => some (packWord 0x1D [(22, n.toNat), (19, k.toNat), (18, t.toNat), (12, d.toNat), (6, a.toNat)])
  | .vabsI32 _ n k t d a => some (packWord 0x1E [(22, n.toNat), (19, k.toNat), (18, t.toNat), (12, d.toNat), (6, a.toNat)])
  | .vnegF32 _ n k t d a => some (packWord 0x1F [(22, n.toNat), (19, k.toNat), (18, t.toNat), (12, d.toNat), (6, a.toNat)])
  | .vnegI32 _ n k t d a => some (packWord 0x20 [(22, n.toNat), (19, k.toNat), (18, t.toNat), (12, d.toNat), (6, a.toNat)])
  | .vaddsI16 _ n k t d a b => some (packWord 0x21 [(22, n.toNat), (19, k.toNat), (18, t.toNat), (12, d.toNat), (6, a.toNat), (0, b.toNat)])
  | .vaddsI8 _ n k t d a b => some (packWord 0x22 [(22, n.toNat), (19, k.toNat), (18, t.toNat), (12, d.toNat), (6, a.toNat), (0, b.toNat)])
  | .vsubsI16 _ n k t d a b => some (packWord 0x23 [(22, n.toNat), (19, k.toNat), (18, t.toNat), (12, d.toNat), (6, a.toNat), (0, b.toNat)])
  | .vsubsI8 _ n k t d a b => some (packWord 0x24 [(22, n.toNat), (19, k.toNat), (18, t.toNat), (12, d.toNat), (6, a.toNat), (0, b.toNat)])
  | .vmulhI32 _ n k t d a b => some (packWord 0x25 [(22, n.toNat), (19, k.toNat), (18, t.toNat), (12, d.toNat), (6, a.toNat), (0, b.toNat)])
  | .vand _ n k t d a b => some (packWord 0x28 [(22, n.toNat), (19, k.toNat), (18, t.toNat), (12, d.toNat), (6, a.toNat), (0, b.toNat)])
  | .vor _ n k t d a b => some (packWord 0x29 [(22, n.toNat), (19, k.toNat), (18, t.toNat), (12, d.toNat), (6, a.toNat), (0, b.toNat)])
  | .vxor _ n k t d a b => some (packWord 0x2A [(22, n.toNat), (19, k.toNat), (18, t.toNat), (12, d.toNat), (6, a.toNat), (0, b.toNat)])
  | .vnot _ n k t d a => some (packWord 0x2B [(22, n.toNat), (19, k.toNat), (18, t.toNat), (12, d.toNat), (6, a.toNat)])
  | .vshlI32 _ n k t d a b => some (packWord 0x2C [(22, n.toNat), (19, k.toNat), (18, t.toNat), (12, d.toNat), (6, a.toNat), (0, b.toNat)])
  | .vshrI32 _ n k t d a b => some (packWord 0x2D [(22, n.toNat), (19, k.toNat), (18, t.toNat), (12, d.toNat), (6, a.toNat), (0, b.toNat)])
  | .vsarI32 _ n k t d a b => some (packWord 0x2E [(22, n.toNat), (19, k.toNat), (18, t.toNat), (12, d.toNat), (6, a.toNat), (0, b.toNat)])
  | .vcmpF32Eq _ n k t d a b => some (packWord 0x30 [(22, n.toNat), (19, k.toNat), (18, t.toNat), (12, d.toNat), (6, a.toNat), (0, b.toNat)])
  | .vcmpF32Ne _ n k t d a b => some (packWord 0x31 [(22, n.toNat), (19, k.toNat), (18, t.toNat), (12, d.toNat), (6, a.toNat), (0, b.toNat)])
  | .vcmpF32Lt _ n k t d a b => some (packWord 0x32 [(22, n.toNat), (19, k.toNat), (18, t.toNat), (12, d.toNat), (6, a.toNat), (0, b.toNat)])
  | .vcmpF32Le _ n k t d a b => some (packWord 0x33 [(22, n.toNat), (19, k.toNat), (18, t.toNat), (12, d.toNat), (6, a.toNat), (0, b.toNat)])
  | .vcmpI32Eq _ n k t d a b => some (packWord 0x34 [(22, n.toNat), (19, k.toNat), (18, t.toNat), (12, d.toNat), (6, a.toNat), (0, b.toNat)])
  | .vcmpI32Ne _ n k t d a b => some (packWord 0x35 [(22, n.toNat), (19, k.toNat), (18, t.toNat), (12, d.toNat), (6, a.toNat), (0, b.toNat)])
  | .vcmpI32Lt _ n k t d a b => some (packWord 0x36 [(22, n.toNat), (19, k.toNat), (18, t.toNat), (12, d.toNat), (6, a.toNat), (0, b.toNat)])
  | .vcmpI32Le _ n k t d a b => some (packWord 0x37 [(22, n.toNat), (19, k.toNat), (18, t.toNat), (12, d.toNat), (6, a.toNat), (0, b.toNat)])
  | .vsel _ n k t d a b => some (packWord 0x38 [(22, n.toNat), (19, k.toNat), (18, t.toNat), (12, d.toNat), (6, a.toNat), (0, b.toNat)])
  | .vbcx32 _ n k t d x => some (packWord 0x39 [(22, n.toNat), (19, k.toNat), (18, t.toNat), (12, d.toNat), (0, x.toNat)])
  | .vbcx16 _ n k t d x => some (packWord 0x3A [(22, n.toNat), (19, k.toNat), (18, t.toNat), (12, d.toNat), (0, x.toNat)])
  | .vmov _ n k t d a => some (packWord 0x3B [(22, n.toNat), (19, k.toNat), (18, t.toNat), (12, d.toNat), (6, a.toNat)])
  | .vcvtF32Bf16 _ n k t d a => some (packWord 0x40 [(22, n.toNat), (19, k.toNat), (18, t.toNat), (12, d.toNat), (6, a.toNat)])
  | .vcvtBf16F32 _ n k t d a => some (packWord 0x41 [(22, n.toNat), (19, k.toNat), (18, t.toNat), (12, d.toNat), (6, a.toNat)])
  | .vcvtF32I32 _ n k t d a => some (packWord 0x42 [(22, n.toNat), (19, k.toNat), (18, t.toNat), (12, d.toNat), (6, a.toNat)])
  | .vcvtI32F32 _ n k t d a => some (packWord 0x43 [(22, n.toNat), (19, k.toNat), (18, t.toNat), (12, d.toNat), (6, a.toNat)])
  | .vcvtI32I16 _ n k t d a => some (packWord 0x44 [(22, n.toNat), (19, k.toNat), (18, t.toNat), (12, d.toNat), (6, a.toNat)])
  | .vcvtI16I32 _ n k t d a => some (packWord 0x45 [(22, n.toNat), (19, k.toNat), (18, t.toNat), (12, d.toNat), (6, a.toNat)])
  | .vcvtI16I8 _ n k t d a => some (packWord 0x46 [(22, n.toNat), (19, k.toNat), (18, t.toNat), (12, d.toNat), (6, a.toNat)])
  | .vcvtI8I16 _ n k t d a => some (packWord 0x47 [(22, n.toNat), (19, k.toNat), (18, t.toNat), (12, d.toNat), (6, a.toNat)])
  | .vqntMx8 _ n k t d a b => some (packWord 0x48 [(22, n.toNat), (19, k.toNat), (18, t.toNat), (12, d.toNat), (6, a.toNat), (0, b.toNat)])
  | .vqntMx6 _ n k t d a b => some (packWord 0x49 [(22, n.toNat), (19, k.toNat), (18, t.toNat), (12, d.toNat), (6, a.toNat), (0, b.toNat)])
  | .vqntMx4 _ n k t d a b => some (packWord 0x4A [(22, n.toNat), (19, k.toNat), (18, t.toNat), (12, d.toNat), (6, a.toNat), (0, b.toNat)])
  | .vamaxF32 _ n k t a => some (packWord 0x4B [(22, n.toNat), (19, k.toNat), (18, t.toNat), (6, a.toNat)])
  | .vamaxBf16 _ n k t a => some (packWord 0x4C [(22, n.toNat), (19, k.toNat), (18, t.toNat), (6, a.toNat)])
  | .vdqntMx8 _ n k t d a b => some (packWord 0x4D [(22, n.toNat), (19, k.toNat), (18, t.toNat), (12, d.toNat), (6, a.toNat), (0, b.toNat)])
  | .vdqntMx6 _ n k t d a b => some (packWord 0x4E [(22, n.toNat), (19, k.toNat), (18, t.toNat), (12, d.toNat), (6, a.toNat), (0, b.toNat)])
  | .vdqntMx4 _ n k t d a b => some (packWord 0x4F [(22, n.toNat), (19, k.toNat), (18, t.toNat), (12, d.toNat), (6, a.toNat), (0, b.toNat)])
  | .vplnMx8 _ n t d a => some (packWord 0x50 [(22, n.toNat), (18, t.toNat), (12, d.toNat), (6, a.toNat)])
  | .vplnMx6 _ n t d a => some (packWord 0x51 [(22, n.toNat), (18, t.toNat), (12, d.toNat), (6, a.toNat)])
  | .vplnMx4 _ n t d a => some (packWord 0x52 [(22, n.toNat), (18, t.toNat), (12, d.toNat), (6, a.toNat)])
  | .vuplnMx8 _ n t d a => some (packWord 0x53 [(22, n.toNat), (18, t.toNat), (12, d.toNat), (6, a.toNat)])
  | .vuplnMx6 _ n t d a => some (packWord 0x54 [(22, n.toNat), (18, t.toNat), (12, d.toNat), (6, a.toNat)])
  | .vuplnMx4 _ n t d a => some (packWord 0x55 [(22, n.toNat), (18, t.toNat), (12, d.toNat), (6, a.toNat)])
  | .vrcpa _ n k t d a => some (packWord 0x60 [(22, n.toNat), (19, k.toNat), (18, t.toNat), (12, d.toNat), (6, a.toNat)])
  | .vrsqa _ n k t d a => some (packWord 0x61 [(22, n.toNat), (19, k.toNat), (18, t.toNat), (12, d.toNat), (6, a.toNat)])
  | .vexp2a _ n k t d a => some (packWord 0x62 [(22, n.toNat), (19, k.toNat), (18, t.toNat), (12, d.toNat), (6, a.toNat)])
  | .vlog2a _ n k t d a => some (packWord 0x63 [(22, n.toNat), (19, k.toNat), (18, t.toNat), (12, d.toNat), (6, a.toNat)])
  | .vrsumF32 _ n k t d a => some (packWord 0x68 [(22, n.toNat), (19, k.toNat), (18, t.toNat), (12, d.toNat), (6, a.toNat)])
  | .vrsumI32 _ n k t d a => some (packWord 0x69 [(22, n.toNat), (19, k.toNat), (18, t.toNat), (12, d.toNat), (6, a.toNat)])
  | .vrmaxF32 _ n k t d a => some (packWord 0x6A [(22, n.toNat), (19, k.toNat), (18, t.toNat), (12, d.toNat), (6, a.toNat)])
  | .vrminF32 _ n k t d a => some (packWord 0x6B [(22, n.toNat), (19, k.toNat), (18, t.toNat), (12, d.toNat), (6, a.toNat)])
  | .vscanI32 _ n k t d a => some (packWord 0x6C [(22, n.toNat), (19, k.toNat), (18, t.toNat), (12, d.toNat), (6, a.toNat)])
  | .vtopkF32 _ n k t d a x => some (packWord 0x6D [(22, n.toNat), (19, k.toNat), (18, t.toNat), (12, d.toNat), (6, a.toNat), (0, x.toNat)])
  | .vperm32 _ n k t d a b => some (packWord 0x70 [(22, n.toNat), (19, k.toNat), (18, t.toNat), (12, d.toNat), (6, a.toNat), (0, b.toNat)])
  | .vperm16 _ n k t d a b => some (packWord 0x71 [(22, n.toNat), (19, k.toNat), (18, t.toNat), (12, d.toNat), (6, a.toNat), (0, b.toNat)])
  | .vperm8 _ n k t d a b => some (packWord 0x72 [(22, n.toNat), (19, k.toNat), (18, t.toNat), (12, d.toNat), (6, a.toNat), (0, b.toNat)])
  | .vrotl32 _ n k t d a x => some (packWord 0x73 [(22, n.toNat), (19, k.toNat), (18, t.toNat), (12, d.toNat), (6, a.toNat), (0, x.toNat)])
  | .vzip32 _ n t d a b => some (packWord 0x74 [(22, n.toNat), (18, t.toNat), (12, d.toNat), (6, a.toNat), (0, b.toNat)])
  | .vunzip32 _ n t d a b => some (packWord 0x75 [(22, n.toNat), (18, t.toNat), (12, d.toNat), (6, a.toNat), (0, b.toNat)])
  | .vxtr32 _ t d a x => some (packWord 0x76 [(18, t.toNat), (12, d.toNat), (6, a.toNat), (0, x.toNat)])
  | .vins32 _ k t d a b => some (packWord 0x77 [(19, k.toNat), (18, t.toNat), (12, d.toNat), (6, a.toNat), (0, b.toNat)])
  | .viota32 _ n k t d x => some (packWord 0x78 [(22, n.toNat), (19, k.toNat), (18, t.toNat), (12, d.toNat), (0, x.toNat)])
  | .vlutBf16 _ n k t d a => some (packWord 0x7C [(22, n.toNat), (19, k.toNat), (18, t.toNat), (12, d.toNat), (6, a.toNat)])
  | .vltld _ t a => some (packWord 0x7D [(18, t.toNat), (6, a.toNat)])
  | .vgath32 n k t d a c => some (packWord 0x80 [(22, n.toNat), (19, k.toNat), (18, t.toNat), (12, d.toNat), (6, a.toNat), (0, c.toNat)])
  | .vgath16 n k t d a c => some (packWord 0x81 [(22, n.toNat), (19, k.toNat), (18, t.toNat), (12, d.toNat), (6, a.toNat), (0, c.toNat)])
  | .vscat32 n k t d a c => some (packWord 0x82 [(22, n.toNat), (19, k.toNat), (18, t.toNat), (12, d.toNat), (6, a.toNat), (0, c.toNat)])
  | .vscat16 n k t d a c => some (packWord 0x83 [(22, n.toNat), (19, k.toNat), (18, t.toNat), (12, d.toNat), (6, a.toNat), (0, c.toNat)])
  | .mma a b t g => some (packWord 0x01 [(20, a.toNat), (16, b.toNat), (10, t.toNat), (6, g.toNat)])
  | .mmaOw a b t g => some (packWord 0x01 [(20, a.toNat), (16, b.toNat), (10, t.toNat), (6, g.toNat), (4, 1)])
  | .mzero t => some (packWord 0x02 [(10, t.toNat)])
  | .mres t => some (packWord 0x08 [(10, t.toNat)])
  | .mrdF32 v t c f => some (packWord 0x03 [(18, v.toNat), (10, t.toNat), (6, c.toNat), (2, f.toNat)])
  | .mrdBf16 v t c f => some (packWord 0x04 [(18, v.toNat), (10, t.toNat), (6, c.toNat), (2, f.toNat)])
  | .mwrF32 v t c f => some (packWord 0x05 [(18, v.toNat), (10, t.toNat), (6, c.toNat), (2, f.toNat)])
  | .mscl v t c f => some (packWord 0x06 [(18, v.toNat), (10, t.toNat), (6, c.toNat), (2, f.toNat)])
  | .mrowmax v t c f => some (packWord 0x07 [(18, v.toNat), (10, t.toNat), (6, c.toNat), (2, f.toNat)])
  | .getc _ d q r s m x g => some (packWord 0x01 [(20, d.toNat), (19, q.toNat), (18, r.toNat), (15, s.toNat), (14, m.toNat), (8, x.toNat), (0, g.toNat)])
  | .putc _ d q r s m x g => some (packWord 0x02 [(20, d.toNat), (19, q.toNat), (18, r.toNat), (15, s.toNat), (14, m.toNat), (8, x.toNat), (0, g.toNat)])
  | .getp _ d q r s m x g => some (packWord 0x03 [(20, d.toNat), (19, q.toNat), (18, r.toNat), (15, s.toNat), (14, m.toNat), (8, x.toNat), (0, g.toNat)])
  | .xfer _ d q r s m x g => some (packWord 0x04 [(20, d.toNat), (19, q.toNat), (18, r.toNat), (15, s.toNat), (14, m.toNat), (8, x.toNat), (0, g.toNat)])
  | .bget _ d m x g => some (packWord 0x05 [(20, d.toNat), (14, m.toNat), (8, x.toNat), (0, g.toNat)])
  | .pref _ d => some (packWord 0x06 [(20, d.toNat)])
  | .putr _ d q r s m x g => some (packWord 0x07 [(20, d.toNat), (19, q.toNat), (18, r.toNat), (15, s.toNat), (14, m.toNat), (8, x.toNat), (0, g.toNat)])
  | .cflush _ n => some (packWord 0x08 [(0, n.toNat)])
  | .fence a b c s k => some (packWord 0x01 [(19, a.toNat), (14, b.toNat), (9, c.toNat), (6, s.toNat), (4, k.toNat)])
  | .fenceall s k => some (packWord 0x02 [(6, s.toNat), (4, k.toNat)])
  | .lsync => some (packWord 0x03 [])
  | .aaddI32 d c x s q r => some (packWord 0x10 [(18, d.toNat), (13, c.toNat), (7, x.toNat), (4, s.toNat), (3, q.toNat), (2, r.toNat)])
  | .aaddI64 d c x s q r => some (packWord 0x11 [(18, d.toNat), (13, c.toNat), (7, x.toNat), (4, s.toNat), (3, q.toNat), (2, r.toNat)])
  | .aminI64 d c x s q r => some (packWord 0x12 [(18, d.toNat), (13, c.toNat), (7, x.toNat), (4, s.toNat), (3, q.toNat), (2, r.toNat)])
  | .amaxI64 d c x s q r => some (packWord 0x13 [(18, d.toNat), (13, c.toNat), (7, x.toNat), (4, s.toNat), (3, q.toNat), (2, r.toNat)])
  | .aminnN64 d c x s q r => some (packWord 0x14 [(18, d.toNat), (13, c.toNat), (7, x.toNat), (4, s.toNat), (3, q.toNat), (2, r.toNat)])
  | .amaxnN64 d c x s q r => some (packWord 0x15 [(18, d.toNat), (13, c.toNat), (7, x.toNat), (4, s.toNat), (3, q.toNat), (2, r.toNat)])
  | .aand d c x s q r => some (packWord 0x16 [(18, d.toNat), (13, c.toNat), (7, x.toNat), (4, s.toNat), (3, q.toNat), (2, r.toNat)])
  | .aor d c x s q r => some (packWord 0x17 [(18, d.toNat), (13, c.toNat), (7, x.toNat), (4, s.toNat), (3, q.toNat), (2, r.toNat)])
  | .axor d c x s q r => some (packWord 0x18 [(18, d.toNat), (13, c.toNat), (7, x.toNat), (4, s.toNat), (3, q.toNat), (2, r.toNat)])
  | .axchg d c x s q r => some (packWord 0x19 [(18, d.toNat), (13, c.toNat), (7, x.toNat), (4, s.toNat), (3, q.toNat), (2, r.toNat)])
  | .acas d c x s q r => some (packWord 0x1A [(18, d.toNat), (13, c.toNat), (7, x.toNat), (4, s.toNat), (3, q.toNat), (2, r.toNat)])
  | .acas2 d c x s q r => some (packWord 0x1B [(18, d.toNat), (13, c.toNat), (7, x.toNat), (4, s.toNat), (3, q.toNat), (2, r.toNat)])
  | .afaddF32 d c x s q r => some (packWord 0x1C [(18, d.toNat), (13, c.toNat), (7, x.toNat), (4, s.toNat), (3, q.toNat), (2, r.toNat)])
  | .ainit a n => some (packWord 0x20 [(12, a.toNat), (0, n.toNat)])
  | .arrive d a s n => some (packWord 0x21 [(18, d.toNat), (12, a.toNat), (6, s.toNat), (0, n.toNat)])
  | .waitph d a p l => some (packWord 0x22 [(18, d.toNat), (12, a.toNat), (8, p.toNat), (0, l.toNat)])
  | .lacqR d c s => some (packWord 0x28 [(18, d.toNat), (13, c.toNat), (7, s.toNat)])
  | .lacqW d c s => some (packWord 0x28 [(18, d.toNat), (13, c.toNat), (7, s.toNat), (5, 1)])
  | .lrel d c s => some (packWord 0x29 [(18, d.toNat), (13, c.toNat), (7, s.toNat)])
  | .lrenew d c s => some (packWord 0x2A [(18, d.toNat), (13, c.toNat), (7, s.toNat)])
  | .harv d c s => some (packWord 0x2B [(18, d.toNat), (13, c.toNat), (7, s.toNat)])
  | .sealLines a b c => some (packWord 0x30 [(18, a.toNat), (12, b.toNat), (7, c.toNat)])
  | .openLines a b c => some (packWord 0x31 [(18, a.toNat), (12, b.toNat), (7, c.toNat)])
  | .hwin d c => some (packWord 0x34 [(18, d.toNat), (13, c.toNat)])
  | .mgmatch t a b => some (packWord 0x38 [(18, t.toNat), (12, a.toNat), (6, b.toNat)])
  | .mgsel a b c => some (packWord 0x39 [(18, a.toNat), (12, b.toNat), (6, c.toNat)])
  | .mgmerge a b c => some (packWord 0x3A [(18, a.toNat), (12, b.toNat), (6, c.toNat)])
  | .mgunm a b c => some (packWord 0x3B [(18, a.toNat), (12, b.toNat), (6, c.toNat)])
  | .mglogs a b => some (packWord 0x3C [(18, a.toNat), (12, b.toNat)])
  | .trap i => some (packWord 0x40 [(0, i.toNat)])
  | .signal a i => some (packWord 0x41 [(12, a.toNat), (0, i.toNat)])
  | .yield => some (packWord 0x42 [])
  | .br p n o => some (packWord 0x01 [(20, p.toNat), (19, n.toNat), (0, o.toNat)])
  | .jmp p n i => some (packWord 0x02 [(20, p.toNat), (19, n.toNat), (0, i.toNat)])
  | .jmpx p n a => some (packWord 0x03 [(20, p.toNat), (19, n.toNat), (13, a.toNat)])
  | .call p n i => some (packWord 0x04 [(20, p.toNat), (19, n.toNat), (0, i.toNat)])
  | .ret p n => some (packWord 0x05 [(20, p.toNat), (19, n.toNat)])
  | .loop a s e => some (packWord 0x06 [(18, a.toNat), (13, s.toNat), (0, e.toNat)])
  | .rot n => some (packWord 0x07 [(0, n.toNat)])
  | .waitl a n => some (packWord 0x08 [(18, a.toNat), (7, n.toNat)])
  | .waitt t => some (packWord 0x09 [(18, t.toNat)])
  | .waitc n => some (packWord 0x0A [(0, n.toNat)])
  | .taskEnd => some (packWord 0x0B [])
  | .brk i => some (packWord 0x0C [(0, i.toNat)])
  | .waitCounterExpiry => none
  | .engineWaitEnd => none
  | .coreClockGate => none
  | .coreWake => none
  | .dispatchOpportunity => none
  | .gangReserve => none
  | .gangEvict => none
  | .evictionComplete => none
  | .gangRestore => none
  | .drainComplete => none
  | .contextResume => none
  | .contextEnd => none
  | .asyncFaultDelivery => none
  | .vectorBypassFill => none
  | .vectorLineWrite => none
  | .maskWrite => none
  | .divideResult => none
  | .loadReturn => none
  | .storeApply => none
  | .writeAck => none
  | .atomicReturn => none
  | .atomicFail => none
  | .gatherLand => none
  | .tileRetire => none
  | .residueReplay => none
  | .residue => none
  | .releaseComplete => none
  | .acquireComplete => none
  | .pinRetryTimeout => none
  | .signalRecordWrite => none
  | .timedEligible => none
  | .copyActivate => none
  | .copyLineLand => none
  | .copyAck => none
  | .copyComplete => none
  | .copyFail => none
  | .arriveApply => none
  | .waitphTimeout => none
  | .tlbWalkEnd => none
  | .pageService => none
  | .pageResident => none
  | .pageServiceFail => none
  | .shootDown => none
  | .shootDownComplete => none
  | .pageMigrate => none
  | .revoke => none
  | .revokeComplete => none
  | .revocationSweep => none
  | .daSweep => none
  | .harvestComplete => none
  | .scrubStep => none
  | .accumulatorScrub => none
  | .mgCommandComplete => none
  | .mergeClaimTimeout => none
  | .mergeClaim => none
  | .cipherLineDone => none
  | .rekey => none
  | .rekeyComplete => none
  | .worldCreate => none
  | .worldDestroy => none
  | .programLoad => none
  | .coreClear => none
  | .spdmGetMeasurements => none
  | .ltTick => none
  | .lineFill => none
  | .copyAgeing => none
  | .writeRefused => none
  | .leaseGrant => none
  | .leaseAcquireTimeout => none
  | .leaseRenewResponse => none
  | .leaseReleaseResponse => none
  | .leaseExpiry => none
  | .leaseRenewalDue => none
  | .bulkGetPage => none
  | .jasperWalk => none
  | .leaseRetry => none
  | .checkpointJob => none
  | .tmodeWrite => none
  | .tenantReset => none
  | .doorbellNotify => none
  | .queueMap => none
  | .queueUnmap => none
  | .dispatchWrite => none
  | .evciWrite => none
  | .armTag => none
  | .disarmTag => none
  | .armedMessage => none
  | .windowOpen => none
  | .windowClose => none
  | .hostWindowWrite => none
  | .channelUpdate => none
  | .channelReset => none
  | .registerWrite => none
  | .flitReceive => none
  | .flitReplay => none
  | .laneMapChange => none
  | .heaterLimit => none
  | .vetoTimeout => none
  | .microcontrollerReset => none
  | .retuneMarginExpiry => none
  | .windowGrant => none
  | .cumulativeAck => none
  | .pathFailureResend => none
  | .arbiterGrant => none
  | .arbiterRequest => none
  | .topologyChangeRequest => none
  | .topologyPrepare => none
  | .topologyCommit => none
  | .topologyAbort => none
  | .prepareTimeout => none
  | .decisionQuery => none
  | .coordinatorUnreachable => none
  | .reductionSetup => none
  | .reductionTeardown => none
  | .contributionArrival => none
  | .ilimSet => none
  | .freezeCycle => none
  | .temperatureSample => none
  | .voltageDroop => none
  | .processSample => none
  | .hardwareError => none
  | .healthLogClear => none
  | .packageReset => none
  | .firmwareLoad => none
  | .quiesce => none
  | .powerOff => none
  | .supplyRecovery => none
  | .laneVeto => none
  | .retuningResume => none
  | .slotStart => none
  | .prepareAnswer => none
  | .objectCreate => none
  | .objectDelete => none
  | .harvestListOpen => none
  | .tstepSet => none
  | .hostLeaseRenewal => none

end Sys2Proof
end

