-- ==== Sys2Proof/Machine/Control.lean ====
section
/-! DEFINITION. No-operations, the B slot, and the instructions that act on the context as a whole (R24, R100 to R106,
R133 to R141, R192, R201, R312, R346). -/

namespace Sys2Proof.Machine

/-- The all-zero word (R24). -/
def slotNop (_ : State) : SlotRes := { slot := .s }
/-- A bundle of eight no-operations (R24). -/
def execNop (s : State) : Host.Outcome State Fault Refusal := runAlone .nop (slotNop s) s

/-- A predicated form acts when its predicate is 1 with neg = 0, or 0 with neg = 1 (R38, R133). -/
def acts (c : Ctx) (p : BitVec 4) (n : BitVec 1) : Bool := c.pVal p != (n == 1#1)

/-- BR: the target is checked whether or not the form acts (R134). -/
def slotBr (p : BitVec 4) (n : BitVec 1) (o : BitVec 19) (s : State) : SlotRes :=
  let c := s.ctx
  let target := (c.pc.toNat : Int) + o.toInt
  { slot := .b, draw := 1, illegal := target < 0 || target > 8191
    ctl := if acts c p n then .goto target.toNat true else .fall }
/-- BR, issued alone. -/
def execBr (p : BitVec 4) (n : BitVec 1) (o : BitVec 19) (s : State) : Host.Outcome State Fault Refusal :=
  runAlone (.br p n o) (slotBr p n o s) s

/-- JMP (R135). -/
def slotJmp (p : BitVec 4) (n : BitVec 1) (i : BitVec 19) (s : State) : SlotRes :=
  { slot := .b, draw := 1, ctl := if acts s.ctx p n then .goto i.toNat true else .fall }
/-- JMP, issued alone. -/
def execJmp (p : BitVec 4) (n : BitVec 1) (i : BitVec 19) (s : State) : Host.Outcome State Fault Refusal :=
  runAlone (.jmp p n i) (slotJmp p n i s) s

/-- JMPX: waits for xa even when it does not act; the value is checked only when it acts (R135). -/
def slotJmpx (p : BitVec 4) (n : BitVec 1) (a : BitVec 6) (s : State) : SlotRes :=
  let c := s.ctx
  let v := c.xVal a
  { slot := .b, draw := 1
    trap := firstTrap [xPoisonTrap c a, trapIf (!c.xEmpty a && acts c p n && v.toNat > 8191) (slotTrap .illegal 7)]
    hold := xHold c a
    ctl := if acts c p n then .goto v.toNat true else .fall }
/-- JMPX, issued alone. -/
def execJmpx (p : BitVec 4) (n : BitVec 1) (a : BitVec 6) (s : State) : Host.Outcome State Fault Refusal :=
  runAlone (.jmpx p n a) (slotJmpx p n a s) s

/-- CALL: LNK gets this bundle's index + 1; one that acts in bundle 8191 raises ILLEGAL (R136). -/
def slotCall (p : BitVec 4) (n : BitVec 1) (i : BitVec 19) (s : State) : SlotRes :=
  let c := s.ctx
  let act := acts c p n
  { slot := .b, draw := 1, dests := [.sys 24]
    trap := trapIf (act && c.pc.toNat == 8191) (slotTrap .illegal 7)
    effect := fun t => if act then t.modCtx (fun o => { o with sys := { o.sys with lnk := (c.pc + 1).setWidth 13 } }) else t
    ctl := if act then .goto i.toNat false else .fall }
/-- CALL, issued alone. -/
def execCall (p : BitVec 4) (n : BitVec 1) (i : BitVec 19) (s : State) : Host.Outcome State Fault Refusal :=
  runAlone (.call p n i) (slotCall p n i s) s

/-- RET (R137). -/
def slotRet (p : BitVec 4) (n : BitVec 1) (s : State) : SlotRes :=
  { slot := .b, draw := 1, ctl := if acts s.ctx p n then .goto s.ctx.sys.lnk.toNat false else .fall }
/-- RET, issued alone. -/
def execRet (p : BitVec 4) (n : BitVec 1) (s : State) : Host.Outcome State Fault Refusal :=
  runAlone (.ret p n) (slotRet p n s) s

/-- LOOP (R138). -/
def slotLoop (a : BitVec 6) (st : BitVec 5) (e : BitVec 13) (s : State) : SlotRes :=
  let c := s.ctx
  let n := c.xVal a
  let last := c.pc.toNat + e.toNat
  { slot := .b, draw := 1, dests := [25, 26, 27, 28, 29, 30, 31, 32].map Dest.sys
    illegal := last > 8191
    trap := firstTrap [
      xPoisonTrap c a,
      trapIf (c.loops[0].v && last ≥ c.loops[0].last.toNat) (slotTrap .illegal 7),
      trapIf (!c.xEmpty a && n != 0 && c.loops[3].v) (slotTrap .illegal 7)]
    hold := xHold c a
    ctl := if n = 0 then .skip (last + 1)
      else .push { cnt := n, v := true, step := st, start := (c.pc + 1).setWidth 13, last := BitVec.ofNat 13 last } }
/-- LOOP, issued alone. -/
def execLoop (a : BitVec 6) (st : BitVec 5) (e : BitVec 13) (s : State) : Host.Outcome State Fault Refusal :=
  runAlone (.loop a st e) (slotLoop a st e s) s

/-- ROT (R192). -/
def slotRot (n : BitVec 10) (s : State) : SlotRes :=
  let vrs := s.ctx.sys.vrs.toNat
  let v := BitVec.ofNat 10 ((s.ctx.sys.vrb.toNat + vrs - n.toNat % vrs) % vrs)
  { slot := .b, draw := 1, dests := [.sys 11]
    effect := fun t => t.modCtx (fun c => { c with sys := { c.sys with vrb := v } }) }
/-- ROT, issued alone. -/
def execRot (n : BitVec 10) (s : State) : Host.Outcome State Fault Refusal := runAlone (.rot n) (slotRot n s) s

/-- WAITL: `n` holds the count less one (R201). DEDUCED: TRAPI takes the low 24 bits of the line (R186). -/
def slotWaitl (a : BitVec 6) (n : BitVec 11) (s : State) : SlotRes :=
  let c := s.ctx
  let l := (c.xVal a).toNat
  let size := c.sys.allocSize.toNat
  { slot := .b, draw := 1
    trap := firstTrap [xPoisonTrap c a,
      trapIf (!c.xEmpty a && l + (n.toNat + 1) > size)
        { code := Code.lineRange.num, trapi := BitVec.ofNat 64 (7 + max l size % 2 ^ 24 * 256) }]
    hold := xHold c a
    waits := [.lines l (n.toNat + 1)] }
/-- WAITL, issued alone. -/
def execWaitl (a : BitVec 6) (n : BitVec 11) (s : State) : Host.Outcome State Fault Refusal :=
  runAlone (.waitl a n) (slotWaitl a n s) s

/-- WAITT (R312). -/
def slotWaitt (t : BitVec 6) (s : State) : SlotRes :=
  { slot := .b, draw := 1
    trap := trapIf (s.ctx.sys.tilesCount.toNat ≤ t.toNat) { code := Code.tileRange.num, trapi := 7 }
    waits := [.tile t] }
/-- WAITT, issued alone. -/
def execWaitt (t : BitVec 6) (s : State) : Host.Outcome State Fault Refusal := runAlone (.waitt t) (slotWaitt t s) s

/-- WAITC (R346). -/
def slotWaitc (n : BitVec 8) (_ : State) : SlotRes := { slot := .b, draw := 1, waits := [.copies n.toNat] }
/-- WAITC, issued alone. -/
def execWaitc (n : BitVec 8) (s : State) : Host.Outcome State Fault Refusal := runAlone (.waitc n) (slotWaitc n s) s

/-- END (R106). -/
def slotEnd (_ : State) : SlotRes := { slot := .b, draw := 1, ctl := .finish }
/-- END, issued alone. -/
def execEnd (s : State) : Host.Outcome State Fault Refusal := runAlone .taskEnd (slotEnd s) s

/-- BRK (R104). -/
def slotBrk (i : BitVec 16) (_ : State) : SlotRes :=
  { slot := .b, draw := 1, post := some { code := Code.break_.num, trapi := i.setWidth 64 } }
/-- BRK, issued alone. -/
def execBrk (i : BitVec 16) (s : State) : Host.Outcome State Fault Refusal := runAlone (.brk i) (slotBrk i s) s

/-- TRAP (R103). -/
def slotTrapInstr (i : BitVec 16) (_ : State) : SlotRes :=
  { slot := .y, draw := 2, post := some { code := Code.trap.num, trapi := i.setWidth 64 } }
/-- TRAP, issued alone. -/
def execTrap (i : BitVec 16) (s : State) : Host.Outcome State Fault Refusal := runAlone (.trap i) (slotTrapInstr i s) s

/-- YIELD (R101). -/
def slotYield (_ : State) : SlotRes := { slot := .y, draw := 2, yields := true }
/-- YIELD, issued alone. -/
def execYield (s : State) : Host.Outcome State Fault Refusal := runAlone .yield (slotYield s) s

end Sys2Proof.Machine
end

