-- ==== Sys2Proof/Machine/Access.lean ====
section
/-! DEFINITION. Translation at issue (R399 to R403), the access checks of R124, the range tracker (R367 to R369) and the
entry of an operation into its context's queues (R131, R361). -/

namespace Sys2Proof.Machine

-- Translation

/-- A space's number (R148). -/
def Space.num : Space → Nat
  | .scratch => 1 | .local => 2 | .pool => 3 | .host => 4

/-- What an access finds of its page before it issues. -/
inductive Xlat where
  | hit (frame : Nat)
  | walk
  | absent
  | lost
  deriving DecidableEq, Repr

/-- Whether an extent entry holds a page (R399). -/
def Extent.holds (e : Extent) (sp : Space) (obj page : Nat) : Bool :=
  e.space == sp && e.obj == obj && e.page ≤ page && page < e.page + e.count

/-- Whether a TLB entry holds a page (R399). -/
def TlbEntry.holds (e : TlbEntry) (sp : Space) (obj page : Nat) : Bool := e.space == sp && e.obj == obj && e.page == page

/-- A cluster by its global number. -/
def State.clusterAt (s : State) (cl : Nat) : Cluster := (tabGet s.clusters cl).getD {}

/-- A cluster changed. -/
def State.modCluster (s : State) (cl : Nat) (f : Cluster → Cluster) : State :=
  { s with clusters := tabSet s.clusters cl (f (s.clusterAt cl)) }

/-- A page entered in a list of pages once. -/
def addPage (l : List Nat) (page : Nat) : List Nat := if l.contains page then l else page :: l

/-- The first structure that holds the page: the task's extents, the cluster's TLB, the answer of a finished walk; a
walk is needed where none does (R399). -/
def translate (s : State) (c : Ctx) (sp : Space) (obj page : Nat) : Xlat :=
  match c.extents.find? (fun e => e.holds sp obj page) with
  | some e => .hit (e.frame + (page - e.page))
  | none =>
    match (s.clusterAt (clusterOf s.g)).tlb.find? (fun e => e.holds sp obj page) with
    | some e => .hit e.frame
    | none =>
      match c.answers.find? (fun a => a.1 == sp && a.2.1 == obj && a.2.2.1 == page) with
      | some (_, _, _, .absent) => .absent
      | some (_, _, _, .lost) => .lost
      | _ => .walk

/-- A walk begun for the context at hand, unless it already has one for the page; it records the map version (R407). -/
def startWalk (sp : Space) (obj page : Nat) (gen : BitVec 8) (s : State) : State :=
  let k := s.cr.cur
  if s.walks.any (fun w => w.g == s.g && w.k == k && w.space == sp && w.obj == obj && w.page == page) then s
  else { s with nextId := s.nextId + 1, walks := s.walks ++ [{ id := s.nextId, cluster := clusterOf s.g, g := s.g, k := k
                                                               space := sp, obj := obj, page := page, gen := gen, version := s.version }] }

/-- The gathered A bit, and D for a write, of the entry that serves an access of a context of the core at hand (R411). -/
def State.markPage (s : State) (k : BitVec 2) (sp : Space) (obj page : Nat) (write : Bool) : State :=
  let c := s.ctxAt k
  if c.extents.any (fun e => e.holds sp obj page) then
    s.setCtxAt k { c with extents := c.extents.map (fun e => if e.holds sp obj page then { e with
      a := addPage e.a page, d := if write then addPage e.d page else e.d } else e) }
  else
    s.modCluster (clusterOf s.g) (fun cl =>
      { cl with tlb := (cl.tlb.filter (fun e => e.holds sp obj page)).map (fun e => { e with a := true, d := e.d || write }) ++
                       cl.tlb.filter (fun e => !e.holds sp obj page) })

/-- The same for an access of the context at hand. -/
def markAccess (sp : Space) (obj page : Nat) (write : Bool) (s : State) : State := s.markPage s.cr.cur sp obj page write

/-- The generation of an object, where the package has its map (R178). -/
def State.genOf (s : State) (obj : Nat) : Option (BitVec 8) := (tabGet s.objects obj).map ObjMap.gen

/-- An object is there for its tenant: neither retired nor deleted (R181, R405). -/
def ObjMap.stands (o : ObjMap) : Bool := !o.retired && !o.deleted

/-- A capability's generation is not its object's (R178). An object number that the package has no map for, and one that is retired or
deleted (R181, R405), has no generation: every capability for it is stale (log: a DESIGN CHOICE for a number without a map). -/
def stale (s : State) (cap : Cap) (obj : Nat) : Bool :=
  match tabGet s.objects obj with
  | some o => !o.stands || o.gen != cap.gen
  | none => true

-- Scratchpad addresses

/-- The placement of a context's gang and stage (R68). -/
def State.placementOf (s : State) (c : Ctx) : Option Placement :=
  s.placements.find? (fun p => p.tenant == c.sys.tenant && p.launch == c.sys.launch && p.gang == c.sys.gang && p.stage == c.sys.stage)

/-- The core and byte that a scratchpad address names within a placement, for `n` bytes; none outside the gang's region
on the named core (R149). -/
def Placement.resolve (p : Placement) (a n : Nat) : Option (Nat × Nat) :=
  if a / 2 ^ 26 != 0 then none
  else
    match tabGet p.cores (a / 2 ^ 22) with
    | none => none
    | some (g, base, lines) =>
      let off := a % 2 ^ 22
      if off + n ≤ lines * 128 then some (g, base * 128 + off) else none

/-- A line of a core lies in the allotment of a resident task of a placement's gang and stage (R149, R188). -/
def State.lineHeld (s : State) (p : Placement) (g line : Nat) : Bool :=
  (s.coreAt g).ctxs.any (fun c => c.state != .free && c.sys.tenant == p.tenant && c.sys.launch == p.launch && c.sys.gang == p.gang &&
    c.sys.stage == p.stage && c.sys.allocBase.toNat ≤ line && line < c.sys.allocBase.toNat + c.sys.allocSize.toNat)

/-- The core and byte that a scratchpad address names within a placement, where its lines are still allotted (R149, R188). -/
def State.resolveIn (s : State) (p : Placement) (a n : Nat) : Option (Nat × Nat) :=
  match p.resolve a n with
  | some (g, byte) => if s.lineHeld p g (byte / 128) && s.lineHeld p g ((byte + n - 1) / 128) then some (g, byte) else none
  | none => none

/-- The core and byte that a context's scratchpad address names (R149). -/
def resolveScratch (s : State) (c : Ctx) (a n : Nat) : Option (Nat × Nat) :=
  match s.placementOf c with
  | none => none
  | some p => s.resolveIn p a n

-- The checks of R124

/-- The spaces an access may name. -/
def spaceOf (v : BitVec 3) : Option Space :=
  match v.toNat with
  | 1 => some .scratch
  | 2 => some .local
  | 3 => some .pool
  | 4 => some .host
  | _ => none

/-- The outcome of an access's checks: its faults in order, its wait, what the wait or the fault starts, and where the
access goes. -/
structure Access where
  traps : List (Option Trap)
  hold : Option Hold := none
  onHold : State → State := id
  onTrap : State → State := id
  addr : MAddr := { space := .host, obj := 0, off := 0 }
  mark : State → State := id

/-- A fault that reports the address (R124). -/
def addrTrap (b : Bool) (code : Code) (a : Word) : Option Trap := trapIf b { code := code.num, trapi := a }

/-- The page a context waits for in PAGE (R81). -/
def waitPage (sp : Space) (obj page : Nat) (s : State) : State := s.modCtx (fun c => { c with pageWait := some (sp, obj, page) })

/-- The object, offset and page of an address of space 2 or 3 (R149, R394). -/
def objOf (a : Word) : Nat := a.toNat / 2 ^ 40
def offOf (a : Word) : Nat := a.toNat % 2 ^ 40
def pageOf (a : Word) : Nat := a.toNat % 2 ^ 40 / 65536

/-- The form of the line that holds a byte of a core (R193). -/
def formAt (s : State) (g byte : Nat) : Form := (s.metaAt (lineKey g (byte / 128))).form

/-- The form of a line as a bundle of the context at hand knows it: of its own core at once, of another core once it has come over the
cluster crossbar (R125). -/
def formKnown (s : State) (c : Ctx) (g byte : Nat) : Option Form :=
  if g = s.g then some (formAt s g byte)
  else
    match c.answers.find? (fun a => a.1 == .scratch && a.2.1 == g && a.2.2.1 == byte / 128) with
    | some (_, _, _, .form f) => some f
    | _ => none

/-- The fetch of another core's line form (R125). -/
def fetchForm (g byte : Nat) (s : State) : State := startWalk .scratch g (byte / 128) 0 s

/-- The checks of a scalar access in the order of R124, for a capability register that is full. `spaces` are the spaces
allowed and `write` marks D (R411). -/
def accessChecks (s : State) (c : Ctx) (cap : Cap) (a : Word) (n : Nat) (perm : Perm) (spaces : List Space) (write : Bool) :
    Access :=
  let (base, top) := boundsOf cap
  let sp := spaceOf cap.space
  let badSpace := match sp with | some p => !spaces.contains p | none => true
  let first : List (Option Trap) :=
    [addrTrap (!cap.tag) .capTag a,
     addrTrap (cap.otype != 0) .capSealed a,
     addrTrap (!cap.has perm) .capPerm a,
     addrTrap badSpace .capSpace a,
     addrTrap (a.toNat < base || a.toNat + n > top) .capBounds a,
     addrTrap (a.toNat % n != 0) .align a]
  match sp with
  | some .scratch =>
    match resolveScratch s c a.toNat n with
    | none => { traps := first ++ [addrTrap true .lineRange a] }
    | some (g, byte) =>
      match formKnown s c g byte with
      | some f => { traps := first ++ [addrTrap (f != .plain) .form a], addr := { space := .scratch, obj := g, off := byte, full := a } }
      | none => { traps := first, hold := some .engine, onHold := fetchForm g byte }
  | some .host =>
    { traps := first ++ [addrTrap (c.sys.world != 0) .world a], addr := { space := .host, obj := 0, off := a.toNat, full := a, vf := c.sys.tenant.toNat + 1 } }
  | some p =>
    let obj := objOf a
    let page := pageOf a
    let before := first ++ [addrTrap (stale s cap obj) .capStale a, addrTrap (c.sys.world != 0) .world a]
    match translate s c p obj page with
    | .hit f => { traps := before, addr := { space := p, obj := obj, off := offOf a, frame := f, gen := cap.gen, full := a }
                  mark := markAccess p obj page write }
    | .walk => { traps := before, hold := some .engine, onHold := startWalk p obj page cap.gen }
    | .absent => { traps := before ++ [addrTrap true .page a], onTrap := if (firstTrap before).isNone then waitPage p obj page else id }
    | .lost => { traps := before ++ [addrTrap true .eccUncorr a] }
  | none => { traps := first }

-- The range tracker

/-- What an access counts as in its tracker entry (R367). -/
inductive Counted where
  | store | copy | atomic
  deriving DecidableEq, Repr

/-- An entry whose counts are all zero is free (R368). -/
def TrackEntry.isFree (e : TrackEntry) : Bool := e.stores.isEmpty && e.copies.isEmpty && e.atomics.isEmpty

/-- Every access counted in an entry. -/
def TrackEntry.ids (e : TrackEntry) : List Nat := e.stores ++ e.copies ++ e.atomics

/-- An access counted. -/
def TrackEntry.add (e : TrackEntry) (what : Counted) (id : Nat) : TrackEntry :=
  match what with
  | .store => { e with stores := e.stores ++ [id] }
  | .copy => { e with copies := e.copies ++ [id] }
  | .atomic => { e with atomics := e.atomics ++ [id] }

/-- One range holds another (R368). -/
def Range.contains (a b : Range) : Bool := a.space == b.space && a.obj == b.obj && a.base ≤ b.base && b.top ≤ a.top

/-- Same space, same core or object, and a common byte (R371). -/
def Range.overlaps (a b : Range) : Bool :=
  a.space == b.space && a.obj == b.obj && a.base < b.top && b.base < a.top && a.base < a.top && b.base < b.top

/-- The best index of a list under a strict preference, the first among equals. -/
def pickBest (better : Nat → Nat → Bool) : List Nat → Option Nat
  | [] => none
  | i :: rest =>
    match pickBest better rest with
    | none => some i
    | some j => if better j i then some j else some i

/-- An entry by its index. -/
def Ctx.trackAt (c : Ctx) (i : Nat) : TrackEntry := c.track[i]?.getD {}

/-- An access recorded in the tracker (R368, R369): in the youngest ranged entry that contains its range, else in the
free entry whose range was taken longest ago, else in the oldest entry, whose counts go to the catch-all. -/
def Ctx.record (c : Ctx) (what : Counted) (id : Nat) (r : Range) : Ctx :=
  let all := List.range 64
  let within := all.filter (fun i => match (c.trackAt i).range with | some q => q.contains r | none => false)
  match pickBest (fun i j => (c.trackAt j).age < (c.trackAt i).age) within with
  | some i => { c with track := c.track.setIfInBounds i ((c.trackAt i).add what id) }
  | none =>
    let frees := all.filter (fun i => (c.trackAt i).isFree)
    match pickBest (fun i j => (c.trackAt i).age < (c.trackAt j).age) frees with
    | some i => { c with track := c.track.setIfInBounds i (TrackEntry.add { range := some r, age := id } what id) }
    | none =>
      match pickBest (fun i j => (c.trackAt i).age < (c.trackAt j).age) all with
      | none => c
      | some i =>
        let o := c.trackAt i
        { c with
          catchAll := { c.catchAll with stores := c.catchAll.stores ++ o.stores, copies := c.catchAll.copies ++ o.copies
                                        atomics := c.catchAll.atomics ++ o.atomics }
          track := c.track.setIfInBounds i (TrackEntry.add { range := some r, age := id } what id) }

/-- The accesses a release covers: every overlapping entry and the catch-all when it counts any, or every entry without
a list (R371). -/
def Ctx.covered (c : Ctx) (ranges : Option (List Range)) : List Nat :=
  match ranges with
  | none => (c.track.toList.map TrackEntry.ids).flatten ++ c.catchAll.ids
  | some [] => []
  | some rs => (c.track.toList.map (fun e => match e.range with
      | some r => if rs.any (fun q => q.overlaps r) then e.ids else []
      | none => [])).flatten ++ c.catchAll.ids

/-- The object or logical core that a cursor names (R371). -/
def rangeObj (space : Nat) (cursor : Nat) : Nat :=
  if space = 1 then cursor / 2 ^ 22 % 16 else if space = 2 ∨ space = 3 then cursor / 2 ^ 40 else 0

/-- The range of a capability: its space, the core or object of its cursor, and its bounds (R368, R380). -/
def capRange (cap : Cap) : Range :=
  let (b, t) := boundsOf cap
  { space := cap.space.toNat, obj := rangeObj cap.space.toNat cap.cursor.toNat, base := b, top := t }

-- The queues

/-- An operation put at the end of the context's queue. -/
def enqueue (kind : MemKind) (hold : Bool) (s : State) : State :=
  let id := s.nextId
  ({ s with nextId := id + 1 }).modCtx (fun c => { c with mq := c.mq ++ [({ id := id, kind := kind, hold := hold } : MemOp)] })

/-- An operation put at the end of the queue and counted in the tracker. -/
def enqueueTracked (kind : MemKind) (what : Counted) (r : Range) (s : State) : State :=
  let id := s.nextId
  ({ s with nextId := id + 1 }).modCtx (fun c => ({ c with mq := c.mq ++ [({ id := id, kind := kind } : MemOp)] }).record what id r)

/-- A lane of the scatter whose first lane has the number `op` put at the end of the queue and counted in the tracker (R279, R281). -/
def enqueueLane (op : Nat) (kind : MemKind) (r : Range) (s : State) : State :=
  let id := s.nextId
  ({ s with nextId := id + 1 }).modCtx (fun c => ({ c with mq := c.mq ++ [({ id := id, kind := kind, lane := some op } : MemOp)] }).record .store id r)

-- Lines that may not be written yet

/-- A copy command of a context that holds a physical line of its core until it retires (R314). -/
def Copy.holds (m : Copy) (k : BitVec 2) (line : Nat) : Bool :=
  m.k == k && m.op.holdsLines && m.lines.contains line

/-- A merge-unit command has still to read a line of a core (R463). -/
def State.mergeReadsLine (s : State) (g line : Nat) : Bool :=
  match tabGet s.merge (clusterOf g) with
  | some u => u.queue.any (fun m => m.g == g && m.reads.contains line)
  | none => false

/-- A scrub step of a core holds one of its lines (R196). -/
def Core.scrubs (c : Core) (now : Word) (line : Nat) : Bool :=
  match c.scrubHeld with
  | some (l, until_) => l == line && now.toNat < until_
  | none => false

/-- The waits and faults of a write by the context at hand to physical lines of its own core: a held line is an engine
wait, or COPY_FAULT when a holder has failed, the earliest of these (R314, R315); a line still to be read is a short stall (R52, R299). -/
def lineWriteWait (s : State) (lines : List Nat) : Option Trap × (State → State) × Option Hold :=
  let holders := s.cr.copies.filter (fun m => lines.any (fun l => m.holds s.cr.cur l))
  match holders.find? (fun m => m.hasFailed), holders with
  | some m, _ => (some m.fault, retireCopy m.id, none)
  | none, _ :: _ => (none, id, some .engine)
  | none, [] => (none, id, Hold.join (holdIf (lines.any (s.mergeReadsLine s.g)) .engine)
      (holdIf (s.cr.reads.any (fun r => lines.contains r.1 && s.cr.cyc < r.2)) .short))

/-- As above for a store to any core of the cluster: holds and reads of the lines' own core (R299, R314). -/
def storeWait (s : State) (a : MAddr) : Option Trap × (State → State) × Option Hold :=
  if a.space != .scratch then (none, id, none)
  else
    let line := a.off / 128
    if a.obj = s.g then lineWriteWait s [line]
    else
      let c := s.coreAt a.obj
      (none, id, Hold.join (holdIf (s.mergeReadsLine a.obj line) .engine) (holdIf (c.reads.any (fun r => r.1 == line && c.cyc < r.2)) .short))

/-- All four data spaces. -/
def allSpaces : List Space := [.scratch, .local, .pool, .host]

/-- A slot result built from an access: its faults after those of its registers, its waits and its effect. `ready` says
whether the registers it depends on are full; only then are the checks made (R29, R124); `reqs` requests it takes. DEDUCED: INTEGRITY of
a poisoned register comes before the checks of R124, and the line that a store writes is not compared by R26. -/
def accessRes (slot : Slot) (draw : Nat) (dests : List Dest) (regTraps : List (Option Trap)) (regHold : Option Hold) (ready : Bool)
    (acc : Access) (lw : Option Trap × (State → State) × Option Hold) (reqs : Nat) (effect : State → State) : SlotRes :=
  let own := firstTrap regTraps
  let accTrap := if ready then firstTrap acc.traps else none
  let trap := match own with
    | some t => some t
    | none => match accTrap with
      | some t => some t
      | none => if ready && acc.hold.isNone then lw.1 else none
  { slot := slot, draw := draw, dests := dests, trap := trap
    onTrap := if own.isSome then id else if accTrap.isSome then acc.onTrap else lw.2.1
    hold := joinHolds [regHold, if ready then acc.hold else none, if ready then lw.2.2 else none]
    requests := reqs
    onHold := if ready then acc.onHold else id
    effect := effect }

end Sys2Proof.Machine
end

