-- ==== Sys2Proof/Machine/Numbers.lean ====
section
/-! DEFINITION. The number formats and their rounding (R202 to R229). FP32 is the format of 24 significand bits and
BF16 that of 8; both have an 8-bit exponent, so one definition in the number of significand bits `p` serves both. -/

namespace Sys2Proof.Machine

/-- Flags as FSTAT holds them (R90). -/
abbrev Flags := BitVec 5

/-- The five flags. -/
def flagNV : Flags := 1
def flagDZ : Flags := 2
def flagOF : Flags := 4
def flagUF : Flags := 8
def flagNX : Flags := 16

/-- A value read from a format (R202): a NaN, an infinity, or (−1)^neg × m × 2^e. -/
inductive FVal where
  | nan (signalling : Bool)
  | inf (neg : Bool)
  | fin (neg : Bool) (m : Nat) (e : Int)
  deriving DecidableEq, Repr

/-- The value of a bit pattern (R202). -/
def decodeF (p : Nat) (bits : Nat) : FVal :=
  let frac := bits % 2 ^ (p - 1)
  let ex := bits / 2 ^ (p - 1) % 256
  let neg := bits / 2 ^ (p + 7) % 2 == 1
  if ex = 255 then (if frac = 0 then .inf neg else .nan (frac / 2 ^ (p - 2) == 0))
  else if ex = 0 then .fin neg frac (-125 - (p : Int))
  else .fin neg (2 ^ (p - 1) + frac) ((ex : Int) - 126 - p)

/-- `in_fp`: under FTZ a subnormal input reads as a zero of its sign (R205). -/
def flushIn (p : Nat) (ftz : Bool) (bits : Nat) : Nat :=
  if ftz && bits / 2 ^ (p - 1) % 256 == 0 && bits % 2 ^ (p - 1) != 0 then bits / 2 ^ (p + 7) % 2 * 2 ^ (p + 7) else bits

/-- The canonical NaN (R203). -/
def canonNaN (p : Nat) : Nat := 255 * 2 ^ (p - 1) + 2 ^ (p - 2)

/-- A pattern's sign bit. -/
def signBit (p : Nat) (neg : Bool) : Nat := if neg then 2 ^ (p + 7) else 0

/-- An infinity (R203). -/
def infBits (p : Nat) (neg : Bool) : Nat := signBit p neg + 255 * 2 ^ (p - 1)

/-- Rounding mode and FTZ as FPM holds them (R90). -/
def fpmRm (fpm : BitVec 3) : Nat := fpm.toNat % 4
def fpmFtz (fpm : BitVec 3) : Bool := fpm.getLsbD 2

/-- Whether a magnitude between two neighbours rounds up: `lo` is the lower neighbour's unit count, `twice` twice the
distance above it and `unit` the distance between them, with `sticky` for a further distance below one part (R206). -/
def roundsUp (rm : Nat) (neg : Bool) (lo twice unit : Nat) (sticky : Bool) : Bool :=
  if twice = 0 && !sticky then false
  else
    match rm with
    | 0 => unit < twice || (unit = twice && (sticky || lo % 2 == 1))
    | 1 => false
    | 2 => !neg
    | _ => neg

/-- `round_fmt` of (−1)^neg × m × 2^e, with `sticky` for a magnitude above it by less than one unit of m (R206). -/
def roundF (p rm : Nat) (ftz neg : Bool) (m : Nat) (e : Int) (sticky : Bool) : Nat × Flags :=
  if m = 0 && !sticky then (signBit p neg, 0)
  else
    let top : Int := max ((Nat.log2 m : Int) + e) (-126)
    let qe : Int := top - p + 1
    let up := (e - qe).toNat
    let down := (qe - e).toNat
    let n := m * 2 ^ up
    let lo := n / 2 ^ down
    let twice := n % 2 ^ down * 2
    let r := if roundsUp rm neg lo twice (2 ^ down) sticky then lo + 1 else lo
    let exact := twice == 0 && !sticky
    let mag := (qe + p + 125).toNat * 2 ^ (p - 1) + r
    if mag ≥ 255 * 2 ^ (p - 1) then
      let toInf := rm == 0 || (rm == 2 && !neg) || (rm == 3 && neg)
      ((if toInf then infBits p neg else signBit p neg + 255 * 2 ^ (p - 1) - 1), flagOF ||| flagNX)
    else if ftz && mag != 0 && mag < 2 ^ (p - 1) then (signBit p neg, flagUF ||| flagNX)
    else
      (signBit p neg + mag,
        (if exact then 0 else flagNX) ||| (if !exact && mag < 2 ^ (p - 1) then flagUF else 0))

/-- An exact result before its rounding: a NaN with its NV flag, an infinity, or an exact dyadic. -/
inductive FRes where
  | nan (nv : Bool)
  | inf (neg : Bool)
  | exact (neg : Bool) (m : Nat) (e : Int)
  deriving DecidableEq, Repr

/-- A result delivered in a format, with its flags (R204, R206). -/
def deliver (p rm : Nat) (ftz : Bool) : FRes → Nat × Flags
  | .nan nv => (canonNaN p, if nv then flagNV else 0)
  | .inf neg => (infBits p neg, 0)
  | .exact neg m e => roundF p rm ftz neg m e false

/-- The signed integer of a magnitude. -/
def signed (neg : Bool) (m : Nat) : Int := if neg then -(m : Int) else m

/-- The exact sum of two finite values; an exact zero takes the common sign of two zeros and otherwise the sign that
the rounding mode gives (R239). -/
def addFin (rm : Nat) (n1 : Bool) (m1 : Nat) (e1 : Int) (n2 : Bool) (m2 : Nat) (e2 : Int) : FRes :=
  let e := min e1 e2
  let v := signed n1 m1 * 2 ^ (e1 - e).toNat + signed n2 m2 * 2 ^ (e2 - e).toNat
  if v = 0 then
    if m1 = 0 && m2 = 0 && n1 == n2 then .exact n1 0 0 else .exact (rm == 3) 0 0
  else .exact (v < 0) v.natAbs e

/-- A signalling NaN input (R204). -/
def FVal.isSnan : FVal → Bool
  | .nan s => s
  | _ => false

/-- Any NaN input. -/
def FVal.isNan : FVal → Bool
  | .nan _ => true
  | _ => false

/-- The opposite value. -/
def FVal.negate : FVal → FVal
  | .nan s => .nan s
  | .inf n => .inf (!n)
  | .fin n m e => .fin (!n) m e

/-- a + b (R239, R240). -/
def addF (rm : Nat) (a b : FVal) : FRes :=
  if a.isNan || b.isNan then .nan (a.isSnan || b.isSnan)
  else
    match a, b with
    | .inf x, .inf y => if x == y then .inf x else .nan true
    | .inf x, _ => .inf x
    | _, .inf y => .inf y
    | .fin n1 m1 e1, .fin n2 m2 e2 => addFin rm n1 m1 e1 n2 m2 e2
    | _, _ => .nan false

/-- a × b (R239, R240). -/
def mulF (a b : FVal) : FRes :=
  if a.isNan || b.isNan then .nan (a.isSnan || b.isSnan)
  else
    match a, b with
    | .inf x, .inf y => .inf (xor x y)
    | .inf x, .fin y m _ => if m = 0 then .nan true else .inf (xor x y)
    | .fin x m _, .inf y => if m = 0 then .nan true else .inf (xor x y)
    | .fin n1 m1 e1, .fin n2 m2 e2 => .exact (xor n1 n2) (m1 * m2) (e1 + e2)
    | _, _ => .nan false

/-- An exact result as a value. -/
def FRes.val : FRes → FVal
  | .nan s => .nan s
  | .inf n => .inf n
  | .exact n m e => .fin n m e

/-- d + a × b with a single rounding (R241): NV for 0 × ∞ even beside a quiet NaN, for cancelling infinities and for
any signalling input. -/
def fmaF (rm : Nat) (d a b : FVal) : FRes :=
  match mulF a b with
  | .nan nv => .nan (nv || d.isSnan)
  | r => addF rm d r.val

/-- A two-input operation on patterns of a format under FPM (R239). -/
def arith2 (p : Nat) (fpm : BitVec 3) (f : Nat → FVal → FVal → FRes) (a b : Nat) : Nat × Flags :=
  let ftz := fpmFtz fpm
  let rm := fpmRm fpm
  deliver p rm ftz (f rm (decodeF p (flushIn p ftz a)) (decodeF p (flushIn p ftz b)))

/-- The fused form on patterns (R241); `neg` subtracts the product. -/
def arith3 (p : Nat) (fpm : BitVec 3) (neg : Bool) (d a b : Nat) : Nat × Flags :=
  let ftz := fpmFtz fpm
  let rm := fpmRm fpm
  let x := decodeF p (flushIn p ftz a)
  deliver p rm ftz (fmaF rm (decodeF p (flushIn p ftz d)) (if neg then x.negate else x) (decodeF p (flushIn p ftz b)))

/-- `add32`, `round_ne32` of a product, and `round_nebf16` of an FP32 value: nearest even, FPM ignored (R206, R301). -/
def add32 (a b : BitVec 32) : BitVec 32 := BitVec.ofNat 32 (arith2 24 0 addF a.toNat b.toNat).1
def mul32 (a b : BitVec 32) : BitVec 32 := BitVec.ofNat 32 (arith2 24 0 (fun _ => mulF) a.toNat b.toNat).1

/-- The exact result that a value stands for. -/
def FVal.res : FVal → FRes
  | .nan s => .nan s
  | .inf n => .inf n
  | .fin n m e => .exact n m e

/-- A pattern of one format converted to another under a rounding (R209). -/
def convertF (from_ into rm : Nat) (ftz : Bool) (a : Nat) : Nat × Flags :=
  deliver into rm ftz (decodeF from_ (flushIn from_ ftz a)).res

/-- Round an FP32 pattern to BF16, nearest even (R206). -/
def nebf16 (a : BitVec 32) : BitVec 16 := BitVec.ofNat 16 (convertF 24 8 0 false a.toNat).1

/-- The order of patterns that are no NaN, with −0 below +0 (R242). -/
def orderKey (p : Nat) (bits : Nat) : Int :=
  let mag : Int := (bits % 2 ^ (p + 7) : Nat)
  if bits / 2 ^ (p + 7) % 2 = 1 then -mag - 1 else mag

/-- The choice of VMAX and VMIN (R242). -/
def chooseF (p : Nat) (larger ftz : Bool) (a b : Nat) : Nat × Flags :=
  let a := flushIn p ftz a
  let b := flushIn p ftz b
  let x := decodeF p a
  let y := decodeF p b
  if x.isNan || y.isNan then (canonNaN p, if x.isSnan || y.isSnan then flagNV else 0)
  else if larger then (if orderKey p a < orderKey p b then b else a, 0)
  else (if orderKey p b < orderKey p a then b else a, 0)

/-- Exact comparison of values that are no NaN: a < b, with +0 = −0 (R247). -/
def ltF (a b : FVal) : Bool :=
  match a, b with
  | .inf x, .inf y => x && !y
  | .inf x, .fin .. => x
  | .fin .., .inf y => !y
  | .fin n1 m1 e1, .fin n2 m2 e2 =>
    let e := min e1 e2
    signed n1 m1 * 2 ^ (e1 - e).toNat < signed n2 m2 * 2 ^ (e2 - e).toNat
  | _, _ => false

/-- a = b, with +0 = −0 (R247). -/
def eqF (a b : FVal) : Bool := !a.isNan && !b.isNan && !ltF a b && !ltF b a

/-- An integer converted (R211). -/
def ofIntF (p rm : Nat) (ftz : Bool) (i : Int) : Nat × Flags := roundF p rm ftz (i < 0) i.natAbs 0 false

/-- The quotient `num / den` rounded to an integer under a mode, and whether it is exact. -/
def roundQuot (rm : Nat) (neg : Bool) (num den : Nat) : Nat × Bool :=
  let lo := num / den
  let rem := num % den
  (if roundsUp rm neg lo (rem * 2) den false then lo + 1 else lo, rem == 0)

/-- `to_int` (R212) of a value read from a format. -/
def toIntF (rm n : Nat) (x : FVal) : Int × Flags :=
  let hi : Int := 2 ^ (n - 1) - 1
  let lo : Int := -(2 ^ (n - 1))
  match x with
  | .nan _ => (0, flagNV)
  | .inf neg => (if neg then lo else hi, flagNV)
  | .fin neg m e =>
    let (q, exact) := roundQuot rm neg (m * 2 ^ e.toNat) (2 ^ (-e).toNat)
    let k := signed neg q
    if k > hi then (hi, flagNV) else if k < lo then (lo, flagNV) else (k, if exact then 0 else flagNX)

/-- Saturation to `n` bits (R210). -/
def satInt (n : Nat) (v : Int) : Int := min (max v (-(2 ^ (n - 1)))) (2 ^ (n - 1) - 1)

-- Block-scaled elements

/-- A BS8 scale (R219). -/
inductive Scale where
  | nan
  | inf
  | fin (m : Nat) (e : Int)
  deriving DecidableEq, Repr

/-- `decode_bs8` (R219). -/
def decodeBs8 (c : Nat) : Scale :=
  let ex := c / 4 % 64
  let f := c % 4
  if ex = 0 then .fin f (-32)
  else if ex = 63 then (if f = 0 then .inf else .nan)
  else .fin (4 + f) ((ex : Int) - 33)

/-- The low `n` bits as a two's-complement integer (R14). -/
def sextN (n v : Nat) : Int :=
  let w := v % 2 ^ n
  if w ≥ 2 ^ (n - 1) then (w : Int) - 2 ^ n else w

/-- `decode_mx` (R221). -/
def decodeMx (n k c : Nat) : FRes :=
  let i := sextN n k
  if i = -(2 ^ (n - 1)) then .nan false
  else
    match decodeBs8 c with
    | .nan => .nan false
    | .inf => if i = 0 then .nan true else .inf (i < 0)
    | .fin m e => .exact (i < 0) (i.natAbs * m) e

/-- `quant_mx` (R224) of a value read through `in_fp`: the code's integer and the flags. -/
def quantMx (n : Nat) (x : FVal) (c : Nat) : Int × Flags :=
  let bad : Int := -(2 ^ (n - 1))
  let m : Int := 2 ^ (n - 1) - 1
  let signM := fun (neg : Bool) => if neg then -m else m
  match decodeBs8 c with
  | .nan => (bad, 0)
  | .inf =>
    match x with
    | .nan _ => (bad, flagNV)
    | .inf _ => (bad, flagNV)
    | .fin _ v _ => (0, if v = 0 then 0 else flagNX)
  | .fin sm se =>
    match x with
    | .nan _ => (bad, flagNV)
    | .inf neg => (signM neg, flagNX)
    | .fin neg v e =>
      if sm = 0 then (0, if v = 0 then 0 else flagNX)
      else
        let d := e - se
        let (q, exact) := roundQuot 0 neg (v * 2 ^ d.toNat) (sm * 2 ^ (-d).toNat)
        if (q : Int) > m then (signM neg, flagNX) else (signed neg q, if exact then 0 else flagNX)

/-- The code of `n` bits of an integer, sign-extended to a byte (R214). -/
def codeByte (i : Int) : Nat := (i % 256).toNat

-- The wide format

/-- `wide_of` (R226): the value and the special bits of R227. -/
def wideOf (x : FVal) : Int × BitVec 32 :=
  match x with
  | .nan _ => (0, 4)
  | .inf neg => (0, if neg then 2 else 1)
  | .fin neg m e =>
    let d := e + 64
    let (q, exact) := roundQuot 0 neg (m * 2 ^ d.toNat) (2 ^ (-d).toNat)
    let v := signed neg q
    let b : BitVec 32 := if exact then 0 else 16
    if v > 2 ^ 127 - 1 then (2 ^ 127 - 1, b ||| 8)
    else if v < -(2 ^ 127) then (-(2 ^ 127), b ||| 8)
    else (v, b)

/-- `wide_round` (R229): the result in the format of `p` significand bits, and the word with OV and FNX. -/
def wideRound (p : Nat) (sum : Int) (word : BitVec 32) : Nat × BitVec 32 :=
  if word.getLsbD 2 || (word.getLsbD 0 && word.getLsbD 1) then (canonNaN p, word)
  else if word.getLsbD 0 then (infBits p false, word)
  else if word.getLsbD 1 then (infBits p true, word)
  else
    let word := if sum > 2 ^ 127 - 1 || sum < -(2 ^ 127) then word ||| 8 else word
    let sum := max (min sum (2 ^ 127 - 1)) (-(2 ^ 127))
    if sum = 0 then (0, word)
    else
      let (r, f) := roundF p 0 false (sum < 0) sum.natAbs (-64) false
      (r, if f &&& flagNX != 0 then word ||| 32 else word)

end Sys2Proof.Machine
end

