-- ==== Sys2Proof/Machine/MemSystem.lean ====
section
/-! DEFINITION. Homes, cluster caches, timestamps and the places where loads, stores and atomics take effect
(R355 to R393, R417 to R430). -/

namespace Sys2Proof.Machine

-- Timestamps

/-- a is before b in modular order (R419). -/
def tsLt (a b : BitVec 24) : Bool := let d := (b - a).toNat; 1 ≤ d && d ≤ 2 ^ 23 - 1

/-- a is b or before it (R419). -/
def tsLe (a b : BitVec 24) : Bool := a == b || tsLt a b

/-- The later of two (R419). -/
def tsMax (a b : BitVec 24) : BitVec 24 := if tsLt a b then b else a

/-- A copy with this rts serves a load at this LT (R421). -/
def timeValid (lt rts : BitVec 24) : Bool := tsLe lt rts && (rts - lt).toNat < 2 ^ 22

/-- LT advanced to a timestamp, then to the floor that the home time sets (R418). -/
def State.advanceLt (s : State) (ts : BitVec 24) : State :=
  let lt := tsMax s.lt ts
  let floor := s.ht - 2 ^ 21
  { s with lt := if tsLt lt floor then floor else lt }

/-- HT raised by a logical time received or issued (R417); one HT stands for every pool home (a DESIGN CHOICE of the log). -/
def State.raiseHt (s : State) (ts : BitVec 24) : State := { s with ht := tsMax s.ht ts }

/-- A request that carries a logical time and its response, whatever the answer: HT follows the request, and LT the floor of the
response's HT (R416 to R418). -/
def State.johel (s : State) (lt : BitVec 24) : State := (s.raiseHt lt).advanceLt s.lt

-- Contents of lines

/-- Bytes written into a line's value from an offset: data, the tags of the granules it touches, and the poison of the
granules it wholly overwrites (R173, R174). -/
def LineVal.write (v : LineVal) (off : Nat) (bytes : List (BitVec 8)) (tags : BitVec 8) : LineVal :=
  let mask := byteMask off bytes.length
  let touched := maskGranules mask
  let whole := BitVec.ofNat 8 ((List.range 8).foldl
    (fun acc g => if mask.toNat / 2 ^ (16 * g) % 65536 = 65535 then acc + 2 ^ g else acc) 0)
  { data := mergeBytes v.data (BitVec.ofNat 1024 (leNat bytes * 2 ^ (8 * off))) mask
    tags := (v.tags &&& ~~~touched) ||| (tags &&& touched)
    poison := v.poison &&& ~~~whole }

/-- `n` bytes of a line's value from an offset. -/
def LineVal.read (v : LineVal) (off n : Nat) : List (BitVec 8) := leBytes n (v.data.toNat / 2 ^ (8 * off))

/-- Whether any granule that bytes touch is poisoned. -/
def LineVal.poisoned (v : LineVal) (off n : Nat) : Bool := v.poison &&& maskGranules (byteMask off n) != 0

/-- A granule's tag. -/
def LineVal.tagAt (v : LineVal) (off : Nat) : Bool := v.tags.getLsbD (off % 128 / 16)

/-- The marks of a line's eight granules in a list of granule numbers. -/
def marksOf (l : List Nat) (first : Nat) : BitVec 8 :=
  BitVec.ofNat 8 ((List.range 8).foldl (fun acc g => if l.contains (first + g) then acc + 2 ^ g else acc) 0)

/-- A rising list of granule numbers with a line's eight marks replaced. -/
def setMarks (l : List Nat) (first : Nat) (m : BitVec 8) : List Nat :=
  l.filter (fun n => n < first) ++
    (((List.range 8).filter (fun g => m.getLsbD g)).map (fun g => first + g) ++ l.filter (fun n => first + 8 ≤ n))

/-- A line of HBM: `frame × 512 + line of the page` (R395). -/
def State.hbmLine (s : State) (fl : Nat) : LineVal :=
  { data := BitVec.ofNat 1024 (leNat (memRead s.hbm (fl * 128) 128))
    tags := marksOf s.hbmTags (fl * 8), poison := marksOf s.hbmPoison (fl * 8) }

/-- A line of HBM written. -/
def State.setHbmLine (s : State) (fl : Nat) (v : LineVal) : State :=
  { s with hbm := memWrite s.hbm (fl * 128) (leBytes 128 v.data.toNat)
           hbmTags := setMarks s.hbmTags (fl * 8) v.tags, hbmPoison := setMarks s.hbmPoison (fl * 8) v.poison }

/-- The key of a pool line: object and line (R417). -/
def poolKey (obj line : Nat) : Nat := obj * 2 ^ 33 + line

/-- A line at its pool home (R417). -/
def State.poolLine (s : State) (key : Nat) : LineVal :=
  let m := (tabGet s.poolLines key).getD {}
  { data := BitVec.ofNat 1024 (leNat (memRead s.pool (key * 128) 128)), tags := m.tags, poison := m.poison }

/-- A pool line's timestamps at its home, aged (R424): a line that no write or read has met has those of its creation, or of the home's
last visit. -/
def State.poolTs (s : State) (key : Nat) : BitVec 24 × BitVec 24 :=
  match tabGet s.poolLines key with
  | some m => if 2 ^ 22 ≤ (s.ht - m.rts).toNat then (s.ht - 2 ^ 22, s.ht - 2 ^ 22) else (m.wts, m.rts)
  | none => if s.homeOld || 2 ^ 22 ≤ s.ht.toNat then (s.ht - 2 ^ 22, s.ht - 2 ^ 22) else (0, 0)

/-- A line at its pool home replaced. -/
def State.setPoolLine (s : State) (key : Nat) (v : LineVal) (wts rts : BitVec 24) : State :=
  { s with pool := memWrite s.pool (key * 128) (leBytes 128 v.data.toNat)
           poolLines := tabSet s.poolLines key { wts := wts, rts := rts, tags := v.tags, poison := v.poison } }

/-- The leaf entry of a page (R398). -/
def State.leafOf (s : State) (obj page : Nat) : Leaf :=
  match tabGet s.objects obj with
  | some o => if o.deleted then {} else (tabGet o.leaves page).getD {}
  | none => {}

/-- A leaf entry replaced. -/
def State.modLeaf (s : State) (obj page : Nat) (f : Leaf → Leaf) : State :=
  match tabGet s.objects obj with
  | some o => { s with objects := tabSet s.objects obj { o with leaves := tabSet o.leaves page (f ((tabGet o.leaves page).getD {})) } }
  | none => s

/-- A page that a set tag is stored to records it (R398). -/
def State.noteTag (s : State) (obj page : Nat) (tags : BitVec 8) : State :=
  if tags = 0 then s else s.modLeaf obj page (fun l => { l with t := true })

/-- The HBM line of an address of an object. -/
def MAddr.hbmLine (a : MAddr) : Nat := a.frame * 512 + a.off % 65536 / 128

/-- The line of the object that an address lies in. -/
def MAddr.line (a : MAddr) : Nat := a.off / 128

-- Generations at the homes

/-- A request for an object carries a generation older than the one that its homes hold (R177). -/
def State.olderGen (s : State) (obj : Nat) (gen : BitVec 8) : Bool :=
  match tabGet s.objects obj with
  | some o => gen.ult o.homeGen
  | none => false

/-- The generation of an object as the package's own requests for it carry it (R177). -/
def State.headerGen (s : State) (obj : Nat) : BitVec 8 := match tabGet s.objects obj with | some o => o.gen | none => 0

/-- What a request of the package's own for an object carries when it is sent now (R416). -/
def State.sentNow (s : State) (obj : Nat) : LeaseSent := { now := s.tnow, lt := s.lt, gen := s.headerGen obj }

/-- What a request under a capability carries when it is sent now (R177, R416, R431). -/
def State.capSent (s : State) (c : Cap) : LeaseSent := { now := s.tnow, lt := s.lt, gen := c.gen }

/-- A request's generation is older than the one that its home holds (R177). -/
def State.oldAtHome (s : State) (a : MAddr) : Bool := s.olderGen a.obj a.gen

-- Remote-data caches and frames that cache pool pages

/-- Every remote-data cache drops a line (R357, R365). -/
def State.dropRdc (s : State) (obj line : Nat) : State :=
  { s with rdc := s.rdc.filter (fun r => !(r.obj == obj && r.line == line)) }

/-- The package holds a live page lease on a page, of either kind (R433). -/
def State.leasedPage (s : State) (obj page : Nat) : Bool :=
  s.leases.any (fun l => l.obj == obj && l.page ≤ page && page < l.page + l.count)

/-- A pool line's copy with this rts may serve a load (R377); under a page lease so may every copy that was valid at the grant or read since
(R426, R433): the others were dropped then. -/
def State.poolCopyValid (s : State) (obj line : Nat) (rts : BitVec 24) : Bool :=
  timeValid s.lt rts || s.leasedPage obj (line / 512)

/-- A write to this line of this space. -/
def WriteRec.onLine (w : WriteRec) (a : MAddr) : Bool := w.a.space == a.space && w.a.obj == a.obj && w.a.line == a.line

/-- Bytes of writes put over a line's value. -/
def LineVal.under (v : LineVal) (ws : List WriteRec) : LineVal := ws.foldl (fun v w => v.write (w.a.off % 128) w.bytes w.tags) v

/-- A pool line's value under the package's writes that its frame home has granted and that have still to reach the pool home: what the frame
holds (R365). -/
def State.underGranted (s : State) (a : MAddr) (v : LineVal) : LineVal := v.under (s.writes.filter (fun w => w.granted && w.onLine a))

/-- A line enters a die's remote-data cache of 262 144 lines; the longest held one leaves a full cache (R5, R357; which one is a DESIGN
CHOICE of the log). -/
def State.putRdc (s : State) (r : RLine) : State :=
  let rest := s.rdc.filter (fun q => !(q.die == r.die && q.obj == r.obj && q.line == r.line))
  let rest := if (rest.filter (fun q => q.die == r.die)).length < 262144 then rest
    else match rest.find? (fun q => q.die == r.die) with
      | some q => rest.erase q
      | none => rest
  { s with rdc := rest ++ [r] }

/-- A line read with lease at the pool home: rts is extended, the frame takes the data under the package's writes that are on their way to the
pool home, and LT follows wts (R421, R418, R365). -/
def State.renewLine (s : State) (a : MAddr) (llen : BitVec 12) : State :=
  let key := poolKey a.obj a.line
  let (wts, rts) := s.poolTs key
  let rts' := tsMax rts (tsMax s.lt wts + llen.setWidth 24)
  let v := s.poolLine key
  let held := s.underGranted a v
  let s := ((s.setPoolLine key v wts rts').setHbmLine a.hbmLine held).noteTag a.obj (a.line / 512) held.tags
  let s := { s with frameTs := tabSet s.frameTs a.hbmLine (wts, rts') }
  ((s.raiseHt s.lt).raiseHt rts').advanceLt wts

-- Cluster caches

/-- A line of a cluster's cache. -/
def Cluster.find (c : Cluster) (obj line : Nat) : Option CLine := c.cache.find? (fun l => l.obj == obj && l.line == line)

/-- A line of a cluster's cache changed. -/
def Cluster.modLine (c : Cluster) (obj line : Nat) (f : CLine → CLine) : Cluster :=
  { c with cache := c.cache.map (fun l => if l.obj == obj && l.line == line then f l else l) }

/-- A line dropped from a cluster's cache. -/
def Cluster.dropLine (c : Cluster) (obj line : Nat) : Cluster :=
  { c with cache := c.cache.filter (fun l => !(l.obj == obj && l.line == line)) }

/-- The current generation of a class (R374). -/
def Cluster.genOf (c : Cluster) : LineClass → BitVec 4
  | .own => c.gOwn
  | .other => c.gOther
  | .pool => c.gPool

/-- A line that a bump never makes stale (R375). -/
def CLine.exempt (l : CLine) : Bool := l.pin || l.unacked != 0

/-- Two lines share one of the 1024 sets (R355). -/
def sameSet (obj line : Nat) (l : CLine) : Bool := Config.cacheSet l.obj l.line % 1024 == Config.cacheSet obj line % 1024

/-- The lines of the set of a line. A cache of fewer than 16 lines has no full set. -/
def Cluster.setOf (c : Cluster) (obj line : Nat) : List CLine :=
  if c.cache.length < 16 then [] else c.cache.filter (sameSet obj line)

/-- Room for a line in its set of 16 ways: the longest held line that is neither pinned nor waiting for an acknowledgement is replaced
(R355; which line is replaced is a DESIGN CHOICE of the log). None where every way is taken by such lines. -/
def Cluster.makeRoom (c : Cluster) (obj line : Nat) : Option Cluster :=
  if (c.setOf obj line).length < 16 then some c
  else
    match (c.setOf obj line).find? (fun l => !l.exempt) with
    | some v => some { c with cache := c.cache.erase v }
    | none => none

/-- The number that stands for a requester outside every cluster, past the clusters' own 0 to 95: a copy engine, the command processor, a
collective engine, Onyx. -/
def noCluster : Nat := 96

/-- The line may serve an access of its cluster: pinned, or of the current generation or with writes not acknowledged,
and, for a pool line, in time (R375, R377). -/
def State.lineServes (s : State) (c : Cluster) (l : CLine) : Bool :=
  l.pin || ((l.exempt || l.gen == c.genOf l.cls) && (l.cls != .pool || (!l.expired && s.poolCopyValid l.obj l.line l.rts)))

/-- The line of an access in the cluster's cache, where it may serve it. -/
def State.cacheHit (s : State) (cl : Nat) (a : MAddr) : Option CLine :=
  match (s.clusterAt cl).find a.obj a.line with
  | some l => if s.lineServes (s.clusterAt cl) l then some l else none
  | none => none

/-- The class of a line for a cluster (R355). -/
def lineClass (cl : Nat) (a : MAddr) : LineClass :=
  if a.space = .pool then .pool else if frameDie a.frame = dieOfCluster cl then .own else .other

/-- A cluster other than `cl` that holds the line pinned (R386). -/
def State.pinnedElsewhere (s : State) (cl : Nat) (a : MAddr) : Option Nat :=
  (s.clusters.find? (fun e => e.1 != cl && e.2.cache.any (fun l => l.pin && l.obj == a.obj && l.line == a.line))).map Prod.fst

/-- Writes of a cluster to a line that its home has not granted, in the order in which they were applied. -/
def State.ungranted (s : State) (cl : Nat) (a : MAddr) : List WriteRec :=
  s.writes.filter (fun w => w.counted && !w.granted && w.cluster == cl && w.onLine a)

/-- A copy in a die's remote-data cache that a cluster may be given: not one that a granted write of the same cluster has still to drop. -/
def State.rdcCopy (s : State) (cl : Nat) (a : MAddr) : Option RLine :=
  let die := dieOfCluster cl
  if s.writes.any (fun w => w.granted && w.cluster == cl && w.drops.contains die && w.onLine a) then none
  else s.rdc.find? (fun r => r.die == die && r.obj == a.obj && r.line == a.line)

/-- A line as it reaches a cluster: its contents, its rts, and whether it came through the die's remote-data cache. A local line comes from
its own die's home, or from the remote-data cache or else the home of another die (R356, R357); a home refuses an old generation (R177). A
pool line comes from the remote-data cache or the frame while its copy is in time, else it is renewed at the pool home; LT follows a wts ahead
of it (R374, R377). No request waits for an acknowledgement (R365). -/
def State.obtainLine (s : State) (cl : Nat) (a : MAddr) (llen : BitVec 12) : Option (State × LineVal × BitVec 24 × Bool) :=
  if a.space = .pool then
    let inFrame :=
      match tabGet s.frameTs a.hbmLine with
      | some (wts, rts) => if s.poolCopyValid a.obj a.line rts then some (s.advanceLt wts, s.hbmLine a.hbmLine, rts, true) else none
      | none => none
    let renewed := fun (_ : Unit) =>
      let t := s.renewLine a llen
      (t, t.hbmLine a.hbmLine, ((tabGet t.frameTs a.hbmLine).getD (0, 0)).2, true)
    match s.rdcCopy cl a, inFrame with
    | some r, f => some (if s.poolCopyValid a.obj a.line r.rts then (s, r.val, r.rts, true) else f.getD (renewed ()))
    | none, some f => some f
    | none, none => some (renewed ())
  else if frameDie a.frame = dieOfCluster cl then (if s.oldAtHome a then none else some (s, s.hbmLine a.hbmLine, 0, false))
  else
    match s.rdcCopy cl a with
    | some r => some (s, r.val, 0, true)
    | none => if s.oldAtHome a then none else some (s, s.hbmLine a.hbmLine, 0, true)

/-- A line brought into a cluster's cache, under the cluster's own writes to it that are not granted yet: none where it cannot be obtained
now or its set has no room (R355 to R357, R377). -/
def State.fillLine (s : State) (cl : Nat) (a : MAddr) (llen : BitVec 12) : Option State :=
  match s.obtainLine cl a llen, ((s.clusterAt cl).dropLine a.obj a.line).makeRoom a.obj a.line with
  | some (t, v, rts, remote), some c =>
    let cls := lineClass cl a
    let n : CLine := { obj := a.obj, line := a.line, val := v.under (s.ungranted cl a), cls := cls, gen := c.genOf cls, rts := rts, frame := a.frame
                       unacked := (s.writes.filter (fun w => w.counted && w.cluster == cl && w.onLine a)).length }
    let t := t.modCluster cl (fun _ => { c with cache := c.cache ++ [n] })
    some (if remote then t.putRdc { die := dieOfCluster cl, obj := a.obj, line := a.line, val := v, pool := a.space == .pool, rts := rts } else t)
  | _, _ => none

/-- A write made at the L2 home of a frame: the frame's line; copies in remote-data caches stand until they are dropped (R365). -/
def State.grantWrite (s : State) (a : MAddr) (bytes : List (BitVec 8)) (tags : BitVec 8) : State :=
  (s.setHbmLine a.hbmLine ((s.hbmLine a.hbmLine).write (a.off % 128) bytes tags)).noteTag a.obj (a.off / 65536) tags

/-- The dies whose remote-data caches hold a line (R365). -/
def State.rdcDies (s : State) (obj line : Nat) : List Nat := (s.rdc.filter (fun r => r.obj == obj && r.line == line)).map RLine.die

/-- A write made at the L2 home of a frame with every drop collected (R365). -/
def State.writeHome (s : State) (a : MAddr) (bytes : List (BitVec 8)) (tags : BitVec 8) : State :=
  (s.grantWrite a bytes tags).dropRdc a.obj a.line

/-- The token that the frame home attaches to a tenant's write (R429). -/
def State.tokenFor (s : State) (tenant : BitVec 4) (obj page : Nat) : BitVec 64 :=
  match s.leases.find? (fun l => l.write && l.tenant == tenant && l.obj == obj && l.page ≤ page && page < l.page + l.count) with
  | some l => l.token
  | none => 0

/-- The token of a page at its home, 0 when the page is created (R428). -/
def State.pageToken (s : State) (obj page : Nat) : BitVec 64 := (tabGet s.pageTokens (obj * 2 ^ 24 + page)).getD 0

/-- Why a pool home refuses a write or an atomic, if it does: the generation before the token (R177, R429). -/
def State.homeRefusal (s : State) (obj page : Nat) (gen : BitVec 8) (token : BitVec 64) : Option Code :=
  if s.olderGen obj gen then some .capStale
  else
    let tp := s.pageToken obj page
    if token = 0 && tp = 0 then none
    else if token = tp && s.homeLeases.any (fun l => l.write && l.token == token && s.tnow.toNat < l.until_ && l.obj == obj && l.page ≤ page && page < l.page + l.count)
    then none
    else some .fenced

/-- Why a write that is under way is refused at a home, if it is: a local line's at its L2 home under an old generation (R177), a pool
line's, or that of the MAC and the minor counter which go with it, at its pool home (R429, R474). -/
def State.writeRefusal (s : State) (w : WriteRec) : Option Code :=
  match w.a.space with
  | .local => if !w.granted && s.oldAtHome w.a then some .capStale else none
  | .pool =>
    if !w.homeAcked then none
    else
      let side := fun (off : Nat) => s.homeRefusal w.a.obj (off / 65536) w.a.gen (s.tokenFor w.tenant w.a.obj (off / 65536))
      (s.homeRefusal w.a.obj (w.a.off / 65536) w.a.gen w.token).or
        (match w.macs with | some (moff, _, noff, _) => (side moff).or (side noff) | none => none)
  | _ => none

/-- A pool line's value at its home replaced by a write or an atomic of a package whose LT was `lt` at its sending: its wts follows every
granted rts (R422), and LT follows when the acknowledgement returns (R418). The copies on the package take the line with the new rts, under
the package's writes to it that have still to reach the pool home. -/
def State.landPool (s : State) (lt : BitVec 24) (a : MAddr) (v : LineVal) : State :=
  let key := poolKey a.obj a.line
  let wts := tsMax lt ((s.poolTs key).2 + 1)
  let s := s.setPoolLine key v wts wts
  let held := s.underGranted a v
  let l := s.leafOf a.obj (a.off / 65536)
  let there := (l.state == .resident || l.state == .moving) && l.frame == a.frame
  let s := if there then (s.setHbmLine a.hbmLine held).noteTag a.obj (a.off / 65536) held.tags else s
  let s : State := { s with
    frameTs := if there then tabSet s.frameTs a.hbmLine (wts, wts) else s.frameTs
    rdc := s.rdc.map (fun r => if r.obj == a.obj && r.line == a.line then { r with val := held, rts := wts } else r)
    clusters := s.clusters.map (fun e => (e.1, e.2.modLine a.obj a.line (fun l =>
      { l with val := held.under (s.ungranted e.1 a), rts := wts, expired := false }))) }
  ((s.raiseHt lt).raiseHt wts).advanceLt wts

/-- A write-through applied at the pool home (R422). -/
def State.writePool (s : State) (lt : BitVec 24) (a : MAddr) (bytes : List (BitVec 8)) (tags : BitVec 8) : State :=
  s.landPool lt a ((s.poolLine (poolKey a.obj a.line)).write (a.off % 128) bytes tags)

/-- The address of an object's byte as the part's own engines reach it: through the leaf of its page. -/
def State.homeAddr (s : State) (pool : Bool) (obj off : Nat) : MAddr :=
  { space := if pool then .pool else .local, obj := obj, off := off, frame := (s.leafOf obj (off / 65536)).frame }

/-- The page of an object's byte is held in a frame. -/
def State.inFrame (s : State) (obj off : Nat) : Bool :=
  match (s.leafOf obj (off / 65536)).state with
  | .resident | .moving => true
  | _ => false

/-- `n` bytes of an object at its home: the pool home, or the frames of a local object; a page that no frame holds reads as zero. -/
def State.homeRead (s : State) (pool : Bool) (obj off n : Nat) : List (BitVec 8) :=
  if pool then memRead s.pool (obj * 2 ^ 40 + off) n
  else (List.range n).map (fun i =>
    if s.inFrame obj (off + i) then memByte s.hbm ((s.leafOf obj ((off + i) / 65536)).frame * 65536 + (off + i) % 65536) else 0)

/-- Bytes of one line written at their homes by the part's own engines (R365, R422). -/
def State.homeWrite (s : State) (pool : Bool) (obj off : Nat) (bytes : List (BitVec 8)) : State :=
  let a := s.homeAddr pool obj off
  let held := s.inFrame obj off
  let s := if held then s.writeHome a bytes 0 else s
  if !pool then s
  else if held then s.writePool s.lt a bytes 0
  else
    let key := poolKey obj (off / 128)
    let wts := tsMax s.lt ((s.poolTs key).2 + 1)
    let s := s.setPoolLine key ((s.poolLine key).write (off % 128) bytes 0) wts wts
    ((s.raiseHt s.lt).raiseHt wts).advanceLt wts

/-- Why the pool home refuses a write that Onyx makes for a tenant, if it does (R429). -/
def State.engineRefusal (s : State) (tenant : BitVec 4) (obj off : Nat) : Option Code :=
  s.homeRefusal obj (off / 65536) ((tabGet s.objects obj).map ObjMap.gen |>.getD 0) (s.tokenFor tenant obj (off / 65536))

/-- A request for a line that another cluster holds pinned receives RETRY, and the pin's timer starts (R386). -/
def State.noteRetry (s : State) (cl : Nat) (a : MAddr) : Option State :=
  match s.pinnedElsewhere cl a with
  | none => none
  | some o =>
    match (s.clusterAt o).find a.obj a.line with
    | some l =>
      if l.retrySince.isSome then none
      else some (s.modCluster o (fun c => c.modLine a.obj a.line (fun l => { l with retrySince := some s.tnow })))
    | none => none

/-- A cluster holds a pinned line among lines [lo, hi) of an object. -/
def State.pinnedLines (s : State) (obj lo hi : Nat) : Bool :=
  s.clusters.any (fun e => e.2.cache.any (fun l => l.pin && l.obj == obj && lo ≤ l.line && l.line < hi))

/-- The pinned lines among lines [lo, hi) of an object answer RETRY to a request of the part's own, and the timers of their pins start
(R386); none where every timer runs. -/
def State.retryLines (s : State) (obj lo hi : Nat) : Option State :=
  let asked := fun (l : CLine) => l.pin && l.obj == obj && lo ≤ l.line && l.line < hi && l.retrySince.isNone
  if !s.clusters.any (fun e => e.2.cache.any asked) then none
  else some { s with clusters := s.clusters.map (fun e =>
    (e.1, { e.2 with cache := e.2.cache.map (fun l => if asked l then { l with retrySince := some s.tnow } else l) })) }

/-- A cluster holds a pinned line in a range of an object's pages, and the requests for them (R386). -/
def State.pinnedIn (s : State) (obj page count : Nat) : Bool := s.pinnedLines obj (page * 512) ((page + count) * 512)
def State.retryPins (s : State) (obj page count : Nat) : Option State := s.retryLines obj (page * 512) ((page + count) * 512)

/-- Every copy of a line on the package dropped (R430). -/
def State.dropCopies (s : State) (a : MAddr) : State :=
  { s with clusters := s.clusters.map (fun e => (e.1, e.2.dropLine a.obj a.line))
           rdc := s.rdc.filter (fun r => !(r.obj == a.obj && r.line == a.line))
           frameTs := tabErase s.frameTs a.hbmLine }

-- Translation entries

/-- The D and A bits gathered for a page ORed into the map (R411). -/
def State.orLeaf (s : State) (obj page : Nat) (d a : Bool) : State :=
  if !d && !a then s else s.modLeaf obj page (fun l => { l with d := l.d || d, a := l.a || a })

/-- Two pages share one of the 256 sets of a TLB (R399). -/
def sameTlbSet (a b : TlbEntry) : Bool := Config.tlbSet a.space.num a.obj a.page % 256 == Config.tlbSet b.space.num b.obj b.page % 256

/-- A translation put into a cluster's TLB of 256 sets of 16 ways, in the order of their use; what the least recently used entry of a full set
has gathered is flushed as it leaves, and a refilled entry keeps what it has gathered (R399, R411). -/
def State.fillTlb (s : State) (cl : Nat) (e : TlbEntry) : State :=
  let tlb := (s.clusterAt cl).tlb
  let e := match tlb.find? (fun x => x.holds e.space e.obj e.page) with | some o => { e with d := o.d, a := o.a } | none => e
  let rest := tlb.filter (fun x => !x.holds e.space e.obj e.page)
  let set := if rest.length < 16 then [] else rest.filter (sameTlbSet e)
  match (if set.length < 16 then none else set.getLast?) with
  | none => s.modCluster cl (fun c => { c with tlb := e :: rest })
  | some v => (s.orLeaf v.obj v.page v.d v.a).modCluster cl (fun c => { c with tlb := e :: rest.erase v })

-- Applying accesses

/-- Bytes stored to a scratchpad line, with the granule tags it sets; FULL and OWNER stay (R127, R128, R194). -/
def State.storeScratch (s : State) (g byte : Nat) (bytes : List (BitVec 8)) (tags : BitVec 8) : State :=
  let key := lineKey g (byte / 128)
  let off := byte % 128
  let mask := byteMask off bytes.length
  let s := s.writeLine key (BitVec.ofNat 1024 (leNat bytes * 2 ^ (8 * off))) mask .plain
  if tags = 0 then s
  else
    let m := s.metaAt key
    s.setMeta key { m with tag := m.tag ||| (tags &&& maskGranules mask) }

/-- A scratchpad line lets an access that arrives go on: it is full at the byte, and no scrub step holds it (R128, R196). -/
def fullAt (s : State) (g byte : Nat) : Bool := (s.metaAt (lineKey g (byte / 128))).full && !(s.coreAt g).scrubs s.tnow (byte / 128)

-- Arrival objects

/-- An arrival object's fields (R348). -/
def arrPh (o : BitVec 128) : BitVec 4 := o.setWidth 4
def arrExp (o : BitVec 128) : Nat := bitsOf o.toNat 19 8
def arrCnt (o : BitVec 128) : Nat := bitsOf o.toNat 31 20
def arrPb (o : BitVec 128) : Int := sextN 40 (bitsOf o.toNat 71 32)
def arrReserved (o : BitVec 128) : Bool := bitsOf o.toNat 7 6 != 0 || bitsOf o.toNat 127 72 != 0

/-- A field of a 128-bit object replaced. -/
def putField (o : BitVec 128) (h l v : Nat) : BitVec 128 :=
  BitVec.ofNat 128 (o.toNat - bitsOf o.toNat h l * 2 ^ l + v % 2 ^ (h + 1 - l) * 2 ^ l)

/-- The phase completes when CNT = EXP, PB = 0 and EXP is not 0 (R350). -/
def completePhase (o : BitVec 128) : BitVec 128 :=
  if arrExp o != 0 && arrCnt o == arrExp o && arrPb o == 0 then
    putField (putField o 3 0 ((arrPh o).toNat + 1)) 31 20 0
  else o

/-- AINIT's object (R351). -/
def ainitObject (n : BitVec 12) : BitVec 128 := BitVec.ofNat 128 (n.toNat * 256)

/-- ARRIVE's update: the object and whether it was refused (R352). -/
def arriveObject (o : BitVec 128) (n : Nat) (b : Int) : BitVec 128 × Bool :=
  let pb := arrPb o + b
  if arrExp o = 0 || arrReserved o || arrExp o < arrCnt o + n || pb < -(2 ^ 39) || pb ≥ 2 ^ 39 then
    (putField o 4 4 1, true)
  else
    (completePhase (putField (putField o 31 20 (arrCnt o + n)) 71 32 (pb % 2 ^ 40).toNat), false)

/-- A subtraction of landed bytes, with ER where the copy failed or was cancelled, or the object is not sound (R334,
R349). -/
def subtractObject (o : BitVec 128) (bytes : Nat) (er : Bool) : BitVec 128 :=
  let bad := er || arrExp o == 0 || arrReserved o
  let o := putField o 71 32 ((arrPb o - bytes) % 2 ^ 40).toNat
  completePhase (if bad then putField o 5 5 1 else o)

/-- An arrival object as its 128 bits. -/
def State.object (s : State) (r : ArrRef) : BitVec 128 := BitVec.ofNat 128 (leNat (s.scratchRead r.g r.byte 16))

/-- An arrival object written. -/
def State.setObject (s : State) (r : ArrRef) (o : BitVec 128) : State := s.storeScratch r.g r.byte (leBytes 16 o.toNat) 0

/-- The line of an object takes updates: plain (R349). -/
def State.objectPlain (s : State) (r : ArrRef) : Bool := formAt s r.g r.byte == .plain

/-- A discarded update is logged in the health log of its die (R349), as a context error of the scratchpad. -/
def State.logDiscard (s : State) (r : ArrRef) : State := s.logHealth (r.g / 192) 1 0 r.g r.byte

/-- A copy's subtraction at an object whose line is full (R334, R349); none while its line is empty. -/
def State.subtract (s : State) (r : ArrRef) (bytes : Nat) (er : Bool) : Option State :=
  if !fullAt s r.g r.byte then none
  else if !s.objectPlain r then some (s.logDiscard r)
  else some (s.setObject r (subtractObject (s.object r) bytes er))

/-- An update of an arrival object kept until its line is full (R349), with the record that its reduction posts after it (R534). -/
def State.addUpdate (s : State) (ref : ArrRef) (bytes : Nat) (er arrive : Bool) (rec_ : Option (BitVec 4 × Record) := none) : State :=
  { s with nextId := s.nextId + 1
           updates := s.updates ++ [{ id := s.nextId, ref := ref, bytes := bytes, er := er, arrive := arrive, rec_ := rec_ }] }

/-- A copy's subtraction: at once where the object's line is full, else kept until it is (R334, R349). -/
def State.subtractLater (s : State) (ref : ArrRef) (bytes : Nat) (er : Bool) : State :=
  match s.subtract ref bytes er with
  | some s => s
  | none => s.addUpdate ref bytes er false

-- Acknowledgements

/-- A command of the core's buffer. -/
def Core.copy (c : Core) (id : Nat) : Option Copy := c.copies.find? (fun m => m.id == id)

/-- A command of any core's buffer changed. -/
def State.modCopyOf (s : State) (g id : Nat) (f : Copy → Copy) : State :=
  let c := s.coreAt g
  s.setCoreAt g { c with copies := c.copies.map (fun m => if m.id == id then f m else m) }

/-- A command of the core at hand changed. -/
def State.modCopy (s : State) (id : Nat) (f : Copy → Copy) : State :=
  { s with cr := { s.cr with copies := s.cr.copies.map (fun m => if m.id == id then f m else m) } }

/-- The MAC and minor counter of a sealed line written with it (R474). -/
def writeSeal (w : WriteRec) (s : State) : State :=
  match w.macs with
  | none => s
  | some (moff, mac, noff, minor) =>
    let pool := w.a.space == .pool
    (s.homeWrite pool w.a.obj moff (leBytes 8 mac.toNat)).homeWrite pool w.a.obj noff [minor]

/-- An acknowledged request of a command counts its bytes where the command counts as it goes (R334). -/
def countAck (g cid id bytes : Nat) (s : State) : State :=
  match (s.coreAt g).copy cid with
  | none => s
  | some m =>
    if m.hasFailed then s
    else
    let s := s.modCopyOf g cid (fun m => { m with acks := m.acks.filter (fun a => a.1 != id)
                                                  bytesLeft := if m.rel then m.bytesLeft else m.bytesLeft - bytes })
    match m.ref with
    | some r => if m.rel then s else s.subtractLater r bytes false
    | none => s

/-- A write leaves the list of writes: its line has one write less to be acknowledged. -/
def State.dropWrite (s : State) (w : WriteRec) : State :=
  let s := { s with writes := s.writes.filter (fun v => v.id != w.id) }
  if w.counted then s.modCluster w.cluster (fun c => c.modLine w.a.obj w.a.line (fun l => { l with unacked := l.unacked - 1 })) else s

/-- A write is acknowledged everywhere (R365): a copy counts its bytes, and no tracker entry counts another's write any more (R334, R368). -/
def State.finishWrite (s : State) (w : WriteRec) : State :=
  let s := s.dropWrite w
  match w.copy with
  | some cid => countAck w.g cid w.id w.bytes.length (writeSeal w s)
  | none => s.mapCtxs (fun c => c.retireAccess w.id)

/-- A pin ends: the pinned line is written to its home and unpinned, and the writes it covered have reached the home (R385, R386). -/
def State.endPin (s : State) (cl : Nat) (l : CLine) : State :=
  let a : MAddr := { space := .local, obj := l.obj, off := l.line * 128, frame := l.frame }
  let s := ((s.setHbmLine a.hbmLine l.val).noteTag l.obj (l.line / 512) l.val.tags).dropRdc l.obj l.line
  let s := s.modCluster cl (fun c => c.modLine l.obj l.line (fun l => { l with pin := false, retrySince := none }))
  (s.writes.filter (fun w => w.cluster == cl && w.onLine a)).foldl State.finishWrite s

/-- Every pin of a cluster ends (R386). -/
def State.endPins (s : State) (cl : Nat) : State :=
  ((s.clusterAt cl).cache.filter CLine.pin).foldl (fun s l => s.endPin cl l) s

-- Loads and stores at their places

/-- The bytes, tag and poison that a load finds. -/
structure Found where
  bytes : List (BitVec 8)
  tag : Bool := false
  poison : Bool := false

/-- What a load of `n` bytes finds at an address (R126, R169): the scratchpad line, the cluster's copy, or the host. -/
def State.loadFrom (s : State) (a : MAddr) (n : Nat) : Found :=
  match a.space with
  | .scratch =>
    let m := s.metaAt (lineKey a.obj (a.off / 128))
    { bytes := s.scratchRead a.obj a.off n, tag := m.tag.getLsbD (a.off % 128 / 16), poison := m.form == .poison }
  | .host => { bytes := memRead s.host a.off n }
  | _ =>
    match (s.clusterAt (clusterOf s.g)).find a.obj a.line with
    | some l => { bytes := l.val.read (a.off % 128) n, tag := l.val.tagAt a.off, poison := l.val.poisoned (a.off % 128) n }
    | none => { bytes := List.replicate n 0 }

/-- A context's load delivered to its register (R126, R130, R169, R171). -/
def Ctx.deliverLoad (c : Ctx) (dst : LoadDst) (n : Nat) (f : Found) : Ctx :=
  match dst with
  | .x r signed =>
    if f.poison then c.poisonX r
    else c.setX r (if signed then BitVec.ofInt 64 (sextN (8 * n) (leNat f.bytes)) else BitVec.ofNat 64 (leNat f.bytes))
  | .cap r ldcap =>
    if f.poison then c.poisonC r
    else
      let bits := BitVec.ofNat 128 (leNat f.bytes)
      c.setC r { tag := f.tag && ldcap && !untaggable bits, bits := bits }

/-- A store applied at the point of CORE scope (R361): the scratchpad line, the cluster's copy, or the host's memory as
it is sent. A scratchpad store is thereby acknowledged (R359); another waits in the list of writes. -/
def State.applyStore (s : State) (k : BitVec 2) (id : Nat) (a : MAddr) (bytes : List (BitVec 8)) (tags : BitVec 8) : State :=
  match a.space with
  | .scratch => (s.storeScratch a.obj a.off bytes tags).modCtxAt k (fun c => c.retireAccess id)
  | .host =>
    { s with host := memWrite s.host a.off bytes
             writes := s.writes ++ [{ id := id, g := s.g, k := k, cluster := clusterOf s.g, a := a, bytes := bytes
                                      tenant := (s.ctxAt k).sys.tenant }] }
  | _ =>
    let cl := clusterOf s.g
    let s := s.modCluster cl (fun c => c.modLine a.obj a.line (fun l =>
      { l with val := l.val.write (a.off % 128) bytes tags, unacked := l.unacked + 1 }))
    { s with writes := s.writes ++ [{ id := id, g := s.g, k := k, cluster := cl, a := a, bytes := bytes, tags := tags
                                      tenant := (s.ctxAt k).sys.tenant }] }

-- Atomics

/-- The size of an atomic (R382). -/
def AtomOp.size : AtomOp → Nat
  | .aaddI32 => 4 | .afaddF32 => 4 | .acas2 => 16 | _ => 8

/-- The new memory value of an atomic from the old one, xd before the bundle and xs (R387). -/
def AtomOp.newValue (op : AtomOp) (m xd xs : BitVec 128) : BitVec 128 :=
  let a : Word := m.setWidth 64
  let b : Word := xs.setWidth 64
  let pick := fun (t : Bool) => (if t then b else a).setWidth 128
  match op with
  | .aaddI32 => ((m.setWidth 32 + xs.setWidth 32 : BitVec 32)).setWidth 128
  | .aaddI64 => (a + b).setWidth 128
  | .aminI64 => pick (b.slt a)
  | .amaxI64 => pick (a.slt b)
  | .aminnN64 => pick (b.ult a)
  | .amaxnN64 => pick (a.ult b)
  | .aand => (a &&& b).setWidth 128
  | .aor => (a ||| b).setWidth 128
  | .axor => (a ^^^ b).setWidth 128
  | .axchg => b.setWidth 128
  | .acas => pick (a == xd.setWidth 64)
  | .acas2 => if m = xd then xs else m
  | .afaddF32 => (add32 (m.setWidth 32) (xs.setWidth 32)).setWidth 128

/-- The value an atomic returns in xd, and in xd + 1 for ACAS2 (R387). -/
def Ctx.deliverAtomic (c : Ctx) (op : AtomOp) (xd : BitVec 6) (old : BitVec 128) : Ctx :=
  match op with
  | .aaddI32 => c.setX xd ((old.setWidth 32).signExtend 64)
  | .afaddF32 => c.setX xd ((old.setWidth 32).setWidth 64)
  | .acas2 => (c.setX xd (old.setWidth 64)).setX (xd + 1) ((old >>> 64).setWidth 64)
  | _ => c.setX xd (old.setWidth 64)

/-- A failed atomic's registers: all ones and full (R390). -/
def Ctx.failAtomic (c : Ctx) (op : AtomOp) (xd : BitVec 6) : Ctx :=
  let c := c.setX xd (BitVec.allOnes 64)
  if op = .acas2 then c.setX (xd + 1) (BitVec.allOnes 64) else c

/-- An atomic that met poison: memory unchanged, xd marked (R390). -/
def Ctx.poisonAtomic (c : Ctx) (op : AtomOp) (xd : BitVec 6) : Ctx :=
  let c := c.poisonX xd
  if op = .acas2 then c.poisonX (xd + 1) else c

/-- A line's value with an atomic performed on it, and the old value. -/
def LineVal.atomic (v : LineVal) (op : AtomOp) (off : Nat) (xd xs : BitVec 128) : LineVal × BitVec 128 :=
  let n := op.size
  let old := BitVec.ofNat 128 (leNat (v.read off n))
  (v.write off (leBytes n (op.newValue old xd xs).toNat) 0, old)

/-- Where an atomic executes (R384). -/
inductive AtomPlace where
  | line | pinned | home | poolHome | host
  deriving DecidableEq, Repr

/-- A pin is available for a line of a cluster: it holds fewer than 64, and fewer than 8 in the set (R385). -/
def Cluster.mayPin (c : Cluster) (obj line : Nat) : Bool :=
  let pins := c.cache.filter CLine.pin
  pins.length < 8 || (pins.length < 64 && (pins.filter (sameSet obj line)).length < 8)

/-- The place of an atomic (R384, R385). -/
def State.atomPlace (s : State) (a : MAddr) (scope : BitVec 3) : AtomPlace :=
  match a.space with
  | .scratch => .line
  | .host => .host
  | .pool => .poolHome
  | .local =>
    if scope.toNat ≤ 1 then
      let c := s.clusterAt (clusterOf s.g)
      if c.cache.any (fun l => l.pin && l.obj == a.obj && l.line == a.line) || c.mayPin a.obj a.line then .pinned else .home
    else .home

-- Order within a context

/-- The granules of an address: space, object and the first and last granule (R362). -/
def sameGranule (a : MAddr) (n : Nat) (b : MAddr) (m : Nat) : Bool :=
  a.space == b.space && a.obj == b.obj && a.off / 16 ≤ (b.off + m - 1) / 16 && b.off / 16 ≤ (a.off + n - 1) / 16

/-- The addresses an operation reads or writes, with sizes. -/
def MemKind.spots : MemKind → List (MAddr × Nat)
  | .load a n _ => [(a, n)]
  | .store a bs _ => [(a, bs.length)]
  | .gather _ a es _ => [(a, es)]
  | .atomic op a .. => [(a, op.size)]
  | _ => []

/-- Operations that bind, and operations that are applied (R361). -/
def MemKind.binds : MemKind → Bool
  | .load .. => true
  | .gather .. => true
  | .atomic .. => true
  | _ => false
def MemKind.applies : MemKind → Bool
  | .store .. => true
  | .atomic .. => true
  | _ => false

/-- The marks of order: LSYNC, releases, LREL among them with its lease release (R438), and acquires. -/
def MemKind.isLsync : MemKind → Bool
  | .lsync => true
  | _ => false
def MemKind.isRelease : MemKind → Bool
  | .release .. => true
  | .lease 2 .. => true
  | _ => false
def MemKind.isAcquire : MemKind → Bool
  | .acquire .. => true
  | .hwin .. => true
  | _ => false

/-- Two operations touch a common granule (R362). -/
def MemKind.meets (a b : MemKind) : Bool := a.spots.any (fun p => b.spots.any (fun q => sameGranule p.1 p.2 q.1 q.2))

/-- The operations before one in its queue. -/
def before (id : Nat) : List MemOp → List MemOp
  | [] => []
  | o :: rest => if o.id = id then [] else o :: before id rest

/-- An AINIT of an object's bytes, behind which a later atomic on them waits (R351). -/
def MemKind.initsFor (o k : MemKind) : Bool :=
  match o, k with
  | .ainit r _, .atomic op a .. => sameGranule { space := .scratch, obj := r.g, off := r.byte } 16 a op.size
  | _, _ => false

/-- A load, gather or atomic may bind behind these earlier operations (R361, R362, R364, R374). -/
def mayBind (pre : List MemOp) (k : MemKind) : Bool :=
  pre.all (fun o => !o.kind.binds && !o.kind.isLsync && !o.kind.isAcquire && !(o.kind.applies && o.kind.meets k))

/-- A store or atomic may be applied behind these earlier operations (R361, R362, R364, R372, R374). -/
def mayApply (pre : List MemOp) (k : MemKind) : Bool :=
  pre.all (fun o => !o.kind.applies && !o.kind.isLsync && !o.kind.isAcquire && !o.kind.isRelease && !(o.kind.binds && o.kind.meets k) &&
    !o.kind.initsFor k)

/-- An earlier copy of the context is performing the acquire of its acq flag (R333, R374). -/
def State.copyAcquiring (s : State) (k : BitVec 2) (id : Nat) : Bool :=
  s.cr.copies.any (fun m => m.k == k && m.id < id && m.phase == .acquiring)

/-- An earlier copy of the context is performing the release of its rel flag (R333, R372). -/
def State.copyReleasing (s : State) (k : BitVec 2) (id : Nat) : Bool :=
  s.cr.copies.any (fun m => m.k == k && m.id < id && m.phase == .releasing)

/-- A load, gather or atomic of a context may bind now. -/
def State.bindsNow (s : State) (k : BitVec 2) (id : Nat) (pre : List MemOp) (kind : MemKind) : Bool :=
  mayBind pre kind && !s.copyAcquiring k id

/-- A store or atomic of a context may be applied now. -/
def State.appliesNow (s : State) (k : BitVec 2) (id : Nat) (pre : List MemOp) (kind : MemKind) : Bool :=
  mayApply pre kind && !s.copyAcquiring k id && !s.copyReleasing k id

/-- A scratchpad line is open to an operation of a context: full, or made empty by a copy of the same context that follows
the operation in program order and has not written it (R128, R332). -/
def State.lineOpen (s : State) (k : BitVec 2) (id g byte : Nat) : Bool :=
  fullAt s g byte || (!(s.coreAt g).scrubs s.tnow (byte / 128) &&
    s.cr.copies.any (fun m => m.k == k && id < m.id && m.unfilled.contains (lineKey g (byte / 128))))

/-- A write under way has reached the visibility point of a scope (R359): from the start for CORE and CLUSTER, acknowledged by its home with
every drop collected for DIE and PACKAGE, everywhere for POOL; a host write reaches every scope when it is acknowledged. -/
def WriteRec.reached (w : WriteRec) (scope : BitVec 3) : Bool := w.a.space != .host && (scope.toNat ≤ 1 || (scope.toNat ≤ 3 && w.homeAcked))

/-- A copy command has no byte left to write: every piece has moved, a contribution's being acknowledged by its root; or it has failed. -/
def Copy.written (m : Copy) : Bool :=
  m.hasFailed || ((m.phase == .active || m.phase == .releasing) && m.todo.isEmpty && (m.op != .putr || m.acks.isEmpty))

/-- The access has reached the visibility point of a scope (R359): no longer queued, a copy with nothing left to write, and its writes there. -/
def State.reached (s : State) (c : Ctx) (scope : BitVec 3) (id : Nat) : Bool :=
  !c.mq.any (fun o => o.id == id) && s.cr.copies.all (fun m => m.id != id || m.written) &&
    s.writes.all (fun w => !(w.id == id || w.copy == some id) || w.reached scope)

/-- LSYNC marks before which no load has still to bind, and no store or atomic to be applied, have nothing left to order (R364). -/
def dropLsync : List MemOp → List MemOp
  | [] => []
  | o :: rest =>
    if o.kind.isLsync then dropLsync rest
    else if o.kind.binds || o.kind.applies then o :: rest
    else o :: dropLsync rest

/-- An operation leaves its queue. -/
def Ctx.unqueue (c : Ctx) (id : Nat) : Ctx := { c with mq := dropLsync (c.mq.filter (fun o => o.id != id)) }

/-- A release at DIE scope or wider that covers an access ends the cluster's pins once the access is applied (R385, R386). -/
def State.endPinsFor (s : State) (k : BitVec 2) (id : Nat) : State :=
  if (s.ctxAt k).mq.any (fun o => match o.kind with
      | .release scope waits => 2 ≤ scope.toNat && waits.contains id
      | _ => false) ||
    s.cr.copies.any (fun m => m.k == k && m.phase == .releasing && 2 ≤ m.scope.toNat && m.relWaits.contains id)
  then s.endPins (clusterOf s.g) else s

/-- Start a release of the context at hand over the ranges, or over everything (R371); at DIE scope or wider it ends
the cluster's pins (R386). -/
def startRelease (scope : BitVec 3) (ranges : Option (List Range)) (s : State) : State :=
  let waits := s.ctx.covered ranges
  let s := if 2 ≤ scope.toNat then s.endPins (clusterOf s.g) else s
  enqueue (.release scope waits) false s

end Sys2Proof.Machine
end

