-- ==== Sys2Proof/Machine/Sync.lean ====
section
/-! DEFINITION. FENCE, FENCEALL, LSYNC, the atomics, the arrival objects and SIGNAL: what they do at issue (R102, R347 to
R354, R364, R371, R374, R379 to R391). -/

namespace Sys2Proof.Machine

-- Fences

/-- A fence's capability fields that are not c0. -/
def fenceFields (a b c : BitVec 5) : List (BitVec 5) := [a, b, c].filter (· != 0)

/-- A fence's release and acquire put in the queue; the acquire of `.both` starts behind the release. A release that covers no range is complete
at issue: `.rel` still ends the cluster's pins, and `.both` is an acquire only (R374, R380, R386). -/
def startFence (scope : BitVec 3) (kind : BitVec 2) (ranges : Option (List Range)) (s : State) : State :=
  let empty := ranges == some []
  let acq := kind.getLsbD 1
  if !kind.getLsbD 0 then (if acq then enqueue (.acquire scope none) true s else s)
  else if empty then
    if acq then enqueue (.acquire scope none) true s
    else if 2 ≤ scope.toNat then s.endPins (clusterOf s.g) else s
  else
    let t := startRelease scope ranges s
    if acq then enqueue (.acquire scope (some (t.nextId - 1))) true t else t

/-- FENCE (R380). -/
def slotFence (a b c_ : BitVec 5) (sc : BitVec 3) (k : BitVec 2) (s : State) : SlotRes :=
  let c := s.ctx
  let fs := fenceFields a b c_
  let tagTrap := fun (r : BitVec 5) =>
    trapIf (!c.cEmpty r && !(c.cVal r).tag) { code := Code.capTag.num, trapi := r.setWidth 64 }
  { slot := .y, draw := 2
    trap := firstTrap (fs.map (fun r => firstTrap [cPoisonTrap c r, tagTrap r]))
    hold := joinHolds (fs.map (cHold c))
    effect := startFence sc k (some (fs.map (fun r => capRange (c.cVal r)))) }
/-- FENCE, issued alone. -/
def execFence (a b c : BitVec 5) (sc : BitVec 3) (k : BitVec 2) (s : State) : Host.Outcome State Fault Refusal :=
  runAlone (.fence a b c sc k) (slotFence a b c sc k s) s

/-- FENCEALL (R381). -/
def slotFenceall (sc : BitVec 3) (k : BitVec 2) (_ : State) : SlotRes :=
  { slot := .y, draw := 2, effect := startFence sc k none }
/-- FENCEALL, issued alone. -/
def execFenceall (sc : BitVec 3) (k : BitVec 2) (s : State) : Host.Outcome State Fault Refusal :=
  runAlone (.fenceall sc k) (slotFenceall sc k s) s

/-- LSYNC (R364). -/
def slotLsync (_ : State) : SlotRes :=
  { slot := .y, draw := 2, effect := fun t => (enqueue .lsync false t).modCtx (fun c => { c with mq := dropLsync c.mq }) }
/-- LSYNC, issued alone. -/
def execLsync (s : State) : Host.Outcome State Fault Refusal := runAlone .lsync (slotLsync s) s

-- Atomics

/-- The spaces of an atomic: over a mapping that is not coherent, the host takes compare-and-swap alone (R392). -/
def atomicSpaces (s : State) (op : AtomOp) : List Space :=
  if s.cxl || op == .acas || op == .acas2 then allSpaces else [.scratch, .local, .pool]

/-- Whether an operation compares with xd (R383). -/
def AtomOp.compares (op : AtomOp) : Bool := op == .acas || op == .acas2

/-- The registers of an operand: the pair of ACAS2, else the one (R383). -/
def AtomOp.regs (op : AtomOp) (r : BitVec 6) : List (BitVec 6) := if op = .acas2 then [r, r + 1] else [r]

/-- The value of an operand: the pair of ACAS2 as 128 bits, low word first (R387). -/
def atomValue (c : Ctx) (op : AtomOp) (r : BitVec 6) : BitVec 128 :=
  if op = .acas2 then (c.xVal r).setWidth 128 ||| (c.xVal (r + 1)).setWidth 128 <<< 64 else (c.xVal r).setWidth 128

/-- An atomic (R382, R383, R389). -/
def slotAtomic (op : AtomOp) (d : BitVec 6) (r : BitVec 5) (x : BitVec 6) (sc : BitVec 3) (acq rel : BitVec 1) (s : State) : SlotRes :=
  let c := s.ctx
  let cap := c.cVal r
  let a := cap.cursor
  let n := op.size
  let acc := accessChecks s c cap a n .atom (atomicSpaces s op) true
  let ds := op.regs d
  let xs := op.regs x
  let regs := xs ++ ds
  let ready := !c.cEmpty r && !regs.any c.xEmpty
  let srcs := if op.compares then xs ++ ds else xs
  accessRes .y 2 (ds.map Dest.x) (srcs.map (xPoisonTrap c) ++ [cPoisonTrap c r]) (joinHolds (cHold c r :: regs.map (xHold c)))
    ready acc (storeWait s acc.addr) 1
    (fun t =>
      let t := acc.mark (t.modCtx (fun o => ds.foldl Ctx.emptyX o))
      let t := if rel = 1#1 then startRelease sc none t else t
      let t := enqueueTracked (.atomic op acc.addr sc d (atomValue c op d) (atomValue c op x)) .atomic (capRange cap) t
      if acq = 1#1 then enqueue (.acquire sc none) true t else t)

/-- `aaddI32` (R387). -/
def slotAaddI32 (d : BitVec 6) (c : BitVec 5) (x : BitVec 6) (sc : BitVec 3) (q r : BitVec 1) (s : State) : SlotRes :=
  slotAtomic .aaddI32 d c x sc q r s
/-- The same, issued alone. -/
def execAaddI32 (d : BitVec 6) (c : BitVec 5) (x : BitVec 6) (sc : BitVec 3) (q r : BitVec 1) (s : State) :
    Host.Outcome State Fault Refusal := runAlone (.aaddI32 d c x sc q r) (slotAaddI32 d c x sc q r s) s

/-- `aaddI64` (R387). -/
def slotAaddI64 (d : BitVec 6) (c : BitVec 5) (x : BitVec 6) (sc : BitVec 3) (q r : BitVec 1) (s : State) : SlotRes :=
  slotAtomic .aaddI64 d c x sc q r s
/-- The same, issued alone. -/
def execAaddI64 (d : BitVec 6) (c : BitVec 5) (x : BitVec 6) (sc : BitVec 3) (q r : BitVec 1) (s : State) :
    Host.Outcome State Fault Refusal := runAlone (.aaddI64 d c x sc q r) (slotAaddI64 d c x sc q r s) s

/-- `aminI64` (R387). -/
def slotAminI64 (d : BitVec 6) (c : BitVec 5) (x : BitVec 6) (sc : BitVec 3) (q r : BitVec 1) (s : State) : SlotRes :=
  slotAtomic .aminI64 d c x sc q r s
/-- The same, issued alone. -/
def execAminI64 (d : BitVec 6) (c : BitVec 5) (x : BitVec 6) (sc : BitVec 3) (q r : BitVec 1) (s : State) :
    Host.Outcome State Fault Refusal := runAlone (.aminI64 d c x sc q r) (slotAminI64 d c x sc q r s) s

/-- `amaxI64` (R387). -/
def slotAmaxI64 (d : BitVec 6) (c : BitVec 5) (x : BitVec 6) (sc : BitVec 3) (q r : BitVec 1) (s : State) : SlotRes :=
  slotAtomic .amaxI64 d c x sc q r s
/-- The same, issued alone. -/
def execAmaxI64 (d : BitVec 6) (c : BitVec 5) (x : BitVec 6) (sc : BitVec 3) (q r : BitVec 1) (s : State) :
    Host.Outcome State Fault Refusal := runAlone (.amaxI64 d c x sc q r) (slotAmaxI64 d c x sc q r s) s

/-- `aminnN64` (R387). -/
def slotAminnN64 (d : BitVec 6) (c : BitVec 5) (x : BitVec 6) (sc : BitVec 3) (q r : BitVec 1) (s : State) : SlotRes :=
  slotAtomic .aminnN64 d c x sc q r s
/-- The same, issued alone. -/
def execAminnN64 (d : BitVec 6) (c : BitVec 5) (x : BitVec 6) (sc : BitVec 3) (q r : BitVec 1) (s : State) :
    Host.Outcome State Fault Refusal := runAlone (.aminnN64 d c x sc q r) (slotAminnN64 d c x sc q r s) s

/-- `amaxnN64` (R387). -/
def slotAmaxnN64 (d : BitVec 6) (c : BitVec 5) (x : BitVec 6) (sc : BitVec 3) (q r : BitVec 1) (s : State) : SlotRes :=
  slotAtomic .amaxnN64 d c x sc q r s
/-- The same, issued alone. -/
def execAmaxnN64 (d : BitVec 6) (c : BitVec 5) (x : BitVec 6) (sc : BitVec 3) (q r : BitVec 1) (s : State) :
    Host.Outcome State Fault Refusal := runAlone (.amaxnN64 d c x sc q r) (slotAmaxnN64 d c x sc q r s) s

/-- `aand` (R387). -/
def slotAand (d : BitVec 6) (c : BitVec 5) (x : BitVec 6) (sc : BitVec 3) (q r : BitVec 1) (s : State) : SlotRes :=
  slotAtomic .aand d c x sc q r s
/-- The same, issued alone. -/
def execAand (d : BitVec 6) (c : BitVec 5) (x : BitVec 6) (sc : BitVec 3) (q r : BitVec 1) (s : State) :
    Host.Outcome State Fault Refusal := runAlone (.aand d c x sc q r) (slotAand d c x sc q r s) s

/-- `aor` (R387). -/
def slotAor (d : BitVec 6) (c : BitVec 5) (x : BitVec 6) (sc : BitVec 3) (q r : BitVec 1) (s : State) : SlotRes :=
  slotAtomic .aor d c x sc q r s
/-- The same, issued alone. -/
def execAor (d : BitVec 6) (c : BitVec 5) (x : BitVec 6) (sc : BitVec 3) (q r : BitVec 1) (s : State) :
    Host.Outcome State Fault Refusal := runAlone (.aor d c x sc q r) (slotAor d c x sc q r s) s

/-- `axor` (R387). -/
def slotAxor (d : BitVec 6) (c : BitVec 5) (x : BitVec 6) (sc : BitVec 3) (q r : BitVec 1) (s : State) : SlotRes :=
  slotAtomic .axor d c x sc q r s
/-- The same, issued alone. -/
def execAxor (d : BitVec 6) (c : BitVec 5) (x : BitVec 6) (sc : BitVec 3) (q r : BitVec 1) (s : State) :
    Host.Outcome State Fault Refusal := runAlone (.axor d c x sc q r) (slotAxor d c x sc q r s) s

/-- `axchg` (R387). -/
def slotAxchg (d : BitVec 6) (c : BitVec 5) (x : BitVec 6) (sc : BitVec 3) (q r : BitVec 1) (s : State) : SlotRes :=
  slotAtomic .axchg d c x sc q r s
/-- The same, issued alone. -/
def execAxchg (d : BitVec 6) (c : BitVec 5) (x : BitVec 6) (sc : BitVec 3) (q r : BitVec 1) (s : State) :
    Host.Outcome State Fault Refusal := runAlone (.axchg d c x sc q r) (slotAxchg d c x sc q r s) s

/-- `acas` (R387). -/
def slotAcas (d : BitVec 6) (c : BitVec 5) (x : BitVec 6) (sc : BitVec 3) (q r : BitVec 1) (s : State) : SlotRes :=
  slotAtomic .acas d c x sc q r s
/-- The same, issued alone. -/
def execAcas (d : BitVec 6) (c : BitVec 5) (x : BitVec 6) (sc : BitVec 3) (q r : BitVec 1) (s : State) :
    Host.Outcome State Fault Refusal := runAlone (.acas d c x sc q r) (slotAcas d c x sc q r s) s

/-- `acas2` (R387). -/
def slotAcas2 (d : BitVec 6) (c : BitVec 5) (x : BitVec 6) (sc : BitVec 3) (q r : BitVec 1) (s : State) : SlotRes :=
  slotAtomic .acas2 d c x sc q r s
/-- The same, issued alone. -/
def execAcas2 (d : BitVec 6) (c : BitVec 5) (x : BitVec 6) (sc : BitVec 3) (q r : BitVec 1) (s : State) :
    Host.Outcome State Fault Refusal := runAlone (.acas2 d c x sc q r) (slotAcas2 d c x sc q r s) s

/-- `afaddF32` (R387). -/
def slotAfaddF32 (d : BitVec 6) (c : BitVec 5) (x : BitVec 6) (sc : BitVec 3) (q r : BitVec 1) (s : State) : SlotRes :=
  slotAtomic .afaddF32 d c x sc q r s
/-- The same, issued alone. -/
def execAfaddF32 (d : BitVec 6) (c : BitVec 5) (x : BitVec 6) (sc : BitVec 3) (q r : BitVec 1) (s : State) :
    Host.Outcome State Fault Refusal := runAlone (.afaddF32 d c x sc q r) (slotAfaddF32 d c x sc q r s) s

-- Arrival objects

/-- The place of an arrival object that a reference names (R347). -/
inductive RefPlace where
  | bad
  | outside (line : Nat)
  | at (r : ArrRef)

/-- A reference resolved: the local form in the context's own allotment, the cluster form in the region of a
placement (R347). -/
def resolveRef (s : State) (c : Ctx) (region : Option Placement) (ref : Word) : RefPlace :=
  let v := ref.toNat
  if v / 2 ^ 18 = 0 then
    let line := v / 8
    if line < c.sys.allocSize.toNat then .at { g := s.g, byte := (c.sys.allocBase.toNat + line) * 128 + v % 8 * 16, ref := ref }
    else .outside line
  else if v / 2 ^ 23 = 0 && v / 2 ^ 22 == 1 then
    let idx := v % 2 ^ 18
    match region with
    | none => .outside (idx / 8)
    | some p =>
      match s.resolveIn p (v / 2 ^ 18 % 16 * 2 ^ 22 + idx * 16) 16 with
      | some (g, byte) => .at { g := g, byte := byte, ref := ref }
      | none => .outside (idx / 8)
  else .bad

/-- The fault of a reference in a slot (R186, R347). -/
def RefPlace.trap (slot : Nat) : RefPlace → Option Trap
  | .bad => some (slotTrap .illegal slot)
  | .outside line => some { code := Code.lineRange.num, trapi := BitVec.ofNat 64 (slot + line * 256) }
  | .at _ => none

/-- The object of a reference, where it has one. -/
def RefPlace.get : RefPlace → ArrRef
  | .at r => r
  | _ => { g := 0, byte := 0, ref := 0 }

/-- Writes of a context to scratchpad space that an ARRIVE waits for: queued stores and atomics, and XFERs (R352). -/
def arriveWaits (s : State) : List Nat :=
  ((s.ctx.mq.filter (fun o => match o.kind with
      | .store a .. => a.space == .scratch
      | .atomic _ a .. => a.space == .scratch
      | _ => false)).map MemOp.id) ++
    ((s.cr.copies.filter (fun m => m.k == s.cr.cur && m.op == .xfer)).map Copy.id)

/-- AINIT (R351). -/
def slotAinit (a : BitVec 6) (n : BitVec 12) (s : State) : SlotRes :=
  let c := s.ctx
  let place := resolveRef s c (s.placementOf c) (c.xVal a)
  { slot := .y, draw := 2
    trap := firstTrap [xPoisonTrap c a, if c.xEmpty a then none else place.trap 6]
    hold := xHold c a
    effect := enqueue (.ainit place.get n) false }
/-- AINIT, issued alone. -/
def execAinit (a : BitVec 6) (n : BitVec 12) (s : State) : Host.Outcome State Fault Refusal :=
  runAlone (.ainit a n) (slotAinit a n s) s

/-- ARRIVE (R352). -/
def slotArrive (d a x n : BitVec 6) (s : State) : SlotRes :=
  let c := s.ctx
  let b := (c.xVal x).toInt
  let place := resolveRef s c (s.placementOf c) (c.xVal a)
  { slot := .y, draw := 2, dests := [.x d]
    trap := firstTrap [xPoisonTrap c a, xPoisonTrap c x,
      trapIf (!c.xEmpty x && (b < -(2 ^ 39) || b ≥ 2 ^ 39)) (slotTrap .illegal 6),
      if c.xEmpty a then none else place.trap 6]
    hold := joinHolds [xHold c a, xHold c x, xHold c d]
    effect := fun t =>
      let t := t.modCtx (fun o => o.emptyX d)
      enqueue (.arrive place.get d n b c.pc.toNat (arriveWaits t)) false t }
/-- ARRIVE, issued alone. -/
def execArrive (d a x n : BitVec 6) (s : State) : Host.Outcome State Fault Refusal :=
  runAlone (.arrive d a x n) (slotArrive d a x n s) s

/-- WAITPH's bound as an absolute cycle (R353). -/
def phaseDeadline (tnow : Word) (lim : BitVec 8) : Option Word :=
  if lim = 255 then none else some (tnow + lim.setWidth 64 * 256)

/-- WAITPH (R353). -/
def slotWaitph (d a : BitVec 6) (p : BitVec 4) (l : BitVec 8) (s : State) : SlotRes :=
  let c := s.ctx
  let place := resolveRef s c (s.placementOf c) (c.xVal a)
  { slot := .y, draw := 2, dests := [.x d]
    trap := firstTrap [xPoisonTrap c a, if c.xEmpty a then none else place.trap 6]
    hold := joinHolds [xHold c a, xHold c d]
    effect := fun t => t.modCtx (fun o => o.emptyX d)
    waits := [.phase d place.get p (phaseDeadline s.tnow l)] }
/-- WAITPH, issued alone. -/
def execWaitph (d a : BitVec 6) (p : BitVec 4) (l : BitVec 8) (s : State) : Host.Outcome State Fault Refusal :=
  runAlone (.waitph d a p l) (slotWaitph d a p l s) s

-- SIGNAL

/-- SIGNAL: an engine wait while the ring is full or its overflow holds records; then its slot is reserved and its record
joins the store queue (R102, R501). In a protected world the record holds zero in place of xa (R467). -/
def slotSignal (a : BitVec 6) (i : BitVec 12) (s : State) : SlotRes :=
  let c := s.ctx
  let r := c.sys
  let ring := (s.tenant r.tenant).ring
  let v := if r.world = 0 then c.xVal a else 0
  { slot := .y, draw := 2
    trap := xPoisonTrap c a
    hold := joinHolds [xHold c a, holdIf (ring.isFull || !ring.overflow.isEmpty) .engine]
    effect := fun t =>
      let at_ := (t.tenant r.tenant).ring.pi
      let t := t.modTenant r.tenant (fun te => { te with ring := te.ring.reserve })
      enqueue (.signal at_ (.signal r.tenant r.launch r.gang r.task r.stage c.pc.toNat i v s.tnow)) false t }
/-- SIGNAL, issued alone. -/
def execSignal (a : BitVec 6) (i : BitVec 12) (s : State) : Host.Outcome State Fault Refusal :=
  runAlone (.signal a i) (slotSignal a i s) s

end Sys2Proof.Machine
end

