-- ==== Sys2Proof/Machine/MemEvents.lean ====
section
/-! DEFINITION. The steps that the memory system takes by itself: loads return, stores are applied and acknowledged,
atomics execute, releases and acquires complete, arrivals are applied, copies of lines age (R126 to R130, R349 to R353,
R361 to R393, R417 to R430). Each `do…` answers none where its step is not possible; the meaning then changes nothing. -/

namespace Sys2Proof.Machine

/-- An event's outcome: its state where the step is possible, else no change. -/
def onEvent (o : Option State) (s : State) : Host.Outcome State Fault Refusal := .next (o.getD s)

/-- An operation of a context's queue, with the operations before it. -/
def State.queued (s : State) (k : BitVec 2) (id : Nat) : Option (MemOp × List MemOp) :=
  ((s.ctxAt k).mq.find? (fun o => o.id == id)).map (fun o => (o, before id (s.ctxAt k).mq))

/-- The line lease length of a context's tenant (R420). -/
def State.llenOf (s : State) (c : Ctx) : BitVec 12 := (s.tenant c.sys.tenant).llen

-- Lines

/-- The addresses that the core at hand still wants in its cluster's cache: of queued operations and of copies. -/
def State.wanted (s : State) : List (MAddr × BitVec 2) :=
  (([0, 1, 2, 3] : List (BitVec 2)).map (fun k =>
    (((s.ctxAt k).mq.map (fun o => o.kind.spots)).flatten.filter (fun p => p.1.space == .local || p.1.space == .pool)).map
      (fun p => (p.1, k)))).flatten

/-- A line is fetched into the cluster's cache for an access of the core at hand (R355, R377). -/
def doLineFill (cl obj line : Nat) (s : State) : Option State :=
  if cl != clusterOf s.g then none
  else
    match s.wanted.find? (fun p => p.1.obj == obj && p.1.line == line) with
    | none => none
    | some (a, k) =>
      if (s.cacheHit cl a).isSome then none
      else if (s.pinnedElsewhere cl a).isSome then s.noteRetry cl a
      else s.fillLine cl a (s.llenOf (s.ctxAt k))
/-- LINE_FILL (R355, R377). -/
def execLineFill (s : State) : Host.Outcome State Fault Refusal :=
  match s.event with
  | some (.lineFill cl obj line) => onEvent (doLineFill cl obj.toNat line.toNat s) s
  | _ => .next s

/-- The timestamp of a copy at a visit of the part: marked expired once it lies 2^22 or more from LT (R425). -/
def agedTs (lt ts : BitVec 24) : BitVec 24 := if 2 ^ 22 ≤ (ts - lt).toNat then lt - 2 ^ 22 else ts

/-- HT has advanced by 2^21 since the homes' last visit to their lines, or LT since the part's last visit to its copies (R424, R425). -/
def State.ageingDue (s : State) : Bool := 2 ^ 21 ≤ (s.ht - s.homeAged).toNat || 2 ^ 21 ≤ (s.lt - s.partAged).toNat

/-- COPY_AGEING: the homes visit their lines and the part its pool copies (R424, R425). A copy that a page lease serves keeps its data. -/
def doCopyAgeing (s : State) : Option State :=
  some { s with
    homeAged := s.ht, partAged := s.lt, homeOld := s.homeOld || 2 ^ 22 ≤ s.ht.toNat
    clusters := s.clusters.map (fun e => (e.1, { e.2 with cache := e.2.cache.map (fun l =>
      if l.cls == .pool then { l with rts := agedTs s.lt l.rts } else l) }))
    rdc := s.rdc.map (fun r => if r.pool then { r with rts := agedTs s.lt r.rts } else r)
    frameTs := s.frameTs.map (fun e => (e.1, (if agedTs s.lt e.2.2 = e.2.2 then e.2.1 else agedTs s.lt e.2.2, agedTs s.lt e.2.2)))
    poolLines := s.poolLines.map (fun e =>
      if 2 ^ 22 ≤ (s.ht - e.2.rts).toNat
      then (e.1, { e.2 with wts := s.ht - 2 ^ 22, rts := s.ht - 2 ^ 22 }) else e) }
/-- COPY_AGEING (R424, R425). -/
def execCopyAgeing (s : State) : Host.Outcome State Fault Refusal :=
  match s.event with
  | some .copyAgeing => onEvent (doCopyAgeing s) s
  | _ => .next s

/-- LT_TICK: LT advances by one when TNOW reaches a multiple of TSTEP (R418). -/
def doLtTick (s : State) : Option State :=
  if s.lastTick != s.tnow && s.tnow.toNat % s.tstep.toNat = 0 then some { s with lt := s.lt + 1, lastTick := s.tnow } else none
/-- LT_TICK (R418). -/
def execLtTick (s : State) : Host.Outcome State Fault Refusal :=
  match s.event with
  | some .ltTick => onEvent (doLtTick s) s
  | _ => .next s

-- Loads

/-- An operation's data is there: its line is open (R128), or is held by the cluster's cache, or comes from the host. -/
def State.loadReady (s : State) (k : BitVec 2) (id : Nat) (a : MAddr) : Bool :=
  match a.space with
  | .scratch => s.lineOpen k id a.obj a.off
  | .host => true
  | _ => (s.cacheHit (clusterOf s.g) a).isSome

/-- A load binds and fills its register (R126, R130, R361). -/
def doLoadReturn (k : BitVec 2) (id : Nat) (s : State) : Option State :=
  match s.queued k id with
  | some (⟨_, .load a n dst, _, _⟩, pre) =>
    if s.bindsNow k id pre (.load a n dst) && s.loadReady k id a then
      let f := s.loadFrom a n
      some (s.modCtxAt k (fun c => (c.deliverLoad dst n f).unqueue id))
    else none
  | _ => none
/-- LOAD_RETURN (R126). -/
def execLoadReturn (s : State) : Host.Outcome State Fault Refusal :=
  match s.event with
  | some (.loadReturn k id) => onEvent (doLoadReturn k id s) s
  | _ => .next s

-- Stores

/-- A store is applied at the point of CORE scope (R128, R361). -/
def doStoreApply (k : BitVec 2) (id : Nat) (s : State) : Option State :=
  match s.queued k id with
  | some (⟨_, .store a bytes tags, _, _⟩, pre) =>
    if s.appliesNow k id pre (.store a bytes tags) && s.loadReady k id a then
      let s := s.applyStore k id a bytes tags
      some ((s.modCtxAt k (fun c => c.unqueue id)).endPinsFor k id)
    else none
  | _ => none
/-- STORE_APPLY (R128, R361). -/
def execStoreApply (s : State) : Host.Outcome State Fault Refusal :=
  match s.event with
  | some (.storeApply k id) => onEvent (doStoreApply k id s) s
  | _ => .next s

/-- Two writes touch a common granule. -/
def WriteRec.meets (a b : WriteRec) : Bool := sameGranule a.a a.bytes.length b.a b.bytes.length

/-- The writes before one in the list: the ungranted ones in the order in which they were applied, the granted ones in that of their grants. -/
def State.writesBefore (s : State) (w : WriteRec) : List WriteRec := s.writes.takeWhile (fun v => v.id != w.id)

/-- A write granted by the home of its frame, with the dies whose remote-data caches hold the line (R365). None while an earlier write of
its cluster to a common granule is not granted (R362), while a pin stands against it (R386), or where the home refuses it (R177). -/
def grantStep (w : WriteRec) (s : State) : Option State :=
  if (s.writesBefore w).any (fun v => v.cluster == w.cluster && !v.granted && v.meets w) then none
  else if (s.clusterAt w.cluster).cache.any (fun l => l.pin && l.obj == w.a.obj && l.line == w.a.line) then none
  else if (s.pinnedElsewhere w.cluster w.a).isSome then s.noteRetry w.cluster w.a
  else if (s.writeRefusal w).isSome then none
  else
    let w' : WriteRec := { w with granted := true, drops := s.rdcDies w.a.obj w.a.line }
    let s := s.grantWrite w.a w.bytes w.tags
    some { s with writes := s.writes.filter (fun v => v.id != w.id) ++ [w'] }

/-- A write record replaced. -/
def State.setWrite (s : State) (w : WriteRec) : State := { s with writes := s.writes.map (fun v => if v.id == w.id then w else v) }

/-- A remote-data cache drops a granted line and acknowledges the drop (R365). -/
def dropStep (w : WriteRec) (die : Nat) (rest : List Nat) (s : State) : State :=
  ({ s with rdc := s.rdc.filter (fun r => !(r.die == die && r.obj == w.a.obj && r.line == w.a.line)) }).setWrite { w with drops := rest }

/-- What each release of a write's context waits for. -/
def State.releaseWaits (s : State) (w : WriteRec) : List (List Nat) :=
  ((s.coreAt w.g).ctxs[w.k.toNat].mq.filterMap (fun o => match o.kind with | .release _ waits => some waits | _ => none)) ++
    ((s.coreAt w.g).copies.filter (fun m => m.k == w.k && m.phase == .releasing)).map Copy.relWaits

/-- An operation of a queue that is still to store to the target function of a host write. -/
def WriteRec.sameFunction (w : WriteRec) : MemKind → Bool
  | .store a .. => a.space == .host && Config.hostFunction a.off == Config.hostFunction w.a.off
  | _ => false

/-- The host stores of a write's context to its target function. -/
def State.hostStores (s : State) (w : WriteRec) : List WriteRec :=
  s.writes.filter (fun v => v.a.space == .host && v.copy.isNone && v.g == w.g && v.k == w.k &&
    Config.hostFunction v.a.off == Config.hostFunction w.a.off)

/-- The part needs a write's acknowledgement without a release that covers it: its task is in the release of R106, its context is being evicted
(R84), or its core has no request left (log). -/
def State.mustAck (s : State) (w : WriteRec) : Bool :=
  let c := (s.coreAt w.g).ctxs[w.k.toNat]
  (c.state == .drain && c.drainRel) || c.state == .evicting || (w.g == s.g && 1024 ≤ s.outstanding)

/-- A host write's acknowledgement (R373): over CXL its completion returns. Over a mapping that is not coherent, a release that covers it
issues one zero-length read to its target function behind the stores it covers, once these have been sent, and they are acknowledged when the
read completes; so are those of a context that the part itself needs acknowledged, and the engine issues one for its own writes (log). -/
def hostAck (w : WriteRec) (s : State) : Option State :=
  if s.cxl || w.copy.isSome then some (s.finishWrite w)
  else
    let mq := (s.coreAt w.g).ctxs[w.k.toNat].mq
    match (s.releaseWaits w).find? (fun waits => waits.contains w.id && !mq.any (fun o => waits.contains o.id && w.sameFunction o.kind)) with
    | some waits => some (((s.hostStores w).filter (fun v => waits.contains v.id)).foldl State.finishWrite s)
    | none => if s.mustAck w then some ((s.hostStores w).foldl State.finishWrite s) else none

/-- The next step of a write's acknowledgement (R365, R366, R373): the home's grant, one drop after another, and for a pool line its
forwarding with the fencing token and its arrival at the pool home, in the order of the grants. -/
def ackWrite (w : WriteRec) (s : State) : Option State :=
  match w.a.space with
  | .scratch => none
  | .host => hostAck w s
  | sp =>
    if !w.granted then grantStep w s
    else
      match w.drops with
      | die :: rest => some (dropStep w die rest s)
      | [] =>
        if sp = .local then some (s.finishWrite w)
        else if !w.homeAcked then
          some (s.setWrite { w with homeAcked := true, token := s.tokenFor w.tenant w.a.obj (w.a.off / 65536), lt := s.lt })
        else if (s.writeRefusal w).isSome || (s.writesBefore w).any (fun v => v.granted && v.onLine w.a) then none
        else some ((s.writePool w.lt w.a w.bytes w.tags).finishWrite w)

/-- A step of a store's acknowledgement: when it is complete, no tracker entry counts the store (R365, R368). -/
def doWriteAck (id : Nat) (s : State) : Option State := (s.writes.find? (fun w => w.id == id && w.copy.isNone)).bind (fun w => ackWrite w s)
/-- WRITE_ACK (R365). -/
def execWriteAck (s : State) : Host.Outcome State Fault Refusal :=
  match s.event with
  | some (.writeAck id) => onEvent (doWriteAck id s) s
  | _ => .next s

/-- A home refuses a store: the copies of its line are dropped and the fault becomes due in its context (R177, R430). The refusal of a pool
home is a response like any other (R417, R418). -/
def doWriteRefused (id : Nat) (code : BitVec 8) (s : State) : Option State :=
  match s.writes.find? (fun w => w.id == id && w.copy.isNone && w.g == s.g) with
  | none => none
  | some w =>
    if (s.writeRefusal w).map Code.num != some code then none
    else
      let s := (s.dropWrite w).dropCopies w.a
      let s := if w.a.space = .pool then s.johel w.lt else s
      some ((s.modCtxAt w.k (fun o => o.retireAccess id)).addDue w.k code w.a.full none)
/-- WRITE_REFUSED (R430). -/
def execWriteRefused (s : State) : Host.Outcome State Fault Refusal :=
  match s.event with
  | some (.writeRefused id code) => onEvent (doWriteRefused id code s) s
  | _ => .next s

-- Atomics

/-- A cluster's writes to a line granted by its home, in the order in which they were applied: a request of the cluster for the line follows
them there (R365). None where the home refuses one of them. -/
def State.grantEarlier (s : State) (cl : Nat) (a : MAddr) : Option State := (s.ungranted cl a).foldl (fun o w => o.bind (grantStep w)) (some s)

/-- A line obtained from its L2 home for a pin (R385): none where the home refuses it (R177) or its set has no room. -/
def State.fetchHome (s : State) (cl : Nat) (a : MAddr) : Option State :=
  if s.oldAtHome a then none
  else
    (((s.clusterAt cl).dropLine a.obj a.line).makeRoom a.obj a.line).map (fun c =>
      let cls := lineClass cl a
      let n : CLine := { obj := a.obj, line := a.line, val := s.hbmLine a.hbmLine, cls := cls, gen := c.genOf cls, frame := a.frame
                         unacked := (s.writes.filter (fun w => w.counted && w.cluster == cl && w.onLine a)).length }
      s.modCluster cl (fun _ => { c with cache := c.cache ++ [n] }))

/-- The value of a cached line replaced. -/
def State.setCached (s : State) (cl : Nat) (a : MAddr) (v : LineVal) (pin : Bool) : State :=
  s.modCluster cl (fun c => c.modLine a.obj a.line (fun l => { l with val := v, pin := l.pin || pin }))

/-- What an atomic's execution gives: the old value, or poison met. -/
abbrev AtomResult := State × Option (BitVec 128)

/-- An atomic on a line's value: memory unchanged where it meets poison (R390). -/
def onLine (op : AtomOp) (a : MAddr) (xd xs : BitVec 128) (v : LineVal) : Option (LineVal × BitVec 128) :=
  if v.poisoned (a.off % 128) op.size then none else some (v.atomic op (a.off % 128) xd xs)

/-- An atomic at a scratchpad line (R384). -/
def atomScratch (open_ : Bool) (op : AtomOp) (a : MAddr) (xd xs : BitVec 128) (s : State) : Option AtomResult :=
  let m := s.metaAt (lineKey a.obj (a.off / 128))
  if !open_ then none
  else if m.form == .poison then some (s, none)
  else
    let old := BitVec.ofNat 128 (leNat (s.scratchRead a.obj a.off op.size))
    some (s.storeScratch a.obj a.off (leBytes op.size (op.newValue old xd xs).toNat) 0, some old)

/-- An atomic in the cluster cache with its line pinned (R385): a line not yet pinned is obtained from its home, behind the cluster's own writes
to it. -/
def atomPinned (op : AtomOp) (a : MAddr) (xd xs : BitVec 128) (s : State) : Option AtomResult :=
  let cl := clusterOf s.g
  if (s.pinnedElsewhere cl a).isSome then (s.noteRetry cl a).map (fun s => (s, none))
  else
    let held := match (s.clusterAt cl).find a.obj a.line with | some l => l.pin | none => false
    match (if held then some s else (s.grantEarlier cl a).bind (fun s => s.fetchHome cl a)) with
    | none => none
    | some s =>
      match (s.clusterAt cl).find a.obj a.line with
      | none => none
      | some l =>
        match onLine op a xd xs l.val with
        | none => some (s, none)
        | some (v, old) => some (s.setCached cl a v true, some old)

/-- An atomic at the L2 home of its frame, behind its cluster's writes to the line: the cluster's pin on the line ends first, and its copy is
dropped (R385). It counts as acknowledged once every remote-data cache that holds the line has dropped it (R365). None where the home refuses it (R390). -/
def atomHome (k : BitVec 2) (id : Nat) (op : AtomOp) (a : MAddr) (xd xs : BitVec 128) (s : State) : Option AtomResult :=
  let cl := clusterOf s.g
  if (s.pinnedElsewhere cl a).isSome then (s.noteRetry cl a).map (fun s => (s, none))
  else if s.oldAtHome a then none
  else
    let s := match (s.clusterAt cl).find a.obj a.line with
      | some l => if l.pin then s.endPin cl l else s
      | none => s
    match s.grantEarlier cl a with
    | none => none
    | some s =>
      let s := s.modCluster cl (fun c => c.dropLine a.obj a.line)
      match onLine op a xd xs (s.hbmLine a.hbmLine) with
      | none => some (s, none)
      | some (v, old) =>
        let s := s.setHbmLine a.hbmLine v
        let dies := s.rdcDies a.obj a.line
        some (if dies.isEmpty then s
          else { s with writes := s.writes ++ [{ id := id, g := s.g, k := k, cluster := cl, a := a, bytes := v.read (a.off % 128) op.size
                                                 granted := true, drops := dies, counted := false }] }, some old)

/-- A store of a context to a granule of an address is still on its way to its home (R362). -/
def State.ownWriteTo (s : State) (k : BitVec 2) (a : MAddr) (n : Nat) : Bool :=
  s.writes.any (fun w => w.g == s.g && w.k == k && w.copy.isNone && sameGranule w.a w.bytes.length a n)

/-- An atomic at the pool home, with the fencing token, behind its context's own stores to its granules (R362); LT follows as for a write
(R384, R422). -/
def atomPool (k : BitVec 2) (tenant : BitVec 4) (op : AtomOp) (a : MAddr) (xd xs : BitVec 128) (s : State) : Option AtomResult :=
  if s.ownWriteTo k a op.size then none
  else if (s.homeRefusal a.obj (a.off / 65536) a.gen (s.tokenFor tenant a.obj (a.off / 65536))).isSome then none
  else
    match onLine op a xd xs (s.poolLine (poolKey a.obj a.line)) with
    | none => some (s.johel s.lt, none)
    | some (v, old) => some (s.landPool s.lt a v, some old)

/-- An atomic at the host (R384, R392). -/
def atomHost (op : AtomOp) (a : MAddr) (xd xs : BitVec 128) (s : State) : Option AtomResult :=
  let old := BitVec.ofNat 128 (leNat (memRead s.host a.off op.size))
  some ({ s with host := memWrite s.host a.off (leBytes op.size (op.newValue old xd xs).toNat) }, some old)

/-- An atomic performed at its place (R384). -/
def performAtomic (k : BitVec 2) (id : Nat) (open_ : Bool) (op : AtomOp) (a : MAddr) (scope : BitVec 3) (xd xs : BitVec 128) (s : State) : Option AtomResult :=
  match s.atomPlace a scope with
  | .line => atomScratch open_ op a xd xs s
  | .pinned => atomPinned op a xd xs s
  | .home => atomHome k id op a xd xs s
  | .poolHome => atomPool k (s.ctxAt k).sys.tenant op a xd xs s
  | .host => atomHost op a xd xs s

/-- The atomic waits for an answer to a request that received RETRY. -/
def State.atomRetry (s : State) (a : MAddr) : Bool := a.space == .local && (s.pinnedElsewhere (clusterOf s.g) a).isSome

/-- An atomic is performed and its value returned (R387, R390). -/
def doAtomicReturn (k : BitVec 2) (id : Nat) (s : State) : Option State :=
  match s.queued k id with
  | some (⟨_, .atomic op a scope d xd xs, _, _⟩, pre) =>
    let kind := MemKind.atomic op a scope d xd xs
    if !(s.bindsNow k id pre kind && s.appliesNow k id pre kind) then none
    else
      match performAtomic k id (s.lineOpen k id a.obj a.off) op a scope xd xs s with
      | none => none
      | some (t, r) =>
        if s.atomRetry a then some t
        else
          let acked := !t.writes.any (fun w => w.id == id)
          let t := t.modCtxAt k (fun c =>
            let c := (match r with
              | some old => c.deliverAtomic op d old
              | none => c.poisonAtomic op d).unqueue id
            if acked then c.retireAccess id else c)
          some (t.endPinsFor k id)
  | _ => none
/-- ATOMIC_RETURN (R387). -/
def execAtomicReturn (s : State) : Host.Outcome State Fault Refusal :=
  match s.event with
  | some (.atomicReturn k id) => onEvent (doAtomicReturn k id s) s
  | _ => .next s

/-- Whether an atomic can fail with a code: refused at its home, or by the host's completion (R390). -/
def atomicCanFail (s : State) (k : BitVec 2) (a : MAddr) (code : BitVec 8) : Bool :=
  match a.space with
  | .pool => (s.homeRefusal a.obj (a.off / 65536) a.gen (s.tokenFor (s.ctxAt k).sys.tenant a.obj (a.off / 65536))).map Code.num == some code
  | .host => code == Code.capSpace.num
  | .local => s.oldAtHome a && code == Code.capStale.num
  | .scratch => false

/-- An atomic fails: memory unchanged, its registers all ones, its fault due (R390). -/
def doAtomicFail (k : BitVec 2) (id : Nat) (code : BitVec 8) (s : State) : Option State :=
  match s.queued k id with
  | some (⟨_, .atomic op a scope d xd xs, _, _⟩, pre) =>
    let kind := MemKind.atomic op a scope d xd xs
    if s.bindsNow k id pre kind && s.appliesNow k id pre kind && atomicCanFail s k a code then
      let s := if a.space = .pool then s.johel s.lt else s
      some ((s.modCtxAt k (fun c => ((c.failAtomic op d).unqueue id).retireAccess id)).addDue k code a.full none)
    else none
  | _ => none
/-- ATOMIC_FAIL (R390). -/
def execAtomicFail (s : State) : Host.Outcome State Fault Refusal :=
  match s.event with
  | some (.atomicFail k id code) => onEvent (doAtomicFail k id code s) s
  | _ => .next s

/-- A pin that has answered RETRY for 2^20 cycles ends (R386). -/
def doPinRetryTimeout (cl key : Nat) (s : State) : Option State :=
  match (s.clusterAt cl).find (key / 2 ^ 33) (key % 2 ^ 33) with
  | some l =>
    match l.retrySince with
    | some t => if l.pin && t.toNat + 2 ^ 20 ≤ s.tnow.toNat then some (s.endPin cl l) else none
    | none => none
  | none => none
/-- PIN_RETRY_TIMEOUT (R386). -/
def execPinRetryTimeout (s : State) : Host.Outcome State Fault Refusal :=
  match s.event with
  | some (.pinRetryTimeout cl key) => onEvent (doPinRetryTimeout cl key s) s
  | _ => .next s

-- Releases and acquires

/-- A release completes when every access it covers has reached its scope and every earlier load has bound (R371,
R372). -/
def doReleaseComplete (k : BitVec 2) (id : Nat) (s : State) : Option State :=
  match s.queued k id with
  | some (⟨_, .release scope waits, _, _⟩, pre) =>
    let c := s.ctxAt k
    if pre.all (fun o => !o.kind.binds && !o.kind.isRelease) && !s.copyReleasing k id && waits.all (s.reached c scope) then
      some (s.modCtxAt k (fun c => c.unqueue id))
    else none
  | _ => none
/-- RELEASE_COMPLETE (R371). -/
def execReleaseComplete (s : State) : Host.Outcome State Fault Refusal :=
  match s.event with
  | some (.releaseComplete k id) => onEvent (doReleaseComplete k id s) s
  | _ => .next s

/-- A class's generation bumped: the exempt lines take the new one (R374, R375). -/
def Cluster.bump (c : Cluster) (cls : LineClass) : Cluster :=
  let g := c.genOf cls + 1
  let c := match cls with
    | .own => { c with gOwn := g }
    | .other => { c with gOther := g }
    | .pool => { c with gPool := g }
  { c with cache := c.cache.map (fun l => if l.cls == cls && l.exempt then { l with gen := g } else l) }

/-- A bump from 15 to 0 flash-invalidates the class (R376). -/
def Cluster.flashClass (c : Cluster) (cls : LineClass) : Cluster :=
  if c.genOf cls = 0 then { c with cache := c.cache.filter (fun l => l.cls != cls || l.exempt) } else c

/-- The classes that an acquire refreshes (R374). -/
def scopeClasses (scope : BitVec 3) : List LineClass :=
  match scope.toNat with
  | 2 => [.own]
  | 3 => [.own, .other]
  | 4 => [.own, .other, .pool]
  | _ => []

/-- The bumps of an acquire, and whether one of them wrapped (R374, R376). -/
def State.refresh (s : State) (scope : BitVec 3) : State × Bool :=
  let cl := clusterOf s.g
  let c := (scopeClasses scope).foldl (fun c cls => (c.bump cls).flashClass cls) (s.clusterAt cl)
  let wrapped := (scopeClasses scope).any (fun cls => c.genOf cls == 0)
  (s.modCluster cl (fun _ => if wrapped then { c with flash := s.tnow.toNat + 64 } else c), wrapped)

/-- The number of an operation replaced by another kind under the same number. -/
def Ctx.rekind (c : Ctx) (id : Nat) (kind : MemKind) : Ctx :=
  { c with mq := c.mq.map (fun o => if o.id == id then { o with kind := kind } else o) }

/-- An acquire: behind the earlier loads and its own release, it bumps the classes of its scope, and where a bump wrapped
it is complete 64 cycles later (R374, R376). -/
def doAcquireComplete (k : BitVec 2) (id : Nat) (s : State) : Option State :=
  match s.queued k id with
  | some (⟨_, .acquire scope after, _, _⟩, pre) =>
    let behind := match after with | some r => pre.any (fun o => o.id == r) | none => false
    if pre.all (fun o => !o.kind.binds && !o.kind.isAcquire) && !behind && (s.clusterAt (clusterOf s.g)).flash ≤ s.tnow.toNat then
      let (s, wrapped) := s.refresh scope
      some (s.modCtxAt k (fun c => if wrapped then c.rekind id (.acquire 0 none) else c.unqueue id))
    else none
  | _ => none

-- Arrival objects

/-- The writes that an ARRIVE waits for are applied and its XFERs are over (R352). -/
def arriveReady (s : State) (k : BitVec 2) (waits : List Nat) : Bool :=
  waits.all (fun id => !(s.ctxAt k).mq.any (fun o => o.id == id) &&
    !s.cr.copies.any (fun m => m.id == id && !(match m.phase with | .failed _ => true | _ => false)))

/-- Earlier updates of the same context to an object. -/
def sameObject (pre : List MemOp) (r : ArrRef) : Bool :=
  pre.any (fun o => match o.kind with
    | .ainit q _ => q.g == r.g && q.byte == r.byte
    | .arrive q .. => q.g == r.g && q.byte == r.byte
    | _ => false)

/-- BARRIER_OVERRUN's information (R352). -/
def overrunInfo (r : ArrRef) (pc : Nat) : Word := BitVec.ofNat 64 (r.ref.toNat % 2 ^ 23 + pc * 2 ^ 23)

/-- AINIT and ARRIVE are applied at the object (R349 to R352). -/
def doArriveApply (k : BitVec 2) (id : Nat) (s : State) : Option State :=
  match s.queued k id with
  | some (⟨_, .ainit r n, _, _⟩, pre) =>
    if sameObject pre r || !fullAt s r.g r.byte || s.mergeReadsLine r.g (r.byte / 128) then none
    else
      let s := if s.objectPlain r then s.setObject r (ainitObject n) else s.logDiscard r
      some (s.modCtxAt k (fun c => c.unqueue id))
  | some (⟨_, .arrive r d n b pc waits, _, _⟩, pre) =>
    if sameObject pre r || pre.any (fun o => o.kind.isRelease) || s.copyReleasing k id || !arriveReady s k waits || !fullAt s r.g r.byte || s.mergeReadsLine r.g (r.byte / 128) then none
    else
      let refuse := fun (s : State) =>
        (s.modCtxAt k (fun c => (c.setX d (BitVec.allOnes 64)).unqueue id)).addDue k Code.barrierOverrun.num (overrunInfo r pc) none
      if !s.objectPlain r then some (refuse (s.logDiscard r))
      else
        let o := s.object r
        match arriveObject o n.toNat b with
        | (o', true) => some (refuse (s.setObject r o'))
        | (o', false) => some ((s.setObject r o').modCtxAt k (fun c => (c.setX d ((arrPh o).setWidth 64)).unqueue id))
  | _ => none

/-- Earlier AINITs of the same context to an object. -/
def sameInit (pre : List MemOp) (r : ArrRef) : Bool :=
  pre.any (fun o => match o.kind with
    | .ainit q _ => q.g == r.g && q.byte == r.byte
    | _ => false)

/-- A WAITPH whose object has left its phase: xd gets 0 and an acquire at CLUSTER scope precedes the next bundle; or whose bound has
passed: xd gets 1 (R353). The context's earlier updates of the object come first (R351); once the bound has passed only its AINITs
do. The test reads the object's bytes as they stand, its line empty or not plain too (a DESIGN CHOICE of the log). -/
def resolvePhase (k : BitVec 2) (s : State) : Option State :=
  let c := s.ctxAt k
  match c.waits.find? (fun w => match w with | .phase .. => true | _ => false) with
  | some (.phase d r ph deadline) =>
    let rest := c.waits.filter (fun w => w != .phase d r ph deadline)
    let passed := match deadline with | some t => t.toNat ≤ s.tnow.toNat | none => false
    if sameInit c.mq r || (!passed && sameObject c.mq r) then none
    else if arrPh (s.object r) != ph then
      let id := s.nextId
      some (({ s with nextId := id + 1 }).setCtxAt k { (c.setX d 0) with
        waits := rest, mq := c.mq ++ [({ id := id, kind := .acquire 1 none, hold := true } : MemOp)] })
    else if passed then some (s.setCtxAt k { (c.setX d 1) with waits := rest })
    else none
  | _ => none

/-- WAITPH_TIMEOUT: the bound of a pending WAITPH has passed (R353). -/
def doWaitphTimeout (k : BitVec 2) (s : State) : Option State := resolvePhase k s
/-- WAITPH_TIMEOUT (R353). -/
def execWaitphTimeout (s : State) : Host.Outcome State Fault Refusal :=
  match s.event with
  | some (.waitphTimeout k) => onEvent (doWaitphTimeout k s) s
  | _ => .next s

-- SIGNAL records

/-- A SIGNAL record is written to its slot once no earlier release or SIGNAL of its context is left (R102, R372). -/
def doSignalRecordWrite (k : BitVec 2) (id : Nat) (s : State) : Option State :=
  match s.queued k id with
  | some (⟨_, .signal at_ rec, _, _⟩, pre) =>
    if pre.all (fun o => !o.kind.isRelease && (match o.kind with | .signal .. => false | _ => true)) && !s.copyReleasing k id then
      let t := (s.ctxAt k).sys.tenant
      some ((s.modTenant t (fun te => { te with ring := te.ring.fill at_ rec })).modCtxAt k (fun c => c.unqueue id))
    else none
  | _ => none
/-- SIGNAL_RECORD_WRITE (R102). -/
def execSignalRecordWrite (s : State) : Host.Outcome State Fault Refusal :=
  match s.event with
  | some (.signalRecordWrite k id) => onEvent (doSignalRecordWrite k id s) s
  | _ => .next s

end Sys2Proof.Machine
end

