-- ==== Sys2Proof/Machine/Reduce.lean ====
section
/-! DEFINITION. The collective engines (R531 to R535): a contribution added exactly at its root, the results written once
every element is complete, and the updates of arrival objects that wait for their line (R349, R534). -/

namespace Sys2Proof.Machine

-- Updates of arrival objects that wait

/-- An update that waited is applied; after that of a reduction's note, the reduction's record is posted (R349, R534). -/
def applyUpdate (u : ObjUpdate) (s : State) : Option State :=
  if !fullAt s u.ref.g u.ref.byte then none
  else
    let s : State := { s with updates := s.updates.filter (fun v => v.id != u.id) }
    let s := if !s.objectPlain u.ref then s.logDiscard u.ref
      else if u.arrive then s.setObject u.ref (arriveObject (s.object u.ref) 1 0).1
      else s.setObject u.ref (subtractObject (s.object u.ref) u.bytes u.er)
    some (match u.rec_ with
      | some (t, r) => s.postRecord t r
      | none => s)

-- Reductions

/-- The size of an element (R532). -/
def Reduction.size (r : Reduction) : Nat := if r.bf16 then 2 else 4

/-- A reduction holds the elements of a range of its object, at an element boundary (R532). -/
def Reduction.takes (r : Reduction) (obj off len : Nat) : Bool :=
  r.obj == obj && r.off ≤ off && off + len ≤ r.off + r.nelem * r.size && (off - r.off) % r.size == 0 && len % r.size == 0

/-- The reduction that accepts a range (R532). -/
def State.reductionAt (s : State) (obj off len : Nat) : Option Reduction := s.reductions.find? (fun r => r.takes obj off len)

/-- One element's contribution added exactly; the last one rounds the result (R533). -/
def Reduction.add (r : Reduction) (e : Nat) (x : Nat) : Reduction :=
  let el := (tabGet r.elems e).getD {}
  if el.cnt = r.expect then { r with extra := true }
  else
    let (w, b) := wideOf (decodeF (if r.bf16 then 8 else 24) x)
    let el := { el with sum := el.sum + w, word := el.word ||| b, cnt := el.cnt + 1 }
    let el := if el.cnt = r.expect then
        let (v, wd) := wideRound (if r.bf16 then 8 else 24) el.sum el.word
        { el with res := BitVec.ofNat 32 v, word := wd }
      else el
    { r with elems := tabSet r.elems e el }

/-- The elements of a row of bytes added in order (R532). -/
def Reduction.addBytes (fuel : Nat) (r : Reduction) (e : Nat) (bytes : List (BitVec 8)) : Reduction :=
  match fuel with
  | 0 => r
  | n + 1 =>
    if bytes.isEmpty then r
    else Reduction.addBytes n (r.add e (leNat (bytes.take r.size))) (e + 1) (bytes.drop r.size)

/-- Every element has its contributions (R534). -/
def Reduction.complete (r : Reduction) : Bool := (r.elems.filter (fun e => e.2.cnt == r.expect)).length == r.nelem

/-- The results and the status word, with where they go: (offset, bytes) (R534). -/
def Reduction.output (r : Reduction) : List (Nat × List (BitVec 8)) :=
  let word := (r.elems.foldl (fun w e => w ||| e.2.word) 0) ||| (if r.extra then 64 else 0)
  r.elems.map (fun e => (r.off + e.1 * r.size, leBytes r.size e.2.res.toNat)) ++
    [(r.off + (r.nelem * r.size + 15) / 16 * 16, leBytes 4 word.toNat)]

/-- The pool home takes a write of the engine under the reduction's token (R429, R534). -/
def State.engineMayWrite (s : State) (obj off : Nat) (token : BitVec 64) : Bool :=
  let tp := s.pageToken obj (off / 65536)
  (token = 0 && tp = 0) ||
    (token = tp && s.homeLeases.any (fun l => l.write && l.token == token && s.tnow.toNat < l.until_ && l.obj == obj && l.page ≤ off / 65536 && off / 65536 < l.page + l.count))

/-- A record posted, where there is one. -/
def State.postSome (s : State) (t : BitVec 4) (r : Option Record) : State := match r with | some x => s.postRecord t x | none => s

/-- A complete reduction ends: results written, slots freed, then the note's update, after which the record is posted (R534). -/
def State.finishReduction (s : State) (r : Reduction) : State :=
  let out := r.output
  let ok := out.all (fun w => s.engineMayWrite r.obj w.1 r.token)
  let s : State := { s with reductions := s.reductions.filter (fun q => !(q.obj == r.obj && q.off == r.off)) }
  let s := if ok then out.foldl (fun s w => s.homeWrite true r.obj w.1 w.2) s else s
  let rec_ := if r.evt then some (Record.reduction r.obj r.off (if ok then 0 else 1)) else none
  match r.note, ok with
  | some n, true => { s with notes := s.notes ++ [(r.tenant, n, rec_)] }
  | _, _ => s.postSome r.tenant rec_

/-- Accepted bytes of a contribution added at the root (R533, R534). -/
def State.contribute (s : State) (r : Reduction) (off : Nat) (bytes : List (BitVec 8)) : State :=
  let r' := r.addBytes (bytes.length + 1) ((off - r.off) / r.size) bytes
  let s : State := { s with reductions := s.reductions.map (fun q => if q.obj == r.obj && q.off == r.off then r' else q) }
  if r'.complete then s.finishReduction r' else s

end Sys2Proof.Machine
end

