-- ==== Sys2Proof/Machine/Flits.lean ====
section
/-! DEFINITION. The flits that the package sends (R515 to R529): its place in the topology, ports and their lanes, routing, and
the sending of a flit through a port. -/

namespace Sys2Proof.Machine

-- The topology

/-- Torus mode (R528); else slot mode (R526). The fields of `tables` are the model's own encoding: mode in bit 0, the sizes of the
three dimensions less one from bit 4, 8 and 12, and the package's number from bit 16. -/
def Links.torus (l : Links) : Bool := l.tables % 2 = 1

/-- This package's number (R528). -/
def Links.self (l : Links) : Nat := bitsOf l.tables 27 16

/-- The size of a dimension, 0 for X, 1 for Y, 2 for Z. -/
def dimSize (tables d : Nat) : Nat := tables / 2 ^ (4 + 4 * d) % 16 + 1

/-- The packages that a topology names. -/
def endpoints (tables : Nat) : List Nat :=
  ((List.range (dimSize tables 2)).map (fun z => ((List.range (dimSize tables 1)).map (fun y =>
    (List.range (dimSize tables 0)).map (fun x => x + 16 * y + 256 * z))).flatten)).flatten

/-- The direction in which a flit leaves a package toward another: 0 to 5 for +X, −X, +Y, −Y, +Z, −Z; dimensions in order, the shorter way
round, ties the + way (R529). -/
def directionFrom (tables at_ dst : Nat) : Option Nat :=
  ([0, 1, 2] : List Nat).findSome? (fun d =>
    let n := dimSize tables d
    let a := at_ / 16 ^ d % 16
    let b := dst / 16 ^ d % 16
    let up := (b + n - a % n) % n
    if up = 0 then none else if 2 * up ≤ n then some (2 * d) else some (2 * d + 1))

/-- The direction in which a flit leaves this package. -/
def Links.direction (l : Links) (dst : Nat) : Option Nat := directionFrom l.tables l.self dst

/-- The package next to one in a direction (R528). -/
def neighbour (tables at_ d : Nat) : Nat :=
  let n := dimSize tables (d / 2)
  let a := at_ / 16 ^ (d / 2) % 16
  let b := if d % 2 = 0 then (a + 1) % n else (a + n - 1) % n
  at_ - a * 16 ^ (d / 2) + b * 16 ^ (d / 2)

/-- The packages that a flit passes and the direction in which it leaves each (R529); a way has at most 24 parts. -/
def wayFrom (tables dst : Nat) : Nat → Nat → List (Nat × Nat)
  | 0, _ => []
  | n + 1, at_ => match directionFrom tables at_ dst with
    | some d => (at_, d) :: wayFrom tables dst n (neighbour tables at_ d)
    | none => []

/-- A change to new tables affects the pair of this package and a destination: its mode, its way or its membership changes (R530). -/
def Links.affected (l : Links) (tables dst : Nat) : Bool :=
  l.tables % 2 != tables % 2 || bitsOf tables 27 16 != l.self ||
    (l.torus && wayFrom l.tables dst 24 l.self != wayFrom tables dst 24 l.self) ||
    (endpoints l.tables).contains dst != (endpoints tables).contains dst

/-- The ports of a direction (R528). -/
def dirPorts : Nat → List Nat
  | 0 => [0, 1, 2, 16, 17]
  | 1 => [3, 4, 5, 18, 19]
  | 2 => [6, 7, 20, 21, 22]
  | 3 => [8, 9, 23, 24, 25]
  | 4 => [10, 11, 12, 26, 27]
  | 5 => [13, 14, 28, 29, 30]
  | _ => []

/-- The ports that reach the neighbour in a direction: in a dimension of size 2 both directions reach it (R528). -/
def reachPorts (tables d : Nat) : List Nat :=
  if dimSize tables (d / 2) = 2 then dirPorts (d / 2 * 2) ++ dirPorts (d / 2 * 2 + 1) else dirPorts d

-- Ports

/-- The link die of a port, and its number among the dies of the health logs (R515, R543). -/
def portDie (p : Nat) : Nat := p / 16
def linkDie (ld : Nat) : Nat := 8 + ld

/-- A port, as it stands. -/
def Links.port (l : Links) (p : Nat) : Port := (tabGet l.ports p).getD {}

/-- The links changed. -/
def State.modLinks (s : State) (f : Links → Links) : State := { s with links := f s.links }

/-- A port changed. -/
def State.modPort (s : State) (p : Nat) (f : Port → Port) : State :=
  s.modLinks (fun l => { l with ports := tabSet l.ports p (f (l.port p)) })

/-- Lanes of a map. -/
def laneCount (m : BitVec 32) : Nat := ((List.range 32).filter (fun i => m.getLsbD i)).length

/-- A port carries traffic: at least 8 lanes each way (R516). -/
def Port.up (p : Port) : Bool := 8 ≤ laneCount p.txMap && 8 ≤ laneCount p.rxMap

/-- The flits that a port carries in a slot: 217 on 32 lanes, in proportion on fewer (R516, R526). -/
def Port.capacity (p : Port) : Nat := 217 * laneCount p.txMap / 32

/-- The ports that are up and through which a package is reached in torus mode. -/
def Links.portsTo (l : Links) (dst : Nat) : List Nat :=
  match l.direction dst with
  | some d => (reachPorts l.tables d).filter (fun p => (l.port p).up)
  | none => []

-- Flits

/-- A header (R518). -/
def flitHeader (type tenant dst src seq plen : Nat) : BitVec 96 :=
  BitVec.ofNat 96 (packFields [(type, 84), (tenant, 80), (dst % 4096, 68), (src % 4096, 56), (seq, 24), (plen, 16)])

/-- Fields of a header. -/
def hf (h : BitVec 96) (hi lo : Nat) : Nat := bitsOf h.toNat hi lo
def flitType (h : BitVec 96) : Nat := hf h 87 84
def flitDst (h : BitVec 96) : Nat := hf h 79 68
def flitSeq (h : BitVec 96) : BitVec 32 := BitVec.ofNat 32 (hf h 55 24)

/-- One byte of the CRC-32 of IEEE 802.3, reflected (R518). -/
def crcByte (c : BitVec 32) (b : BitVec 8) : BitVec 32 :=
  (List.range 8).foldl (fun c _ => if c.getLsbD 0 then (c >>> 1) ^^^ 0xEDB88320#32 else c >>> 1) (c ^^^ b.setWidth 32)

/-- CRC-32 of bytes: initial value and final exclusive or all ones (R518). -/
def crc32 (bs : List (BitVec 8)) : BitVec 32 := bs.foldl crcByte 0xFFFFFFFF#32 ^^^ 0xFFFFFFFF#32

/-- Bytes 0 to 251 of a flit (R518). -/
def flitBytes (h : BitVec 96) (payload : List (BitVec 8)) : List (BitVec 8) :=
  leBytes 12 h.toNat ++ payload.take 240 ++ List.replicate (240 - payload.length) 0

/-- A flit goes onto a port's fibres, with its CRC (R518). -/
def State.emit (s : State) (p : Nat) (h : BitVec 96) (payload : List (BitVec 8)) : State :=
  { s with sent := s.sent ++ [.flit p h payload (crc32 (flitBytes h payload))] }

/-- A header under a port's next link sequence number. -/
def Links.numbered (l : Links) (p : Nat) (h : BitVec 96) : BitVec 96 :=
  (h &&& (BitVec.allOnes 88).setWidth 96) ||| ((l.port p).txSeq.setWidth 96 <<< 88)

/-- A flit takes a port's next link sequence number and a place in its replay buffer of the last 256 (R518, R519). -/
def State.keepSent (s : State) (p : Nat) (h : BitVec 96) (payload : List (BitVec 8)) : State :=
  let kept := (s.links.port p).replay ++ [(s.links.numbered p h, payload)]
  s.modPort p (fun q => { q with txSeq := q.txSeq + 1, replay := kept.drop (kept.length - 256) })

/-- A flit sent through a port: every flit, of whatever type, is numbered and kept for a replay (R518, R519). -/
def State.transmit (s : State) (p : Nat) (h : BitVec 96) (payload : List (BitVec 8)) : State :=
  (s.keepSent p h payload).emit p (s.links.numbered p h) payload

/-- A link-control flit of a port (R518 type 5; its payload is the model's, of the log): at once in torus mode, in a slot granted to the port in slot
mode, where a port without a grant sends none (R527). -/
def State.control (s : State) (p : Nat) (payload : List (BitVec 8)) : State :=
  let h := flitHeader 5 0 0 s.links.self 0 payload.length
  if s.links.torus then s.transmit p h payload
  else
    let n := s.links.numbered p h
    (s.keepSent p h payload).modPort p (fun q => { q with resend := q.resend ++ [(n, payload)] })

/-- A flit that is not kept for a pair, forwarded or of type 4 or 6, leaves at once where a port of the torus reaches its destination, else waits
for one (R529). -/
def State.post (s : State) (ld : Nat) (h : BitVec 96) (payload : List (BitVec 8)) : State :=
  match s.links.torus, s.links.portsTo (flitDst h) with
  | true, p :: _ => s.transmit p h payload
  | _, _ => s.modLinks (fun l => { l with waiting := l.waiting ++ [(ld, h, payload)] })

-- Pairs

/-- The source side of a pair, as it stands. -/
def Links.out (l : Links) (dst : Nat) : PairOut := (tabGet l.outs dst).getD {}

/-- The source side of a pair changed. -/
def State.modOut (s : State) (dst : Nat) (f : PairOut → PairOut) : State :=
  s.modLinks (fun l => { l with outs := tabSet l.outs dst (f (l.out dst)) })

/-- A topology change under way lets no new flit into the pair with a destination (R530). -/
def Links.paused (l : Links) (dst : Nat) : Bool :=
  match l.change with
  | some c => l.affected c.tables dst
  | none => false

/-- The source may issue one more flit to a destination: its SEQ lies in the window, and no topology change holds new flits (R524,
R530). -/
def Links.mayIssue (l : Links) (dst : Nat) : Bool := (l.out dst).window > ((l.out dst).seq - (l.out dst).acked).toNat && !l.paused dst

/-- The flits kept for a destination that have not left and whose SEQ lies in the window (R524). -/
def PairOut.unsent (o : PairOut) : List OutFlit :=
  o.kept.filter (fun f => f.via.isNone && (flitSeq f.header - o.acked).toNat < o.window)

/-- A kept flit leaves through a port. -/
def State.sendKept (s : State) (dst p : Nat) (f : OutFlit) : State :=
  (s.transmit p f.header f.payload).modOut dst (fun o =>
    { o with kept := o.kept.map (fun g => if g.header == f.header then { g with via := some p } else g) })

/-- The port of the torus, other than one whose path has failed, through which a kept flit leaves: a Johel flit, of type 1 or 2, through one of its
link die (R515, R525). -/
def Links.portFor (l : Links) (dst : Nat) (failed : Option Nat) (f : OutFlit) : Option Nat :=
  (l.portsTo dst).find? (fun p => (3 ≤ flitType f.header || portDie p = f.ld) && failed != some p)

/-- The flits of a destination that may leave do so in torus mode (R525, R529). -/
def State.pump (s : State) (dst : Nat) (failed : Option Nat := none) : State :=
  if !s.links.torus then s
  else
    (s.links.out dst).unsent.foldl (fun s f => match s.links.portFor dst failed f with
      | some p => s.sendKept dst p f
      | none => s) s

/-- Slot mode: a port sends to the destination granted for the slot, at most `n` flits: first those to be sent again, in order, as far as they are for
it, then those of its link die that wait, then those kept (R519, R526, R527). -/
def State.pumpSlot (s : State) (p dst n : Nat) : State :=
  let again := ((s.links.port p).resend.takeWhile (fun f => flitType f.1 = 5 || flitDst f.1 = dst)).take n
  let s := again.foldl (fun s f => s.emit p f.1 f.2) (s.modPort p (fun q => { q with resend := q.resend.drop again.length }))
  if !(s.links.port p).resend.isEmpty then s
  else
    let wait := (s.links.waiting.filter (fun w => w.1 == portDie p && flitDst w.2.1 == dst)).take (n - again.length)
    let s := wait.foldl (fun s w => s.transmit p w.2.1 w.2.2) (s.modLinks (fun l => { l with waiting := wait.foldl List.erase l.waiting }))
    let go := ((s.links.out dst).unsent.filter (fun f => f.ld == portDie p)).take (n - again.length - wait.length)
    go.foldl (fun s f => s.sendKept dst p f) s

/-- A flit enters the pair with a destination: it takes the next SEQ and is kept; in torus mode it leaves at once where it may (R523 to R525). -/
def State.enterPair (s : State) (dst : Nat) (f : OutFlit) : State :=
  (s.modOut dst (fun o =>
    { o with seq := o.seq + 1, kept := o.kept ++ [{ f with header := f.header ||| (o.seq.setWidth 96 <<< 24) }] })).pump dst

/-- A flit of types 1 to 3 issued to a destination; a topology change that affects the pair keeps it back (R523, R530). -/
def State.issueFlit (s : State) (type tenant dst ld : Nat) (payload : List (BitVec 8)) (id : Nat) : State :=
  let f : OutFlit := { id := id, ld := ld, header := flitHeader type tenant dst s.links.self 0 payload.length, payload := payload }
  if s.links.paused dst then s.modOut dst (fun o => { o with held := o.held ++ [f] }) else s.enterPair dst f

/-- The flits that a topology change kept back enter their pairs (R530). -/
def State.admitHeld (s : State) : State :=
  s.links.outs.foldl (fun s o => o.2.held.foldl (fun s f => s.enterPair o.1 f) (s.modOut o.1 (fun o => { o with held := [] }))) s

/-- Torus mode: what waits leaves, as far as there are ports for it (R516). -/
def State.relay (s : State) : State :=
  if !s.links.torus then s
  else
    let s := s.links.waiting.foldl (fun s w => s.post w.1 w.2.1 w.2.2) (s.modLinks (fun l => { l with waiting := [] }))
    s.links.outs.foldl (fun s o => s.pump o.1) s

/-- The kept flits for which `moved` holds are to be sent again. -/
def Links.unsend (l : Links) (moved : Nat → OutFlit → Bool) : Links :=
  { l with outs := l.outs.map (fun o => (o.1, { o.2 with kept := o.2.kept.map (fun f => if moved o.1 f then { f with via := none } else f) })) }

/-- The traffic of a port that is down moves to others that reach the same destination (R516). -/
def State.movePort (s : State) (p : Nat) : State :=
  if (s.links.port p).up then s.relay
  else
    let moved := (s.links.port p).resend.filter (fun f => flitType f.1 = 4 || flitType f.1 = 6)
    let s := s.modLinks (fun l => { (l.unsend (fun _ f => f.via == some p)) with
      waiting := l.waiting ++ moved.map (fun f => (portDie p, f.1, f.2)) })
    (s.modPort p (fun q => { q with resend := q.resend.filter (fun f => flitType f.1 = 5) })).relay

end Sys2Proof.Machine
end

