-- ==== Sys2Proof/Machine/Operands.lean ====
section
/-! DEFINITION. Vector operands: names and groups (R33, R189), their checks in the order of R238, lanes and masks (R233,
R234), and the issue of a vector word with its results in flight (R49 to R55, R235 to R237). -/

namespace Sys2Proof.Machine

-- Lanes

/-- The lanes of width `w` of a register, from lane 0 (R233). -/
def lanesOf (w : Nat) (v : VReg) : List Nat := (List.range (2048 / w)).map (fun i => v.toNat / 2 ^ (w * i) % 2 ^ w)

/-- One lane (R233). -/
def laneAt (w : Nat) (v : VReg) (i : Nat) : Nat := v.toNat / 2 ^ (w * i) % 2 ^ w

/-- The number whose lanes of width `w` are given, from lane 0. -/
def packNat (w : Nat) : List Nat → Nat
  | [] => 0
  | x :: xs => x % 2 ^ w + 2 ^ w * packNat w xs

/-- The register whose lanes are given. -/
def packLanes (w : Nat) (l : List Nat) : VReg := BitVec.ofNat 2048 (packNat w l)

/-- An integer as the bits of a lane. -/
def laneInt (w : Nat) (i : Int) : Nat := (i % 2 ^ w).toNat

/-- The bytes that the enabled lanes cover (R234). -/
def laneBytes (w : Nat) (k : BitVec 256) : BitVec 256 :=
  if k = BitVec.allOnes 256 then k
  else BitVec.ofNat 256 (packNat (w / 8) ((List.range (2048 / w)).map (fun i => if k.getLsbD i then 2 ^ (w / 8) - 1 else 0)))

/-- Each bit of a register's byte mask as eight bits. -/
def expandBytes (m : BitVec 256) : VReg :=
  if m = BitVec.allOnes 256 then BitVec.allOnes 2048
  else BitVec.ofNat 2048 (packNat 8 ((List.range 256).map (fun i => if m.getLsbD i then 255 else 0)))

-- Names

/-- The first relative line of register `j` of a group named from `code`, with the windows before the bundle (R189). -/
def regLine (c : Ctx) (code : BitVec 6) (j : Nat) : Nat :=
  if code.toNat < 32 then c.sys.vwb.toNat + 2 * (code.toNat + j)
  else c.sys.vrw.toNat + 2 * ((c.sys.vrb.toNat + (code.toNat - 32 + j)) % c.sys.vrs.toNat)

/-- A bypass register's name (R33). -/
def isBypass (code : BitVec 6) : Bool := code == 30 || code == 31

/-- The relative lines of a group, in order; a bypass register has none (R189). -/
def groupLines (c : Ctx) (code : BitVec 6) (n : Nat) : List Nat :=
  if isBypass code then []
  else ((List.range n).map (fun j => [regLine c code j, regLine c code j + 1])).flatten

/-- The key of a relative line of the context at hand. -/
def relKey (s : State) (c : Ctx) (l : Nat) : Nat := lineKey s.g (c.sys.allocBase.toNat + l)

/-- The physical line of a relative line (R186). -/
def physLine (c : Ctx) (l : Nat) : Nat := c.sys.allocBase.toNat + l

/-- The 256 bytes that start at a relative line. -/
def regAtLine (s : State) (c : Ctx) (l : Nat) : VReg :=
  (s.lineAt (relKey s c l)).setWidth 2048 ||| (s.lineAt (relKey s c (l + 1))).setWidth 2048 <<< 1024

/-- A bypass register of the core (R54). -/
def bypassOf (s : State) (code : BitVec 6) : Bypass := if code = 30 then s.cr.bp0 else s.cr.bp1

/-- The registers that an operand names, as they stand (R33, R189). -/
def operandRegs (s : State) (c : Ctx) (code : BitVec 6) (n : Nat) : List VReg :=
  if isBypass code then [(bypassOf s code).val]
  else (List.range n).map (fun j => regAtLine s c (regLine c code j))

/-- A source operand: its name and the registers of its own group. -/
structure Source where
  code : BitVec 6
  n : Nat
  deriving DecidableEq, Repr

/-- Whether any line or bypass register of a source is empty (R50). -/
def Source.isEmpty (s : State) (c : Ctx) (o : Source) : Bool :=
  if isBypass o.code then !(bypassOf s o.code).full
  else (groupLines c o.code o.n).any (fun l => !(s.metaAt (relKey s c l)).full)

-- Checks

/-- LINE_RANGE for the first relative line outside the allotment (R186). -/
def lineRangeTrap (slot : Slot) (c : Ctx) (ls : List Nat) : Option Trap :=
  (ls.find? (fun l => c.sys.allocSize.toNat ≤ l)).map
    (fun l => { code := Code.lineRange.num, trapi := BitVec.ofNat 64 (slot.index + l % 2 ^ 24 * 256) })

/-- TRAPI of a form fault: the operand code and the relative line (R238). -/
def formInfo (code : BitVec 6) (l : Nat) : Word := BitVec.ofNat 64 (code.toNat + l % 2 ^ 24 * 256)

/-- The form fault of a source line that is full: poison raises INTEGRITY, cipher FORM (R193, R238). -/
def sourceFormTrap (s : State) (c : Ctx) (o : Source) : Option Trap :=
  firstTrap ((groupLines c o.code o.n).map (fun l =>
    let m := s.metaAt (relKey s c l)
    if !m.full then none
    else
      match m.form with
      | .plain => none
      | .poison => some { code := Code.integrity.num, trapi := formInfo o.code l }
      | .cipher => some { code := Code.form.num, trapi := formInfo o.code l }))

/-- A line that an operation writes: its relative number, its data and which of its bytes are written. -/
structure DstLine where
  rel : Nat
  data : LineData := 0
  mask : BitVec 128 := BitVec.allOnes 128
  deriving DecidableEq, Repr

/-- FORM for a full line that is not plain and would be written only in part (R194, R238). -/
def destFormTrap (s : State) (c : Ctx) (code : BitVec 6) (ds : List DstLine) : Option Trap :=
  firstTrap (ds.map (fun d =>
    let m := s.metaAt (relKey s c d.rel)
    trapIf (m.full && m.form != .plain && d.mask != BitVec.allOnes 128) { code := Code.form.num, trapi := formInfo code d.rel }))

/-- EMPTY_TRAP: a T word with an empty vector operand source; TRAPI holds the first empty operand's code in the order vd
as a read, va, vb (R50). -/
def emptyTrap (s : State) (c : Ctx) (t : BitVec 1) (os : List Source) : Option Trap :=
  if t = 0 then none
  else (os.find? (fun o => o.isEmpty s c)).map (fun o => { code := Code.emptyTrap.num, trapi := o.code.setWidth 64 })

-- Waits

/-- A scrub step holds a line of the core at hand (R196). -/
def State.scrubHolds (s : State) (line : Nat) : Bool := s.cr.scrubs s.tnow line

/-- The wait on a line that a scrub step holds, or that is empty: short when a result in flight fixes its fill cycle, else an engine wait (R50, R51, R75). -/
def lineHold (s : State) (c : Ctx) (l : Nat) : Option Hold :=
  if (s.metaAt (relKey s c l)).full then holdIf (s.scrubHolds (physLine c l)) .short
  else if s.cr.lineFixed (physLine c l) then some .short else some .engine

/-- A bypass register still to be filled by a gather has no fixed cycle (R278). -/
def Core.gatherPending (c : Core) : Bool := c.flights.any (fun f => match f.what with | .gather _ _ fills => fills | _ => false)

/-- The wait on a source operand. -/
def sourceHold (s : State) (c : Ctx) (o : Source) : Option Hold :=
  if isBypass o.code then
    holdIf (!(bypassOf s o.code).full) (if o.code = 30 && s.cr.gatherPending then .engine else .short)
  else joinHolds ((groupLines c o.code o.n).map (lineHold s c))

/-- The wait on a mask register that a compare has yet to write (R55). -/
def maskHold (c : Ctx) (k : BitVec 3) : Option Hold := holdIf (c.kEmpty k) .short

-- Words

/-- What a vector word reads. `early` are its value-dependent ILLEGAL checks. -/
structure VWord where
  u : VUnit
  t : BitVec 1 := 0
  busy : Nat
  weight : Nat
  k : BitVec 3 := 0
  xs : List (BitVec 6) := []
  /-- Sources in the order of their form checks: va, vb, then vd where it is read (R238). -/
  srcs : List Source := []
  /-- vd is read as a source, last of `srcs`; EMPTY_TRAP ranks it first (R50). -/
  readsD : Bool := false
  /-- The destination's name, and every relative line it touches, for the range check. -/
  dst : BitVec 6 := 0
  dstRange : List Nat := []
  /-- The lines it writes are known: VINS.32 writes the one that a scalar register selects (R271, R29). -/
  dstKnown : Bool := true
  early : Option Trap := none

/-- What a vector word computes from what it read. -/
structure VOut where
  lines : List DstLine := []
  bypass : Option VReg := none
  flags : Option (BitVec 5) := none
  amax : Option (BitVec 32) := none
  mask : Option (BitVec 3 × BitVec 256) := none
  xreg : Option (BitVec 6 × Word) := none
  /-- CTAB written at the end of the issue cycle (R273). -/
  ctab : Option (Vector Word 4) := none

/-- The vector slot of a unit. -/
def vslot : VUnit → Slot
  | .a => .va
  | .b => .vb

/-- A unit's bypass register replaced. -/
def Core.setBypass (c : Core) (u : VUnit) (b : Bypass) : Core :=
  match u with
  | .a => { c with bp0 := b }
  | .b => { c with bp1 := b }

/-- A unit's bypass register. -/
def Core.bypass (c : Core) : VUnit → Bypass
  | .a => c.bp0
  | .b => c.bp1

/-- A unit's bypass register emptied for an operation that writes a result: no earlier one fills it any more (R54). -/
def Core.takeBypass (c : Core) (u : VUnit) : Core :=
  let c : Core := { c with flights := (c.flights.filter (fun f => match f.what with | .bypass v _ => v != u | _ => true)).map (fun f =>
    match f.what with
    | .gather ws v b => { f with what := .gather ws v (b && u != .a) }
    | _ => f) }
  c.setBypass u { (c.bypass u) with full := false }

/-- The lines of a group still to be read at later beats (R52): `grp` registers a beat, `per` cycles a beat. -/
def laterReads (c : Ctx) (cyc per grp : Nat) (o : Source) : List (Nat × Nat) :=
  if isBypass o.code then []
  else ((List.range o.n).map (fun j =>
    let at_ := cyc + j / grp * per
    if j < grp then [] else [(physLine c (regLine c o.code j), at_), (physLine c (regLine c o.code j + 1), at_)])).flatten

/-- The registers of a destination group that starts at a code, as names (R26, R29). -/
def nameDests (code : BitVec 6) (n : Nat) : List Dest := (List.range n).map (fun j => .v (code + BitVec.ofNat 6 j))

/-- The names of a word's destination group; a group whose last line is not written counts its register. -/
def VWord.names (w : VWord) : List Dest := nameDests w.dst ((w.dstRange.length + 1) / 2)

/-- The bundle's destinations of a vector word as R26 compares them. -/
def VOut.dests (o : VOut) : List Dest :=
  (match o.mask with | some (r, _) => [.k r] | none => []) ++
  (match o.xreg with | some (r, _) => [.x r] | none => []) ++
  (match o.ctab with | some _ => [44, 45, 46, 47].map Dest.sys | none => [])

/-- The results of a vector word put in flight at its issue, its operands resolved in the context before the bundle (R20): destinations empty until they land (R49, R53 to R55, R237). -/
def launchVector (c : Ctx) (w : VWord) (o : VOut) (s : State) : State :=
  let u := vslot w.u
  let k := s.cr.cur
  let cyc := s.cr.cyc
  let b := w.busy
  let s := o.lines.foldl (fun s d => s.setFull (relKey s c d.rel) false) s
  let s := { s with cr := { s.cr with reads := s.cr.reads ++ (w.srcs.map (laterReads c cyc (b / max 1 ((w.srcs.map Source.n).foldl max 1)) 1)).flatten } }
  let s := match o.bypass with
    | some v => ({ s with cr := s.cr.takeBypass w.u }).addFlight u k (cyc + b + 1) (.bypass w.u v)
    | none => s
  let s := match o.mask with
    | some (r, v) => (s.modCtx (fun c => c.setK r { bits := c.kVal r, full := false })).addFlight u k (cyc + b + 1) (.mask r v)
    | none => s
  let s := if o.lines.isEmpty then s
    else s.addFlight u k (cyc + b + 4) (.lines (o.lines.map (fun d => { line := physLine c d.rel, data := d.data, mask := d.mask })))
  let s := match o.flags with
    | some f => s.addFlight u k (cyc + b + 4) (.fstat f)
    | none => s
  let s := match o.amax with
    | some m => s.addFlight u k (cyc + b + 4) (.amax m)
    | none => s
  let s := match o.xreg with
    | some (r, v) => (s.modCtx (fun c => c.emptyX r)).addFlight u k (cyc + b + 4) (.xreg r v)
    | none => s
  match o.ctab with
  | some v => (s.addFlight u k (cyc + b + 1) (.ctab s.ctx.sys.ctab)).modCtx (fun c => { c with sys := { c.sys with ctab := v } })
  | none => s

/-- A vector word's contribution to its bundle: the checks of R238 in order, its waits, and its results. `out` is computed
from the state before the bundle (R20). -/
def vectorRes (w : VWord) (out : VOut) (s : State) : SlotRes :=
  let c := s.ctx
  let ranges := (w.srcs.map (fun o => groupLines c o.code o.n)).flatten ++ w.dstRange
  let range := lineRangeTrap (vslot w.u) c ranges
  let order := if w.readsD then w.srcs.drop (w.srcs.length - 1) ++ w.srcs.take (w.srcs.length - 1) else w.srcs
  let lines := if w.dstKnown then out.lines else []
  let lw := lineWriteWait s (lines.map (fun d => physLine c d.rel))
  let own := firstTrap ([w.early, range] ++ w.xs.map (xPoisonTrap c) ++ [emptyTrap s c w.t order] ++
    w.srcs.map (sourceFormTrap s c) ++ [if c.kEmpty w.k then none else destFormTrap s c w.dst lines])
  { slot := vslot w.u
    dests := w.names ++ out.dests
    lineDests := w.dstRange.map (physLine c)
    engine := some (w.busy, w.weight)
    trap := match own with | some t => some t | none => lw.1
    onTrap := if own.isSome then id else lw.2.1
    hold := joinHolds (w.xs.map (xHold c) ++ [maskHold c w.k] ++ w.srcs.map (sourceHold s c) ++
      lines.map (fun d => lineHold s c d.rel) ++
      [match out.mask with | some (r, _) => holdIf (c.kEmpty r) .short | none => none,
       match out.xreg with | some (r, _) => xHold c r | none => none, lw.2.2])
    effect := launchVector c w out }

/-- The lines of registers of a destination group: register `j` of the group gets the data and byte mask given. -/
def regLines (c : Ctx) (code : BitVec 6) (rs : List (VReg × BitVec 256)) : List DstLine :=
  (rs.zipIdx.map (fun r =>
    let l := regLine c code r.2
    [{ rel := l, data := r.1.1.setWidth 1024, mask := r.1.2.setWidth 128 },
     { rel := l + 1, data := (r.1.1 >>> 1024).setWidth 1024, mask := (r.1.2 >>> 128).setWidth 128 }])).flatten

/-- The bypass value of a destination register: the bytes written, the others zero (R235). -/
def bypassValue (v : VReg) (m : BitVec 256) : VReg := v &&& expandBytes m

/-- Whole-register results: lines of the group and the last register in the bypass (R235). -/
def regOut (c : Ctx) (code : BitVec 6) (rs : List (VReg × BitVec 256)) (flags : Option (BitVec 5)) : VOut :=
  { lines := regLines c code rs
    bypass := some (match rs.getLast? with | some (v, m) => bypassValue v m | none => 0)
    flags := flags }

end Sys2Proof.Machine
end

