-- ==== Sys2Proof/Machine/Copy.lean ====
section
/-! DEFINITION. The block-transfer engine (R317 to R346): the copy commands at issue, and what the engine does with them. -/

namespace Sys2Proof.Machine

-- The extent

/-- Rows of the extent (R328). -/
def Desc.nrows (d : Desc) (op : CopyOp) : Nat := if op = .bget then 1 else max d.rows.toNat 1

/-- Lines of a row (R328). -/
def Desc.rowLines (d : Desc) : Nat := (d.len.toNat + 127) / 128

/-- The address of row `k` on the remote side (R328, R340). -/
def Desc.rowAddr (d : Desc) (op : CopyOp) (k : Nat) : Nat :=
  let off : Nat := if op = .xfer then ((d.off.setWidth 60).signExtend 64).toNat else d.off.toNat
  (d.cap.cursor.toNat + off + k * d.rstr.toNat) % 2 ^ 64

/-- A piece of a copy: row and line of the row. -/
def pieceNum (row j : Nat) : Nat := row * 2 ^ 18 + j

/-- The pieces of the extent in order (R328). -/
def Desc.pieces (d : Desc) (op : CopyOp) : List Nat :=
  ((List.range (d.nrows op)).map (fun k => (List.range d.rowLines).map (pieceNum k))).flatten

/-- A piece's relative line, remote address, bytes, and index of its first byte within the extent (R328, R337). -/
def Desc.pieceLine (d : Desc) (p : Nat) : Nat := d.line.toNat + p / 2 ^ 18 * d.lstr.toNat + p % 2 ^ 18
def Desc.pieceAddr (d : Desc) (op : CopyOp) (p : Nat) : Nat := (d.rowAddr op (p / 2 ^ 18) + p % 2 ^ 18 * 128) % 2 ^ 64
def Desc.pieceLen (d : Desc) (p : Nat) : Nat := min 128 (d.len.toNat - p % 2 ^ 18 * 128)
def Desc.pieceByte (d : Desc) (p : Nat) : Nat := p / 2 ^ 18 * d.len.toNat + p % 2 ^ 18 * 128

/-- Bytes of the whole copy (R328). -/
def Desc.bytes (d : Desc) (op : CopyOp) : Nat := d.nrows op * d.len.toNat

/-- The relative local lines of every row (R328). -/
def Desc.localLines (d : Desc) (op : CopyOp) : List Nat := (d.pieces op).map d.pieceLine

/-- The descriptor that a copy word names. -/
def Ctx.desc (c : Ctx) (d : BitVec 4) : Desc := c.d[d.toNat]

/-- A copy slot's number (R17). -/
def cslot : CUnit → Slot
  | .a => .ca
  | .b => .cb

-- Checks at issue

/-- The encodings and descriptor contents that R327 makes ILLEGAL. -/
def copyIllegal (op : CopyOp) (d : Desc) (acqrel : Bool) (scope : BitVec 3) : Bool :=
  let len := d.len.toNat
  let rows := d.rows.toNat
  (scope != 0 && !acqrel) || len == 0 || d.nrows op * len > 2 ^ 24 ||
    (op.fillsLines && rows ≥ 2 && d.lstr.toNat < d.rowLines) ||
    (op.holdsLines && rows ≥ 2 && d.rstr.toNat < len) ||
    (op == .bget && (acqrel || rows > 2))

/-- The reference of a copy: its xa, else the descriptor's ARR, else none (R347). -/
def copyRef (c : Ctx) (x : BitVec 6) (d : Desc) : Option Word :=
  if x != 0 then some (c.xVal x) else if d.arrV then some (d.arrIdx.setWidth 64) else none

/-- The placement of another stage of the same gang (R340, R341). -/
def State.stagePlacement (s : State) (c : Ctx) (st : BitVec 4) : Option Placement :=
  s.placements.find? (fun p => p.tenant == c.sys.tenant && p.launch == c.sys.launch && p.gang == c.sys.gang && p.stage == st)

/-- The destination stage of an XFER (R340). -/
def Desc.stage (d : Desc) : BitVec 4 := d.off.extractLsb' 60 4

/-- Where a copy's reference leads: XFER's cluster form lies in the destination stage's region (R341). -/
def copyRefPlace (s : State) (c : Ctx) (op : CopyOp) (d : Desc) (ref : Word) : RefPlace :=
  resolveRef s c (if op = .xfer then s.stagePlacement c d.stage else s.placementOf c) ref

/-- A region of a protected world that holds a page of an object (R470). -/
def State.regionOf (s : State) (w : BitVec 4) (obj page : Nat) : Option (Nat × Region) :=
  match tabGet s.worlds w.toNat with
  | none => none
  | some wd => wd.regions.find? (fun e => e.2.kind != 0 && e.2.obj == obj && e.2.page0 ≤ page && page < e.2.page0 + e.2.pages)

/-- The line index of an address in its region (R470). -/
def Region.index (r : Region) (a : Nat) : Nat := (a % 2 ^ 40 - r.page0 * 65536) / 128

/-- A cipher line may be put at an address: its own place in a writable region whose state is held, under the region's
major counter (R474). -/
def State.putFits (s : State) (w : BitVec 4) (m : LineMeta) (sp : Option Space) (a n : Nat) : Bool :=
  match sp, m.attach with
  | some .local, some t | some .pool, some t =>
    match s.regionOf w (a / 2 ^ 40) (a % 2 ^ 40 / 65536) with
    | some (r, reg) =>
      reg.kind != 3 && (reg.state == 1 || reg.state == 2) && a % 128 == 0 && n == 128 && t.region == r && !t.tree &&
        t.index == reg.index a && t.major == reg.major
    | none => false
  | _, _ => false

/-- WORLD at step 3 of R330 (R467, R474): the first source line that a protected world may not send as it stands. -/
def copyWorldTrap (s : State) (c : Ctx) (slot : Nat) (op : CopyOp) (d : Desc) : Option Trap :=
  if c.sys.world = 0 || !op.holdsLines || op == .xfer then none
  else
    let sp := spaceOf d.cap.space
    if op = .put && sp == some .scratch then none
    else
      let bad := (d.pieces op).find? (fun p =>
        op == .putr ||
        (let m := s.metaAt (relKey s c (d.pieceLine p))
         m.full && (match m.form with
          | .plain => true
          | .cipher => !s.putFits c.sys.world m sp (d.pieceAddr op p) (d.pieceLen p)
          | .poison => false)))
      bad.map (fun p => { code := Code.world.num, trapi := BitVec.ofNat 64 (slot + d.pieceLine p % 2 ^ 24 * 256) })

/-- The permission a command needs (R329). -/
def CopyOp.perm (op : CopyOp) : Perm := if op.holdsLines then .cpout else .cpin

/-- The spaces a command's capability may name (R329). -/
def CopyOp.spaces : CopyOp → List Space
  | .xfer => [.scratch]
  | .bget => [.pool]
  | .putr => [.pool]
  | _ => allSpaces

/-- The lowest address of the extent outside the bounds (R330). -/
def boundsFail (d : Desc) (op : CopyOp) : Option Nat :=
  let (base, top) := boundsOf d.cap
  let len := d.len.toNat
  (List.range (d.nrows op)).foldl (fun best k =>
    let a := d.rowAddr op k
    let f := if a < base then some a else if a + len > top then some (max a top) else none
    match best, f with
    | none, f => f
    | some b, some x => some (min b x)
    | b, none => b) none

/-- The object that a command's capability reaches: that of the extent, which lies in the bounds; GETP's, whose extent need not, that of the
bounds (R339). -/
def Desc.capObj (d : Desc) (op : CopyOp) : Nat := if op = .getp then (boundsOf d.cap).1 / 2 ^ 40 else d.rowAddr op 0 / 2 ^ 40

/-- The generation of the snapshot's capability is not its object's (R178). -/
def Desc.isStale (s : State) (d : Desc) (op : CopyOp) : Bool :=
  match spaceOf d.cap.space with
  | some .local | some .pool => stale s d.cap (d.capObj op)
  | _ => false

/-- The capability checks of a copy in the order of R124 (R175, R330). -/
def copyCapTraps (s : State) (op : CopyOp) (d : Desc) : List (Option Trap) :=
  let a0 := BitVec.ofNat 64 (d.rowAddr op 0)
  let cap := d.cap
  let lease := op == .bget && d.rows != 0
  let badSpace := match spaceOf cap.space with | some p => !op.spaces.contains p | none => true
  [addrTrap (!cap.tag) .capTag a0,
   addrTrap (cap.otype != 0) .capSealed a0,
   addrTrap (!cap.has op.perm || (lease && !cap.has .lease)) .capPerm a0,
   addrTrap badSpace .capSpace a0,
   (if op = .getp then none else (boundsFail d op).map (fun a => { code := Code.capBounds.num, trapi := BitVec.ofNat 64 a })),
   addrTrap (d.isStale s op) .capStale a0]

/-- XFER's fault information (R340). -/
def xferInfo (slot : Nat) (a : Nat) (st : BitVec 4) : Word := BitVec.ofNat 64 (slot + a % 2 ^ 52 * 256 + st.toNat * 2 ^ 60)

/-- The stage count of a launch (R491); a launch that the package does not list has the stages that are placed. -/
def State.stageCount (s : State) (c : Ctx) : Nat :=
  match s.launchOf c with
  | some l => bitsOf l.header.toNat 41 38 + 1
  | none => (s.placements.filter (fun p => p.tenant == c.sys.tenant && p.launch == c.sys.launch && p.gang == c.sys.gang)).length

/-- XFER's addressing faults (R340). -/
def xferTraps (s : State) (c : Ctx) (slot : Nat) (d : Desc) : List (Option Trap) :=
  let st := d.stage
  let rows := List.range (d.nrows .xfer)
  let row := fun (k : Nat) => d.rowAddr .xfer k
  let info := fun (code : Code) (k : Nat) => ({ code := code.num, trapi := xferInfo slot (row k) st } : Trap)
  let place := s.stagePlacement c st
  let inRegion := fun (k : Nat) => match place with
    | some p => (s.resolveIn p (row k) d.len.toNat).isSome
    | none => false
  [trapIf (s.stageCount c ≤ st.toNat) (info .lineRange 0),
   firstTrap (rows.map (fun k => firstTrap [trapIf (row k % 128 != 0) (info .align k), trapIf (!inRegion k) (info .lineRange k)]))]

/-- LINE_RANGE for a scratchpad-space row outside the gang's region on its core (R149, R338); GETP makes no access
outside the bounds (R339). -/
def scratchRowTrap (s : State) (c : Ctx) (op : CopyOp) (d : Desc) : Option Trap :=
  if spaceOf d.cap.space != some .scratch || op == .xfer then none
  else
    let (base, top) := boundsOf d.cap
    firstTrap ((List.range (d.nrows op)).map (fun k =>
      let a := d.rowAddr op k
      let lo := if op = .getp then max a base else a
      let hi := if op = .getp then min (a + d.len.toNat) top else a + d.len.toNat
      trapIf (lo < hi && (resolveScratch s c lo (hi - lo)).isNone) { code := Code.lineRange.num, trapi := BitVec.ofNat 64 lo }))

/-- The destination range that the tracker and a copy's release use (R331, R368); a BGET's is its remote extent (a DESIGN CHOICE of the log: the
rules list none for it). -/
def copyRange (s : State) (c : Ctx) (op : CopyOp) (d : Desc) : Range :=
  if op.fillsLines then
    let first := match s.placementOf c with
      | some p => match tabGet p.cores c.sys.lcore.toNat with | some (_, base, _) => base | none => c.sys.allocBase.toNat
      | none => c.sys.allocBase.toNat
    let at_ := fun (l : Nat) => c.sys.lcore.toNat * 2 ^ 22 + (c.sys.allocBase.toNat + l - first) * 128
    let last := d.nrows op - 1
    { space := 1, obj := c.sys.lcore.toNat, base := at_ d.line.toNat
      top := at_ (d.line.toNat + last * d.lstr.toNat + d.rowLines) }
  else
    let a := d.rowAddr op 0
    { space := d.cap.space.toNat, obj := rangeObj d.cap.space.toNat a, base := a
      top := a + (d.nrows op - 1) * d.rstr.toNat + d.len.toNat }

/-- The pages of a BGET's extent (R342). -/
def Desc.bgetPages (d : Desc) : List Nat :=
  let o := d.rowAddr .bget 0 % 2 ^ 40
  let first := o / 65536
  (List.range ((o + d.len.toNat - 1) / 65536 + 1 - first)).map (first + ·)

/-- A copy command's entry in the buffer, as it stands at issue (R319, R325, R331). -/
def newCopy (op : CopyOp) (k : BitVec 2) (c : Ctx) (tnow : Word) (pc slot id : Nat) (d : Desc) (acq rel timed : Bool)
    (scope : BitVec 3) (tag : BitVec 8) (ref : Option ArrRef) : Copy :=
  { id := id, k := k, op := op, desc := d, scope := scope, acq := if acq then some scope else none, rel := rel
    timed := timed, tag := tag, slot := slot, pc := pc, ref := ref
    phase := if timed && (lclk tnow c).toNat < d.time.toNat then .timed else .eligible tnow.toNat
    todo := if op = .bget then d.bgetPages else d.pieces op
    lines := if op = .bget then [] else (d.localLines op).map (physLine c)
    unfilled := []
    bytesLeft := d.bytes op }

/-- A copy command put into the buffer: its destination lines empty, its range in the tracker (R317, R331). -/
def startCopy (op : CopyOp) (slot : Nat) (d : Desc) (acq rel timed : Bool) (scope : BitVec 3) (tag : BitVec 8) (ref : Option ArrRef)
    (range : Range) (s : State) : State :=
  let c := s.ctx
  let k := s.cr.cur
  let id := s.nextId
  let m := newCopy op k c s.tnow c.pc.toNat slot id d acq rel timed scope tag ref
  let fill := if op.fillsLines then m.lines.map (lineKey s.g) else []
  let s := fill.foldl (fun s key => s.setFull key false) s
  let s : State := { s with nextId := id + 1, cr := { s.cr with copies := s.cr.copies ++ [{ m with unfilled := fill }] } }
  s.modCtx (fun c => c.record .copy id range)

/-- The lines of the core at hand that a PUT to scratchpad space writes (R299, R314). -/
def putLines (s : State) (c : Ctx) (op : CopyOp) (d : Desc) : List Nat :=
  if op != .put || spaceOf d.cap.space != some .scratch then []
  else ((d.pieces op).map (fun p =>
    match resolveScratch s c (d.pieceAddr op p) (d.pieceLen p) with
    | some (g, byte) => if g = s.g then [byte / 128, (byte + d.pieceLen p - 1) / 128] else []
    | none => [])).flatten

/-- A copy command's contribution to its bundle (R327, R330, R331). LINE_RANGE of a cluster-form arrival reference stands with that of the
local form, ahead of the line waits (a DESIGN CHOICE of the log: step 1 of R330 names the local form alone). -/
def copyRes (op : CopyOp) (u : CUnit) (dn : BitVec 4) (acq rel : BitVec 1) (scope : BitVec 3) (timed : BitVec 1) (x : BitVec 6)
    (tag : BitVec 8) (s : State) : SlotRes :=
  let c := s.ctx
  let slot := cslot u
  let d := c.desc dn
  let ref := copyRef c x d
  let place := ref.map (copyRefPlace s c op d)
  let ill := copyIllegal op d (acq = 1#1 || rel = 1#1) scope
  let local_ := if op = .bget || ill then [] else d.localLines op
  let phys := local_.map (physLine c)
  let writes := if op.fillsLines then phys else if ill then [] else putLines s c op d
  let lw := lineWriteWait s writes
  let holder := if op.holdsLines && 64 ≤ s.cr.recordsOf s.cr.cur then s.cr.failedHolder s.cr.cur else none
  let before := firstTrap [trapIf ill (slotTrap .illegal slot.index), xPoisonTrap c x, lineRangeTrap slot c local_,
    if c.xEmpty x then none else (match place with | some p => p.trap slot.index | none => none)]
  let waits := match lw.1 with | some t => some t | none => holder.map Copy.fault
  let after := firstTrap ([copyWorldTrap s c slot.index op d] ++ copyCapTraps s op d ++ [scratchRowTrap s c op d] ++
    (if op = .xfer then xferTraps s c slot.index d else []))
  { slot := slot, draw := 2
    lineDests := writes
    trap := match before with
      | some t => some t
      | none => match waits with
        | some t => some t
        | none => after
    onTrap := if before.isSome then id else if lw.1.isSome then lw.2.1
      else match holder with | some m => retireCopy m.id | none => id
    hold := joinHolds ([xHold c x, lw.2.2] ++ (if op.fillsLines then local_.map (lineHold s c) else []))
    effect := startCopy op slot.index d (acq = 1#1) (rel = 1#1) (timed = 1#1) scope tag (place.map RefPlace.get)
      (copyRange s c op d)
    entries := 1
    records := if op.holdsLines then 1 else 0 }

/-- GET (R338). -/
def slotGetc (u : CUnit) (d : BitVec 4) (q r : BitVec 1) (sc : BitVec 3) (m : BitVec 1) (x : BitVec 6) (g : BitVec 8) (s : State) :
    SlotRes := copyRes .get u d q r sc m x g s
/-- GET, issued alone. -/
def execGetc (u : CUnit) (d : BitVec 4) (q r : BitVec 1) (sc : BitVec 3) (m : BitVec 1) (x : BitVec 6) (g : BitVec 8) (s : State) :
    Host.Outcome State Fault Refusal := runAlone (.getc u d q r sc m x g) (slotGetc u d q r sc m x g s) s
/-- PUT (R338). -/
def slotPutc (u : CUnit) (d : BitVec 4) (q r : BitVec 1) (sc : BitVec 3) (m : BitVec 1) (x : BitVec 6) (g : BitVec 8) (s : State) :
    SlotRes := copyRes .put u d q r sc m x g s
/-- PUT, issued alone. -/
def execPutc (u : CUnit) (d : BitVec 4) (q r : BitVec 1) (sc : BitVec 3) (m : BitVec 1) (x : BitVec 6) (g : BitVec 8) (s : State) :
    Host.Outcome State Fault Refusal := runAlone (.putc u d q r sc m x g) (slotPutc u d q r sc m x g s) s
/-- GETP (R339). -/
def slotGetp (u : CUnit) (d : BitVec 4) (q r : BitVec 1) (sc : BitVec 3) (m : BitVec 1) (x : BitVec 6) (g : BitVec 8) (s : State) :
    SlotRes := copyRes .getp u d q r sc m x g s
/-- GETP, issued alone. -/
def execGetp (u : CUnit) (d : BitVec 4) (q r : BitVec 1) (sc : BitVec 3) (m : BitVec 1) (x : BitVec 6) (g : BitVec 8) (s : State) :
    Host.Outcome State Fault Refusal := runAlone (.getp u d q r sc m x g) (slotGetp u d q r sc m x g s) s
/-- XFER (R340). -/
def slotXfer (u : CUnit) (d : BitVec 4) (q r : BitVec 1) (sc : BitVec 3) (m : BitVec 1) (x : BitVec 6) (g : BitVec 8) (s : State) :
    SlotRes := copyRes .xfer u d q r sc m x g s
/-- XFER, issued alone. -/
def execXfer (u : CUnit) (d : BitVec 4) (q r : BitVec 1) (sc : BitVec 3) (m : BitVec 1) (x : BitVec 6) (g : BitVec 8) (s : State) :
    Host.Outcome State Fault Refusal := runAlone (.xfer u d q r sc m x g) (slotXfer u d q r sc m x g s) s
/-- BGET (R342). -/
def slotBget (u : CUnit) (d : BitVec 4) (m : BitVec 1) (x : BitVec 6) (g : BitVec 8) (s : State) : SlotRes :=
  copyRes .bget u d 0 0 0 m x g s
/-- BGET, issued alone. -/
def execBget (u : CUnit) (d : BitVec 4) (m : BitVec 1) (x : BitVec 6) (g : BitVec 8) (s : State) : Host.Outcome State Fault Refusal :=
  runAlone (.bget u d m x g) (slotBget u d m x g s) s
/-- PUTR (R344). -/
def slotPutr (u : CUnit) (d : BitVec 4) (q r : BitVec 1) (sc : BitVec 3) (m : BitVec 1) (x : BitVec 6) (g : BitVec 8) (s : State) :
    SlotRes := copyRes .putr u d q r sc m x g s
/-- PUTR, issued alone. -/
def execPutr (u : CUnit) (d : BitVec 4) (q r : BitVec 1) (sc : BitVec 3) (m : BitVec 1) (x : BitVec 6) (g : BitVec 8) (s : State) :
    Host.Outcome State Fault Refusal := runAlone (.putr u d q r sc m x g) (slotPutr u d q r sc m x g s) s

/-- A hint that a page's first line be fetched into the die's caches (R343): a line that the die's remote-data cache holds is one of another
die, or of a pool page's frame while it is in time. -/
def prefetchLine (die : Nat) (sp : Space) (obj page : Nat) (s : State) : State :=
  let l := s.leafOf obj page
  let a : MAddr := { space := sp, obj := obj, off := page * 65536, frame := l.frame }
  let put := fun (rts : BitVec 24) => s.putRdc { die := die, obj := obj, line := a.line, val := s.hbmLine a.hbmLine, pool := sp == .pool, rts := rts }
  if l.state != .resident || s.rdc.any (fun r => r.die == die && r.obj == obj && r.line == a.line) || s.writes.any (fun w => w.onLine a) then s
  else if sp = .pool then
    match tabGet s.frameTs a.hbmLine with
    | some (wts, rts) => if s.poolCopyValid obj a.line rts && tsLe wts s.lt then put rts else s
    | none => s
  else if frameDie l.frame = die || (s.pinnedElsewhere noCluster a).isSome then s
  else put 0

/-- A local-form arrival reference of a descriptor names an object outside its context's allotment (R330 step 1). -/
def Desc.refOutside (d : Desc) (c : Ctx) : Bool := d.arrV && c.sys.allocSize.toNat ≤ d.arrIdx.toNat / 8

/-- PREF's effect where none of its checks fails (R330 steps 1 and 4, R343): its pages are asked for, and their first lines are fetched, at once
where a page is resident and else when it becomes so. -/
def prefetch (d : Desc) (s : State) : State :=
  let c := s.ctx
  let bad := (d.localLines .get).any (fun l => c.sys.allocSize.toNat ≤ l) || d.refOutside c || (firstTrap (copyCapTraps s .get d)).isSome
  match spaceOf d.cap.space with
  | some .local | some .pool =>
    if bad then s
    else
      let sp := if d.cap.space = 2 then Space.local else .pool
      let pages := ((List.range (d.nrows .get)).map (fun k =>
        let a := d.rowAddr .get k
        (List.range ((a + d.len.toNat - 1) / 65536 + 1 - a / 65536)).map (fun i => (a / 65536 + i) * 65536))).flatten.dedup
      pages.foldl (fun s a =>
        let obj := a / 2 ^ 40
        let page := a % 2 ^ 40 / 65536
        match (s.leafOf obj page).state with
        | .resident => prefetchLine (s.g / 192) sp obj page s
        | _ => { s with prefs := s.prefs ++ [(s.g / 192, sp, obj, page)] }) s
  | _ => s

/-- PREF: the ILLEGAL tests of R327, and a hint that changes no visible state (R343). -/
def slotPref (u : CUnit) (dn : BitVec 4) (s : State) : SlotRes :=
  let d := s.ctx.desc dn
  let rows := max d.rows.toNat 1
  { slot := cslot u, draw := 2
    trap := trapIf (d.len.toNat == 0 || rows * d.len.toNat > 2 ^ 24) (slotTrap .illegal (cslot u).index)
    effect := prefetch d }
/-- PREF, issued alone. -/
def execPref (u : CUnit) (d : BitVec 4) (s : State) : Host.Outcome State Fault Refusal := runAlone (.pref u d) (slotPref u d s) s

-- Bounce channels

/-- The bounce channel of a copy: the host operand of its launch that holds its bounds has BOUNCE (R512). -/
def State.channelOf (s : State) (m : Copy) : Option Nat :=
  if m.desc.cap.space != 4 then none
  else
    let a := (boundsOf m.desc.cap).1
    match s.launchOf (s.ctxAt m.k) with
    | none => none
    | some l => (l.operands.find? (fun o => o.space = 4 && o.off.toNat ≤ a && a < o.off.toNat + o.len.toNat)).bind (fun o =>
        if o.bounce then some o.chan else none)

/-- A channel of a tenant, as it stands. -/
def Tenant.channel (t : Tenant) (ch : Nat) : Channel := (tabGet t.channels ch).getD {}

/-- A channel changed. -/
def State.modChannel (s : State) (t : BitVec 4) (ch : Nat) (f : Channel → Channel) : State :=
  s.modTenant t (fun te => { te with channels := tabSet te.channels ch (f (te.channel ch)) })

/-- The counter that the device owns (R512). -/
def Channel.device (c : Channel) : Word := if c.dir then c.cons else c.prod

/-- A counter's bytes of the ring: host addresses, cut at the ring's end (R512). -/
def Channel.ringParts (c : Channel) (at_ : Word) (n : Nat) : List (Nat × Nat) :=
  let o := at_.toNat % max c.size 1
  let n1 := min n (c.size - o)
  if n1 = n then [(c.base.toNat + o, n)] else [(c.base.toNat + o, n1), (c.base.toNat, n - n1)]

/-- Copies on the channel fail: it is halted, has no ring, or runs the other way (R514). -/
def Channel.closed (c : Channel) (out : Bool) : Bool := c.halted || c.size = 0 || c.dir == out

/-- Bytes taken from the ring of a channel; none while the host has not produced them (R512). -/
def takeRing (t : BitVec 4) (ch n : Nat) (s : State) : State × Option Fetched :=
  let c := (s.tenant t).channel ch
  if c.closed false || (c.prod - c.cons).toNat < n then (s, none)
  else
    let bytes := ((c.ringParts c.cons n).map (fun p => memRead s.host p.1 p.2)).flatten
    (s.modChannel t ch (fun c => { c with cons := c.cons + BitVec.ofNat 64 n }), some { bytes := bytes })

/-- Bytes put into the ring of a channel; none while it has no room (R512). -/
def putRing (t : BitVec 4) (ch : Nat) (bytes : List (BitVec 8)) (s : State) : Option State :=
  let c := (s.tenant t).channel ch
  let n := bytes.length
  if c.closed true || c.size < (c.prod - c.cons).toNat + n then none
  else
    let mem := ((c.ringParts c.prod n).foldl (fun (acc : Memory × List (BitVec 8)) p =>
      (memWrite acc.1 p.1 (acc.2.take p.2), acc.2.drop p.2)) (s.host, bytes)).1
    some (({ s with host := mem }).modChannel t ch (fun c => { c with prod := c.prod + BitVec.ofNat 64 n }))

/-- The resync record of a copy that fails or is cancelled on a channel: channel, device counter and BYTE as three words at the
channel's resync address (R513; the record's layout is a DESIGN CHOICE of the log). -/
def resyncRecord (m : Copy) (byte : Nat) (s : State) : State :=
  match s.channelOf m with
  | none => s
  | some ch =>
    let t := (s.ctxAt m.k).sys.tenant
    let c := (s.tenant t).channel ch
    let mem := memWrite s.host c.resyncAddr.toNat (leBytes 8 ch ++ leBytes 8 c.device.toNat ++ leBytes 8 byte)
    ({ s with host := mem }).modChannel t ch (fun c => { c with resync := c.device })

/-- The lines that a command made empty are full again as they stand. -/
def State.refill (s : State) (keys : List Nat) : State := keys.foldl (fun s key => s.setFull key true) s

/-- A command that has not become eligible is cancelled (R345). -/
def cancelCopy (m : Copy) (s : State) : State :=
  let s := retireCopy m.id (resyncRecord m 0 (s.refill m.unfilled))
  match m.ref with
  | some r => s.subtractLater r m.bytesLeft true
  | none => s

/-- CFLUSH (R345). Its commands are those of its context already in the buffer, the slot before it among them. -/
def flushTagged (n : BitVec 8) (s : State) : State :=
  (s.cr.copies.filter (fun m => m.k == s.cr.cur && m.phase == .timed && m.tag == n)).foldl (fun s m => cancelCopy m s) s

/-- CFLUSH (R345). -/
def slotCflush (u : CUnit) (n : BitVec 8) (_ : State) : SlotRes := { slot := cslot u, draw := 2, effect := flushTagged n }
/-- CFLUSH, issued alone. -/
def execCflush (u : CUnit) (n : BitVec 8) (s : State) : Host.Outcome State Fault Refusal :=
  runAlone (.cflush u n) (slotCflush u n s) s

-- The engine

/-- TIMED_ELIGIBLE (R319): not once the eviction of the command's context has begun, which takes it into the image (R84, R322). -/
def doTimedEligible (id : Nat) (s : State) : Option State :=
  match s.cr.copy id with
  | some m =>
    if m.phase == .timed && (s.ctxAt m.k).state != .evicting && m.desc.time.toNat ≤ (lclk s.tnow (s.ctxAt m.k)).toNat then
      some (s.modCopy id (fun m => { m with phase := .eligible s.tnow.toNat }))
    else none
  | none => none
/-- TIMED_ELIGIBLE (R319). -/
def execTimedEligible (s : State) : Host.Outcome State Fault Refusal :=
  match s.event with
  | some (.timedEligible id) => onEvent (doTimedEligible id s) s
  | _ => .next s

/-- A command that holds one of the 16 active places (R320). -/
def Copy.isActive (m : Copy) : Bool := m.phase == .acquiring || m.phase == .active || m.phase == .releasing

/-- Since when a command has been eligible. -/
def Copy.eligibleSince (m : Copy) : Option Nat :=
  match m.phase with
  | .eligible t => some t
  | _ => none

/-- One eligible command is to become active before another (R320). -/
def Copy.goesBefore (a b : Copy) : Bool :=
  if a.timed != b.timed then a.timed
  else if a.timed then
    let x := a.eligibleSince.getD 0
    let y := b.eligibleSince.getD 0
    x < y || (x == y && (a.desc.time.toNat < b.desc.time.toNat || (a.desc.time == b.desc.time && a.id < b.id)))
  else a.id < b.id

/-- The physical line, as a key of the line table, that a piece of an XFER goes to (R340). -/
def xferKey (s : State) (m : Copy) (p : Nat) : Option Nat :=
  match s.stagePlacement (s.ctxAt m.k) m.desc.stage with
  | none => none
  | some pl => (s.resolveIn pl (m.desc.pieceAddr .xfer p) (m.desc.pieceLen p)).map (fun r => lineKey r.1 (r.2 / 128))

/-- A command becomes active; an XFER's destination lines become empty (R320, R340). -/
def doCopyActivate (id : Nat) (s : State) : Option State :=
  match s.cr.copy id with
  | some m =>
    let next := m.eligibleSince.isSome && s.cr.copies.all (fun o => o.eligibleSince.isNone || o.id == id || m.goesBefore o)
    if next && (s.cr.copies.filter Copy.isActive).length < 16 then
      let keys := if m.op = .xfer then ((m.todo.map (xferKey s m)).filterMap (fun k => k)).filter (fun k => (s.metaAt k).full) else m.unfilled
      let s := if m.op = .xfer then keys.foldl (fun s key => s.setFull key false) s else s
      some (s.modCopy id (fun m => { m with phase := if m.acq.isSome then .acquiring else .active, unfilled := keys, sent := s.capSent m.desc.cap }))
    else none
  | none => none
/-- COPY_ACTIVATE (R320). -/
def execCopyActivate (s : State) : Host.Outcome State Fault Refusal :=
  match s.event with
  | some (.copyActivate id) => onEvent (doCopyActivate id s) s
  | _ => .next s

/-- The acquire of a copy's acq flag: behind the context's earlier loads; where a bump wrapped it is complete 64 cycles
later (R333, R374, R376). -/
def doCopyAcquire (k : BitVec 2) (id : Nat) (s : State) : Option State :=
  match s.cr.copy id with
  | some m =>
    if m.k == k && m.phase == .acquiring && (before id ((s.ctxAt k).mq.filter (fun o => o.id < id))).all (fun o => !o.kind.binds) &&
        (s.clusterAt (clusterOf s.g)).flash ≤ s.tnow.toNat then
      let (s, wrapped) := s.refresh (m.acq.getD 0)
      some (s.modCopy id (fun m => if wrapped then { m with acq := some 0 } else { m with acq := none, phase := .active, sent := s.capSent m.desc.cap }))
    else none
  | none => none

-- Reading and writing the remote side

/-- An extent of bytes cut at line boundaries: (address, bytes). -/
def cutLines (a n : Nat) : List (Nat × Nat) :=
  let n1 := min n (128 - a % 128)
  if n1 = n then [(a, n)] else [(a, n1), (a + n1, n - n1)]

/-- The page frame of an address of space 2 or 3, where the page is resident. -/
def State.residentFrame (s : State) (a : Nat) : Option Nat :=
  let l := s.leafOf (a / 2 ^ 40) (a % 2 ^ 40 / 65536)
  if l.state = .resident then some l.frame else none

-- Pins

/-- The page of a piece's first and last byte on the remote side, for the spaces that have pages. -/
def piecePages (m : Copy) (p : Nat) : List (Nat × Nat) :=
  if m.desc.cap.space = 2 || m.desc.cap.space = 3 then
    if m.op = .bget then [(m.desc.rowAddr .bget 0 / 2 ^ 40, p)]
    else
      let a := m.desc.pieceAddr m.op p
      let b := a + m.desc.pieceLen p - 1
      let (base, top) := boundsOf m.desc.cap
      let inside := fun (x : Nat) => m.op != .getp || (base ≤ x && x < top)
      let lo := if m.op = .getp then max a base else a
      let hi := if m.op = .getp then min b (top - 1) else b
      (if lo ≤ hi && inside lo then [(lo / 2 ^ 40, lo % 2 ^ 40 / 65536)] else []) ++
      (if lo ≤ hi && inside hi && hi / 65536 != lo / 65536 then [(hi / 2 ^ 40, hi % 2 ^ 40 / 65536)] else [])
  else []

/-- A frame's copy pins changed (R408). -/
def State.pinFrame (s : State) (f : Nat) (up : Bool) : State :=
  match tabGet s.frames f with
  | some r => { s with frames := tabSet s.frames f { r with copyPins := if up then r.copyPins + 1 else r.copyPins - 1 } }
  | none => s

/-- A translation that a command uses (R408). -/
def Copy.pinned (m : Copy) (obj page : Nat) : Option Nat :=
  (m.pins.find? (fun q => q.1 == obj && q.2.1 == page)).map (fun q => q.2.2)

/-- The frames that a command's first request for a piece pins (R408). -/
def pinPiece (id piece : Nat) (s : State) : State :=
  match s.cr.copy id with
  | none => s
  | some m =>
    if m.op = .bget || m.op = .putr then s
    else
      let fresh := ((piecePages m piece).filter (fun q => (m.pinned q.1 q.2).isNone)).filterMap (fun q =>
        (s.residentFrame (q.1 * 2 ^ 40 + q.2 * 65536)).map (fun f => (q.1, q.2, f)))
      (fresh.foldl (fun s q => s.pinFrame q.2.2 true) s).modCopy id (fun m => { m with pins := m.pins ++ fresh })

/-- The pins of a command whose last byte in a frame has been read or written are dropped; a page that moves keeps them until then (R408). -/
def dropPins (id : Nat) (s : State) : State :=
  match s.cr.copy id with
  | none => s
  | some m =>
    let used := fun (q : Nat × Nat × Nat) => m.todo.any (fun p => !(m.op.fillsLines && (m.gotFor p).isSome) && (piecePages m p).contains (q.1, q.2.1)) ||
      s.writes.any (fun w => w.copy == some id && !w.granted && w.a.space != .host && w.a.obj == q.1 && w.a.off / 65536 == q.2.1)
    ((m.pins.filter (fun q => !used q)).foldl (fun s q => s.pinFrame q.2.2 false) s).modCopy id (fun m => { m with pins := m.pins.filter used })

/-- Every pin of a command dropped (R408). -/
def unpinAll (m : Copy) (s : State) : State := m.pins.foldl (fun s q => s.pinFrame q.2.2 false) s

/-- The resolved address of bytes on a copy's remote side, through the frame it has pinned, else through the map; none while the page is not
resident. -/
def copyAddr (s : State) (m : Copy) (a n : Nat) : Option MAddr :=
  let full := BitVec.ofNat 64 a
  let cap := m.desc.cap
  match spaceOf cap.space with
  | some .scratch => (resolveScratch s (s.ctxAt m.k) a n).map (fun r => { space := .scratch, obj := r.1, off := r.2, full := full })
  | some .host => some { space := .host, obj := 0, off := a, full := full, vf := (s.ctxAt m.k).sys.tenant.toNat + 1 }
  | some sp => ((m.pinned (a / 2 ^ 40) (a % 2 ^ 40 / 65536)).or (s.residentFrame a)).map
      (fun f => { space := sp, obj := a / 2 ^ 40, off := a % 2 ^ 40, frame := f, gen := cap.gen, full := full })
  | none => none

/-- A line of the cluster cache made ready for a copy: whether it is, and the state with what was begun. A pinned line answers RETRY to the
engine, its own cluster's too (R386). -/
def ensureLine (a : MAddr) (llen : BitVec 12) (s : State) : State × Bool :=
  let cl := clusterOf s.g
  if (s.pinnedElsewhere noCluster a).isSome then ((s.noteRetry noCluster a).getD s, false)
  else if (s.cacheHit cl a).isSome then (s, true)
  else match s.fillLine cl a llen with | some t => (t, true) | none => (s, false)

/-- A copy's translation gathers A, and D where it writes, in the extent or the TLB entry that serves it, which a walk of the engine's fills where
none holds the page; through a pinned frame whose entry has been shot down they go to the map (R408, R411). -/
def State.markCopy (s : State) (k : BitVec 2) (a : MAddr) (write : Bool) : State :=
  let page := a.off / 65536
  let cl := clusterOf s.g
  if a.space != .local && a.space != .pool then s
  else if (s.ctxAt k).extents.any (fun e => e.holds a.space a.obj page) || (s.clusterAt cl).tlb.any (fun e => e.holds a.space a.obj page) then
    s.markPage k a.space a.obj page write
  else if (s.leafOf a.obj page).state = .resident then
    (s.fillTlb cl { space := a.space, obj := a.obj, page := page, frame := a.frame, gen := (s.genOf a.obj).getD a.gen }).markPage k a.space a.obj page write
  else s.orLeaf a.obj page write true

/-- The granule tags of bytes of a line value or of a scratchpad line, where they start at a granule (R174). -/
def tagList (tags : BitVec 8) (off n : Nat) : List Bool :=
  if off % 16 != 0 then [] else (List.range ((n + 15) / 16)).map (fun i => tags.getLsbD (off % 128 / 16 + i) && 16 * i + 16 ≤ n)

/-- Bytes of one line read for a copy at its turn: none while its line is empty; `s` already holds the line. -/
def readPiece (s : State) (k : BitVec 2) (id : Nat) (a : MAddr) (n : Nat) : Option Fetched :=
  match a.space with
  | .scratch =>
    let m := s.metaAt (lineKey a.obj (a.off / 128))
    if !s.lineOpen k id a.obj a.off then none
    else some { bytes := s.scratchRead a.obj a.off n, tags := tagList m.tag (a.off % 128) n, poison := m.form == .poison, form := m.form
                attach := if a.off % 128 = 0 && n = 128 then m.attach else none }
  | .host => some { bytes := memRead s.host a.off n }
  | _ =>
    match (s.clusterAt (clusterOf s.g)).find a.obj a.line with
    | some l => some { bytes := l.val.read (a.off % 128) n, tags := tagList l.val.tags (a.off % 128) n, poison := l.val.poisoned (a.off % 128) n }
    | none => none

/-- Two runs of bytes together. -/
def Fetched.append (x y : Fetched) : Fetched :=
  { bytes := x.bytes ++ y.bytes
    tags := if x.bytes.length % 16 = 0 then x.tags ++ y.tags else []
    poison := x.poison || y.poison
    form := if x.form = .plain then y.form else x.form }

/-- The operations of a context that precede a copy. -/
def State.earlierOps (s : State) (k : BitVec 2) (id : Nat) : List MemOp := (s.ctxAt k).mq.filter (fun o => o.id < id)

/-- A copy's reads may be made: no earlier acquire or LSYNC is left (R364, R374). -/
def State.copyMayRead (s : State) (k : BitVec 2) (id : Nat) : Bool :=
  (s.earlierOps k id).all (fun o => !o.kind.isAcquire && !o.kind.isLsync) && !s.copyAcquiring k id

/-- A copy's writes may be made: no earlier release is left either (R372). -/
def State.copyMayWrite (s : State) (k : BitVec 2) (id : Nat) : Bool :=
  s.copyMayRead k id && (s.earlierOps k id).all (fun o => !o.kind.isRelease) && !s.copyReleasing k id

/-- Earlier stores and atomics to bytes that a copy reads have been applied (R332). -/
def State.sourceSettled (s : State) (k : BitVec 2) (id : Nat) (a : MAddr) (n : Nat) : Bool :=
  (s.earlierOps k id).all (fun o => !(o.kind.applies && o.kind.spots.any (fun p => sameGranule p.1 p.2 a n)))

/-- Earlier accesses to bytes that a copy writes have been made (R332, R362). -/
def State.destSettled (s : State) (k : BitVec 2) (id : Nat) (a : MAddr) (n : Nat) : Bool :=
  (s.earlierOps k id).all (fun o => !o.kind.spots.any (fun p => sameGranule p.1 p.2 a n))

/-- The address of a line of the core at hand. -/
def State.localAddr (s : State) (phys : Nat) : MAddr := { space := .scratch, obj := s.g, off := phys * 128 }

/-- Remote bytes of a copy read through the cluster's cache: none where they cannot be read yet, with what was begun. -/
def fetchRemote (m : Copy) (a n : Nat) (s : State) : State × Option Fetched :=
  let c := s.ctxAt m.k
  match s.channelOf m with
  | some ch => takeRing c.sys.tenant ch n s
  | none =>
  let parts := (cutLines a n).map (fun p => (copyAddr s m p.1 p.2, p.2))
  parts.foldl (fun acc p =>
    match acc, p.1 with
    | (s, some f), some ad =>
      if !s.sourceSettled m.k m.id ad p.2 then (s, none)
      else
        let (s, ok) := if ad.space = .local || ad.space = .pool then ensureLine ad (s.llenOf c) s else (s, true)
        if !ok then (s, none)
        else
          match readPiece s m.k m.id ad p.2 with
          | some g => (s.markCopy m.k ad false, some (if f.bytes.isEmpty then g else f.append g))
          | none => (s, none)
    | (s, _), _ => (s, none)) (s, some { bytes := [] })

/-- In a protected world data from outside the scratchpad lands as cipher, with the attachment that its region supplies
(R474). -/
def worldArrival (s : State) (c : Ctx) (cap : Cap) (a n : Nat) (f : Fetched) : Fetched :=
  let sp := spaceOf cap.space
  if c.sys.world = 0 || sp == some .scratch then f
  else
    let att := if a % 128 != 0 || n != 128 then none
      else match sp with
        | some .local | some .pool =>
          match s.regionOf c.sys.world (a / 2 ^ 40) (a % 2 ^ 40 / 65536) with
          | some (r, reg) =>
            let i := reg.index a
            let pool := sp == some .pool
            let macs := (reg.page0 + reg.pages) * 65536
            if reg.kind = 3 then some { region := r, index := i, tree := true }
            else some { region := r, index := i, major := reg.major
                        mac := BitVec.ofNat 64 (leNat (s.homeRead pool reg.obj (macs + 8 * i) 8))
                        minor := leNat (s.homeRead pool reg.obj (macs + 8 * 512 * reg.pages + i) 1) }
          | none => none
        | _ => none
    { f with form := .cipher, attach := att, tags := [] }

/-- A re-keying region meets the bytes (R482). -/
def rekeyingAt (s : State) (c : Ctx) (cap : Cap) (a : Nat) : Bool :=
  c.sys.world != 0 && (match spaceOf cap.space with
    | some .local | some .pool =>
      match s.regionOf c.sys.world (a / 2 ^ 40) (a % 2 ^ 40 / 65536) with
      | some (_, reg) => reg.state == 2
      | none => false
    | _ => false)

/-- Bytes written to the first bytes of a line of any core by a copy, with the form and tags they bring; a part of a line
keeps the line's form unless the bytes are cipher (R194, R474). The line is full from then on. -/
def landLine (key : Nat) (f : Fetched) (tags : BitVec 8) (s : State) : State :=
  let n := f.bytes.length
  let mask := byteMask 0 n
  let s := s.writeLine key (BitVec.ofNat 1024 (leNat f.bytes)) mask f.form
  let m := s.metaAt key
  let form := if n < 128 && f.form != .plain then f.form else m.form
  s.setMeta key { m with full := true, tag := m.tag ||| (tags &&& maskGranules mask), form := form
                         attach := if form = .cipher then f.attach else none }

/-- A granule list as a line's tag bits. -/
def tagBits (l : List Bool) : BitVec 8 := BitVec.ofNat 8 (l.zipIdx.foldl (fun n t => if t.1 && t.2 < 8 then n + 2 ^ t.2 else n) 0)

/-- Part of a line that is not plain would be written (R194, R336). -/
def badPart (s : State) (key n : Nat) : Bool := n != 128 && (s.metaAt key).form != .plain

/-- A moved piece leaves the list, and its bytes are counted where the command counts as it goes (R334). -/
def pieceMoved (id piece bytes : Nat) (count : Bool) (s : State) : State :=
  match s.cr.copy id with
  | none => s
  | some m =>
    let now := count && !m.rel
    let s := s.modCopy id (fun m => { m with todo := m.todo.filter (· != piece), reqs := m.reqs.filter (· != piece)
                                             got := m.got.filter (fun q => q.1 != piece), bytesLeft := if now then m.bytesLeft - bytes else m.bytesLeft })
    match m.ref with
    | some r => if now then s.subtractLater r bytes false else s
    | none => s

/-- The engine moves bytes into the scratchpad, or out of it: at most 128 in a cycle (R321). -/
def State.mayMove (s : State) (out : Bool) : Bool := (if out then s.cr.movedOut else s.cr.movedIn) != some s.tnow
def State.noteMove (s : State) (out : Bool) : State :=
  { s with cr := if out then { s.cr with movedOut := some s.tnow } else { s.cr with movedIn := some s.tnow } }

/-- GETP: the bytes of the piece inside the bounds; elsewhere zeros (R339). -/
def fetchInside (m : Copy) (a n : Nat) (s : State) : State × Option Fetched :=
  let (base, top) := boundsOf m.desc.cap
  let lo := min (max a base) (a + n)
  let hi := max lo (min (a + n) top)
  if m.op != .getp || (lo = a && hi = a + n) then
    let (s, f) := fetchRemote m a n s
    (s, f.map (worldArrival s (s.ctxAt m.k) m.desc.cap a n))
  else if hi ≤ lo then
    (s, some (worldArrival s (s.ctxAt m.k) m.desc.cap 1 n { bytes := List.replicate n 0 }))
  else
    let (s, f) := fetchRemote m lo (hi - lo) s
    (s, f.map (fun f =>
      let tags := if lo % 16 = a % 16 && (lo - a) % 16 = 0 then List.replicate ((lo - a) / 16) false ++ f.tags else []
      worldArrival s (s.ctxAt m.k) m.desc.cap 1 n
        { f with bytes := List.replicate (lo - a) 0 ++ f.bytes ++ List.replicate (a + n - hi) 0, tags := tags, attach := none }))

/-- GET and GETP: what has been read for a line lands in it (R338, R339). -/
def landData (m : Copy) (p : Nat) (f : Fetched) (s : State) : State :=
  let key := lineKey s.g (physLine (s.ctxAt m.k) (m.desc.pieceLine p))
  let tags := if m.desc.cap.has .ldcap && f.form != .cipher then tagBits f.tags else 0
  let s := ((landLine key f tags s).noteMove false).modCopy m.id (fun m => { m with unfilled := m.unfilled.filter (· != key) })
  pieceMoved m.id p (m.desc.pieceLen p) true s

/-- GET and GETP: a requested line is read, and lands once the context's earlier release and earlier accesses allow it (R332, R338, R339,
R372). Poison stays unwritten. -/
def landGet (m : Copy) (p : Nat) (s : State) : Option State :=
  let c := s.ctxAt m.k
  let d := m.desc
  let phys := physLine c (d.pieceLine p)
  let n := d.pieceLen p
  if badPart s (lineKey s.g phys) n then none
  else
    let now := s.copyMayWrite m.k m.id && s.destSettled m.k m.id (s.localAddr phys) n && s.mayMove false && !s.cr.scrubs s.tnow phys
    match m.gotFor p with
    | some f => if now && !f.poison then some (landData m p f s) else none
    | none =>
      let (t, f) := fetchInside m (d.pieceAddr m.op p) n s
      match f with
      | none => some t
      | some f => some (if now && !f.poison then landData m p f t else t.modCopy m.id (fun m => { m with got := m.got ++ [(p, f)] }))

/-- The local bytes of a piece that a command sends: none while the line is empty (R332). -/
def readLocal (m : Copy) (p : Nat) (s : State) : Option Fetched :=
  let c := s.ctxAt m.k
  let phys := physLine c (m.desc.pieceLine p)
  let a := s.localAddr phys
  let n := m.desc.pieceLen p
  if s.copyMayRead m.k m.id && s.sourceSettled m.k m.id a n && fullAt s s.g a.off then
    match readPiece s m.k m.id a n with
    | some f => some { f with attach := if n = 128 then (s.metaAt (lineKey s.g phys)).attach else none }
    | none => none
  else none

/-- The tags that a copy from local lines carries (R174): under STCAP, and outside the scratchpad only granules whose value
has GLOBAL. -/
def carriedTags (cap : Cap) (f : Fetched) : List Bool :=
  if !cap.has .stcap || cap.space = 4 then []
  else (f.tags.zipIdx).map (fun t => t.1 && (cap.space = 1 ||
    ({ bits := BitVec.ofNat 128 (leNat ((f.bytes.drop (16 * t.2)).take 16)) } : Cap).has .global))

/-- A write of a copy sent to one line outside the scratchpad (R365, R373, R474). -/
def sendWrite (m : Copy) (p : Nat) (a : MAddr) (bytes : List (BitVec 8)) (tags : BitVec 8) (macs : Option (Nat × BitVec 64 × Nat × BitVec 8))
    (s : State) : State :=
  let id := s.nextId
  let cl := clusterOf s.g
  let s := match a.space with
    | .host => { s with host := memWrite s.host a.off bytes }
    | _ => (s.modCluster cl (fun c => c.modLine a.obj a.line (fun l =>
        { l with val := l.val.write (a.off % 128) bytes tags, unacked := l.unacked + 1 }))).markCopy m.k a true
  let s : State := { s with
    nextId := id + 1
    writes := s.writes ++ [{ id := id, g := s.g, k := m.k, cluster := cl, a := a, bytes := bytes, tags := tags
                             tenant := (s.ctxAt m.k).sys.tenant, copy := some m.id, macs := macs }] }
  s.modCopy m.id (fun m => { m with acks := m.acks ++ [(id, p, bytes.length)] })

/-- What a PUT of a cipher line writes to the MAC pages (R473, R474). -/
def sealRecord (s : State) (w : BitVec 4) (a : Nat) (f : Fetched) : Option (Nat × BitVec 64 × Nat × BitVec 8) :=
  match f.attach with
  | none => none
  | some t =>
    match s.regionOf w (a / 2 ^ 40) (a % 2 ^ 40 / 65536) with
    | some (_, reg) =>
      let macs := (reg.page0 + reg.pages) * 65536
      some (macs + 8 * t.index, t.mac, macs + 8 * 512 * reg.pages + t.index, BitVec.ofNat 8 t.minor)
    | none => none

/-- A protected world may send these bytes as they stand now (R330, R474). -/
def mayLeave (s : State) (m : Copy) (p : Nat) : Bool :=
  let c := s.ctxAt m.k
  let meta_ := s.metaAt (lineKey s.g (physLine c (m.desc.pieceLine p)))
  c.sys.world = 0 || m.desc.cap.space = 1 ||
    (meta_.form == .cipher && s.putFits c.sys.world meta_ (spaceOf m.desc.cap.space) (m.desc.pieceAddr m.op p) (m.desc.pieceLen p))

/-- Requests of the engine under way: of its pieces, and its writes not acknowledged (R321). -/
def State.engineRequests (s : State) : Nat := s.cr.copyRequests + (s.writes.filter (fun w => w.g == s.g && w.copy.isSome)).length

/-- The lines of a piece on its remote side: address and bytes. -/
def pieceParts (s : State) (m : Copy) (p : Nat) : List (Option MAddr × Nat × Nat) :=
  (cutLines (m.desc.pieceAddr m.op p) (m.desc.pieceLen p)).map (fun q => (copyAddr s m q.1 q.2, q))

/-- A scratchpad line takes a PUT's bytes: full, plain where it is written in part, no longer read by its core's engines (R128, R194, R299). -/
def putLineOpen (s : State) (ad : MAddr) (n : Nat) : Bool :=
  let key := lineKey ad.obj (ad.off / 128)
  let c := s.coreAt ad.obj
  fullAt s ad.obj ad.off && !badPart s key n && !c.reads.any (fun r => r.1 == ad.off / 128 && c.cyc < r.2) && !s.mergeReadsLine ad.obj (ad.off / 128)

/-- The part of a piece that goes to one line: its bytes and the tags it brings. -/
def partOf (f : Fetched) (tags : List Bool) (skip n off : Nat) : List (BitVec 8) × BitVec 8 :=
  ((f.bytes.drop skip).take n,
   if skip % 16 = 0 then BitVec.ofNat 8 ((tagBits (tags.drop (skip / 16))).toNat * 2 ^ (off % 128 / 16)) else 0)

/-- The engine and its core have requests left for `n` more writes of the engine (R132, R321). -/
def State.roomFor (s : State) (n : Nat) : Bool := s.engineRequests + n ≤ 512 && s.outstanding + n ≤ 1024

/-- PUT: what has been read for a line is sent (R338). -/
def sendPut (m : Copy) (p : Nat) (f : Fetched) (s : State) : Option State :=
  let c := s.ctxAt m.k
  let d := m.desc
  let a := d.pieceAddr .put p
  let n := d.pieceLen p
  if !s.copyMayWrite m.k m.id || !mayLeave s m p || !s.mayMove true || f.poison then none
  else if (s.channelOf m).isSome then
    (putRing c.sys.tenant ((s.channelOf m).getD 0) f.bytes s).map (fun s => pieceMoved m.id p n true (s.noteMove true))
  else
    let tags := if a % 16 = 0 then carriedTags d.cap f else []
    let parts := pieceParts s m p
    let first := match parts with | q :: _ => q.2.2 | [] => 0
    if d.cap.space = 1 then
      let ok := parts.all (fun e => match e.1 with
        | some ad => s.destSettled m.k m.id ad e.2.2 && putLineOpen s ad e.2.2
        | none => false)
      if !ok then none
      else
        let s := parts.foldl (fun s e => match e.1 with
          | some ad =>
            let (bs, tg) := partOf f tags (e.2.1 - a) e.2.2 ad.off
            let key := lineKey ad.obj (ad.off / 128)
            let s := s.storeScratch ad.obj ad.off bs tg
            if e.2.2 = 128 || f.form != .plain then
              s.setMeta key { s.metaAt key with form := f.form, attach := if e.2.2 = 128 && f.form = .cipher then f.attach else none }
            else s
          | none => s) s
        some (pieceMoved m.id p n true (s.noteMove true))
    else if !s.roomFor parts.length then none
    else
      let (s, ready) := parts.foldl (fun acc e => match acc, e.1 with
        | (s, true), some ad =>
          if !s.destSettled m.k m.id ad e.2.2 then (s, false)
          else if ad.space = .host then (s, true) else ensureLine ad (s.llenOf c) s
        | (s, _), _ => (s, false)) (s, true)
      if !ready then some s
      else
        let macs := if c.sys.world = 0 then none else sealRecord s c.sys.world a f
        let s := parts.foldl (fun s e => match e.1 with
          | some ad =>
            let (bs, tg) := partOf f tags (e.2.1 - a) e.2.2 ad.off
            sendWrite m p ad bs tg (if e.2.2 = first && e.2.1 = a then macs else none) s
          | none => s) s
        some (pieceMoved m.id p n false (s.noteMove true))

/-- The owner of a line holds it, other than by the command itself, or still reads it, in its engines or in its merge unit, or a scrub step holds
it (R196, R299, R314, R463). -/
def lineBusy (s : State) (id key : Nat) : Bool :=
  let c := s.coreAt (key / 32768)
  let line := key % 32768
  c.copies.any (fun m => m.id != id && m.op.holdsLines && m.lines.contains line) || c.reads.any (fun r => r.1 == line && c.cyc < r.2) ||
    s.mergeReadsLine (key / 32768) line || c.scrubs s.tnow line

/-- A destination line of an XFER takes its data: made empty for it, or full, and not held by its owner (R340). -/
def xferOpen (s : State) (m : Copy) (key n : Nat) : Bool :=
  !lineBusy s m.id key && !badPart s key n && (m.unfilled.contains key || (s.metaAt key).full)

/-- XFER: what has been read for a line lands in the destination stage's region, with its form and attachment (R340, R472, R474). -/
def sendXfer (m : Copy) (p : Nat) (f : Fetched) (s : State) : Option State :=
  let n := m.desc.pieceLen p
  match xferKey s m p with
  | none => none
  | some key =>
    if !s.copyMayWrite m.k m.id || !xferOpen s m key n || !s.mayMove true || f.poison then none
    else
      let s := ((landLine key f (tagBits (carriedTags m.desc.cap f)) s).noteMove true).modCopy m.id
        (fun m => { m with unfilled := m.unfilled.filter (· != key) })
      some (pieceMoved m.id p n true s)

/-- The reduction that accepts a row (R532). -/
def rowTarget (s : State) (m : Copy) (k : Nat) : Option Reduction :=
  let a := m.desc.rowAddr .putr k
  s.reductionAt (a / 2 ^ 40) (a % 2 ^ 40) m.desc.len.toNat

/-- The routing entry of a row whose reduction has its root on another package (R532). -/
def rowRoute (s : State) (m : Copy) (k : Nat) : Option Route :=
  let a := m.desc.rowAddr .putr k
  let off := a % 2 ^ 40
  let len := m.desc.len.toNat
  s.links.routes.find? (fun r =>
    let size := if r.bf16 then 2 else 4
    r.obj == a / 2 ^ 40 && r.off ≤ off && off + len ≤ r.off + r.nelem * size && (off - r.off) % size == 0 && len % size == 0)

/-- A line's elements issued to a remote root in a type-3 flit: object and offset of the first element, then the elements (R532;
the payload's layout is a DESIGN CHOICE of the log). -/
def sendContribution (m : Copy) (p : Nat) (r : Route) (bytes : List (BitVec 8)) (s : State) : State :=
  let id := s.nextId
  let payload := leBytes 3 r.obj ++ leBytes 5 (m.desc.pieceAddr .putr p % 2 ^ 40) ++ bytes
  let s := s.fresh.issueFlit 3 (s.ctxAt m.k).sys.tenant.toNat r.root (r.obj % 2) payload id
  s.modCopy m.id (fun m => { m with acks := m.acks ++ [(id, p, bytes.length)] })

/-- PUTR: a line's elements are added at the root, here or on another package (R344, R532, R533). -/
def sendPutr (m : Copy) (p : Nat) (f : Fetched) (s : State) : Option State :=
  if !s.copyMayWrite m.k m.id || !s.mayMove true || f.poison then none
  else
    match rowTarget s m (p / 2 ^ 18), rowRoute s m (p / 2 ^ 18) with
    | some r, _ =>
      let s := (s.contribute r (m.desc.pieceAddr .putr p % 2 ^ 40) f.bytes).noteMove true
      some (pieceMoved m.id p (m.desc.pieceLen p) true s)
    | none, some r =>
      if s.links.mayIssue r.root && s.roomFor 1 then some (pieceMoved m.id p (m.desc.pieceLen p) false (sendContribution m p r f.bytes (s.noteMove true))) else none
    | none, none => none

-- Turns

/-- The next piece of a command for which no request is out; a bounce channel takes its pieces one by one (R512). -/
def Copy.nextPiece (m : Copy) (channel : Bool) : Option Nat :=
  if channel && !m.reqs.isEmpty then none else m.todo.find? (fun p => !m.reqs.contains p)

/-- The parts of a piece on the remote side, cut at lines; those of a GETP that lie outside the bounds are not accessed (R339). -/
def insideParts (m : Copy) (p : Nat) : List (Nat × Nat) :=
  let a := m.desc.pieceAddr m.op p
  let n := m.desc.pieceLen p
  let (base, top) := boundsOf m.desc.cap
  let lo := if m.op = .getp then max a base else a
  let hi := if m.op = .getp then min (a + n) top else a + n
  if lo < hi then cutLines lo (hi - lo) else []

/-- An active command has made no request yet. -/
def Copy.unstarted (m : Copy) : Bool :=
  m.reqs.isEmpty && m.got.isEmpty && !m.granted && m.todo.length == (if m.op = .bget then m.desc.bgetPages else m.desc.pieces m.op).length

/-- No reduction and no routing entry takes a PUTR: of all its rows before its first piece moves, since they are one contribution, of the piece's own
row after it (R344, R532). -/
def putrRefused (s : State) (m : Copy) (p : Nat) : Bool :=
  let rows := if m.unstarted then List.range (m.desc.nrows .putr) else [p / 2 ^ 18]
  rows.any (fun k => (rowTarget s m k).isNone && (rowRoute s m k).isNone)

/-- A command waits before its first request: a region that is being re-keyed meets its remote extent (R482). -/
def State.rekeyHolds (s : State) (m : Copy) : Bool :=
  let c := s.ctxAt m.k
  m.unstarted && c.sys.world != 0 && (m.desc.pieces m.op).any (fun p =>
    let a := m.desc.pieceAddr m.op p
    rekeyingAt s c m.desc.cap a || rekeyingAt s c m.desc.cap (a + m.desc.pieceLen p - 1))

/-- A request for a piece may go out: the bytes it reads are there or can be asked for, and where it goes is open (R332, R340). An earlier
release does not keep it waiting (R372). -/
def pieceReady (s : State) (m : Copy) (p : Nat) : Bool :=
  !s.rekeyHolds m && match m.op with
  | .bget => false
  | .get | .getp =>
    s.copyMayRead m.k m.id && ((s.channelOf m).isSome || (insideParts m p).all (fun q => match copyAddr s m q.1 q.2 with
      | some ad => s.sourceSettled m.k m.id ad q.2 && (ad.space != .scratch || s.lineOpen m.k m.id ad.obj ad.off)
      | none => false))
  | .xfer => (readLocal m p s).isSome && (match xferKey s m p with | some key => xferOpen s m key (m.desc.pieceLen p) | none => false)
  | .put => (readLocal m p s).isSome && ((s.channelOf m).isSome || (pieceParts s m p).all (fun e => match e.1 with
      | some ad => ad.space != .scratch || putLineOpen s ad e.2.2
      | none => false))
  | .putr => (readLocal m p s).isSome && !putrRefused s m p

/-- A command has a piece for which a request may go out. -/
def requestReady (s : State) (m : Copy) : Bool :=
  m.phase == .active && (match m.nextPiece (s.channelOf m).isSome with | some p => pieceReady s m p | none => false)

/-- Round-robin: after the command `cur`, `a` is served before `b`. -/
def servedBefore (cur a b : Nat) : Bool := if decide (cur < a) = decide (cur < b) then a ≤ b else cur < a

/-- It is a command's turn (R320): its turn of 512 bytes goes on, or it is the next that can go on. The first request of a command waits for no
turn. -/
def State.hasTurn (s : State) (m : Copy) : Bool :=
  let (cur, n) := s.cr.turn
  let others := s.cr.copies.filter (fun o => o.id != m.id && requestReady s o)
  m.unstarted ||
    (if m.id = cur then n < 512 || others.isEmpty else others.all (fun o => if o.id = cur then decide (512 ≤ n) else servedBefore cur m.id o.id))

/-- The turn once a command has made a request for a piece of its own: its bytes count in the turn, and a first request leaves the turn as it is
(R320). -/
def State.turnAfter (s : State) (m : Copy) (p : Nat) : Nat × Nat :=
  let (cur, n) := s.cr.turn
  let len := m.desc.pieceLen p
  if m.unstarted then (cur, n) else if m.id = cur && n < 512 then (cur, n + len) else (m.id, len)

/-- A request for the next piece of a command goes out at its turn (R320, R321): the frames it reaches are pinned, and what lies in local lines
is read. -/
def requestPiece (m : Copy) (p : Nat) (s : State) : Option State :=
  if m.nextPiece (s.channelOf m).isSome != some p || !pieceReady s m p || 512 ≤ s.engineRequests || 1024 ≤ s.outstanding || !s.hasTurn m then none
  else
    let got := if m.op.holdsLines then (match readLocal m p s with | some f => [(p, f)] | none => []) else []
    let s := pinPiece m.id p { s with cr := { s.cr with turn := s.turnAfter m p } }
    some (s.modCopy m.id (fun m => { m with reqs := m.reqs ++ [p], got := m.got ++ got }))

/-- A step of one piece of an active command: its request, then the piece moves (R320, R332, R334, R338 to R344). -/
def doCopyLineLand (id piece : Nat) (s : State) : Option State :=
  match s.cr.copy id with
  | some m =>
    if m.phase != .active || !m.todo.contains piece then none
    else if !m.reqs.contains piece then requestPiece m piece s
    else
      let r := match m.op, m.gotFor piece with
        | .get, _ | .getp, _ => landGet m piece s
        | .put, some f => sendPut m piece f s
        | .xfer, some f => sendXfer m piece f s
        | .putr, some f => sendPutr m piece f s
        | _, _ => none
      r.map (dropPins id)
  | none => none
/-- COPY_LINE_LAND (R334). -/
def execCopyLineLand (s : State) : Host.Outcome State Fault Refusal :=
  match s.event with
  | some (.copyLineLand id piece) => onEvent (doCopyLineLand id piece s) s
  | _ => .next s

/-- A destination acknowledges a request of a copy step by step, or a waiting update of an object is applied (R334, R349). The refusal of a
request of a command that has failed already ends that request alone (R336, R430). -/
def doCopyAck (id : Nat) (s : State) : Option State :=
  match s.updates.find? (fun u => u.id == id) with
  | some u => applyUpdate u s
  | none =>
    match s.writes.find? (fun w => w.id == id && w.copy.isSome && w.g == s.g) with
    | none => none
    | some w =>
      let cid := w.copy.getD 0
      if (s.writeRefusal w).isSome then
        if (match s.cr.copy cid with | some m => m.hasFailed | none => true) then
          let s := (s.dropWrite w).dropCopies w.a
          some (if w.a.space = .pool then s.johel w.lt else s)
        else none
      else (ackWrite w s).map (dropPins cid)
/-- COPY_ACK (R334). -/
def execCopyAck (s : State) : Host.Outcome State Fault Refusal :=
  match s.event with
  | some (.copyAck id) => onEvent (doCopyAck id s) s
  | _ => .next s

/-- What a copy's release covers: the context's earlier accesses in the entries that overlap its destination (R333). -/
def copyReleaseWaits (s : State) (m : Copy) : List Nat :=
  let c := s.ctxAt m.k
  (c.covered (some [copyRange s c m.op m.desc])).filter (fun i => i < m.id)

/-- Every byte has moved and been acknowledged: a command without rel retires; one with rel begins its release, and
retires when it is complete, its bytes subtracted then (R333 to R335). -/
def doCopyComplete (id : Nat) (s : State) : Option State :=
  match s.cr.copy id with
  | none => none
  | some m =>
    let c := s.ctxAt m.k
    let finish := fun (s : State) =>
      let s := retireCopy id (unpinAll m s)
      match m.ref with
      | some r => if m.rel then s.subtractLater r m.bytesLeft false else s
      | none => s
    if m.phase == .active && m.todo.isEmpty && m.acks.isEmpty then
      if m.rel then
        let s := if 2 ≤ m.scope.toNat then s.endPins (clusterOf s.g) else s
        some (s.modCopy id (fun m => { m with phase := .releasing, relWaits := copyReleaseWaits s m }))
      else some (finish s)
    else if m.phase == .releasing then
      if m.relWaits.all (s.reached c m.scope) && (s.earlierOps m.k id).all (fun o => !o.kind.binds && !o.kind.isRelease) &&
          !s.copyReleasing m.k id then some (finish s)
      else none
    else none
/-- COPY_COMPLETE (R335). -/
def execCopyComplete (s : State) : Host.Outcome State Fault Refusal :=
  match s.event with
  | some (.copyComplete id) => onEvent (doCopyComplete id s) s
  | _ => .next s

-- Failure

/-- A page that no service can place: its object is unknown or deleted, it lies past PAGES, or it is absent at the pool (R398, R405). -/
def State.unservable (s : State) (obj page : Nat) : Bool :=
  match tabGet s.objects obj with
  | some o => o.deleted || o.pages ≤ page || o.absent.contains page
  | none => true

/-- Why a piece of a command cannot be moved, if it cannot (R336). -/
def pieceCause (s : State) (m : Copy) (p : Nat) : Option (BitVec 8) :=
  let c := s.ctxAt m.k
  let pages := if m.op.fillsLines && (m.gotFor p).isSome then [] else piecePages m p
  let key := lineKey s.g (physLine c (m.desc.pieceLine p))
  let n := m.desc.pieceLen p
  let remotePoison := match m.gotFor p with | some f => f.poison | none => false
  let partBad := fun (_ : Unit) => (cutLines (m.desc.pieceAddr m.op p) n).any (fun q =>
    match copyAddr s m q.1 q.2 with
    | some ad => ad.space == .scratch && badPart s (lineKey ad.obj (ad.off / 128)) q.2
    | none => false)
  let gone := fun (_ : Unit) => m.op != .xfer && m.desc.cap.space = 1 && (insideParts m p).any (fun q => (copyAddr s m q.1 q.2).isNone)
  let closed := match s.channelOf m with
    | some ch => ((s.tenant c.sys.tenant).channel ch).closed m.op.holdsLines
    | none => false
  if closed then some Code.capSpace.num
  else if gone () then some Code.lineRange.num
  else if m.op != .putr && pages.any (fun q => (s.leafOf q.1 q.2).state == .lost && m.op != .bget) then some Code.eccUncorr.num
  else if m.op != .putr && pages.any (fun q => s.unservable q.1 q.2) then some Code.page.num
  else if m.op = .bget then none
  else if m.op.fillsLines && badPart s key n then some Code.form.num
  else if m.op.fillsLines && remotePoison then some Code.integrity.num
  else if m.op.holdsLines && (s.metaAt key).full && (s.metaAt key).form == .poison then some Code.integrity.num
  else if m.op = .put && (s.metaAt key).full && !mayLeave s m p then some Code.world.num
  else if m.op = .put && partBad () then some Code.form.num
  else if m.op = .xfer then
    match xferKey s m p with
    | none => some Code.lineRange.num
    | some key => if badPart s key n then some Code.form.num else none
  else if m.op = .putr && putrRefused s m p then some Code.capStale.num
  else none

/-- The write of a command that its home refuses (R177, R429, R430). -/
def refusedWrite (s : State) (id : Nat) : Option (WriteRec × BitVec 8) :=
  s.writes.findSome? (fun w => if w.copy == some id then (s.writeRefusal w).map (fun c => (w, c.num)) else none)

/-- Why a command fails, if it does: a refused write, or one of the pieces that are next or requested (R336). -/
def copyCause (s : State) (m : Copy) : Option (BitVec 8) :=
  match refusedWrite s m.id with
  | some (_, c) => some c
  | none => if m.phase == .active && m.refused then some Code.capStale.num else if m.phase == .active then (m.todo.take 4 ++ m.reqs).findSome? (pieceCause s m) else none

/-- Index within the extent of the first byte not delivered (R337). -/
def firstUndelivered (m : Copy) : Nat :=
  let ps := m.todo ++ m.acks.map (fun a => a.2.1)
  let at_ := fun (p : Nat) =>
    if m.op = .bget then p * 65536 - m.desc.rowAddr .bget 0 % 2 ^ 40 else m.desc.pieceByte p
  ps.foldl (fun best p => min best (at_ p)) (m.desc.bytes m.op)

/-- A line that a failed command did not write: full and poison (R195). -/
def State.poisonLine (s : State) (key : Nat) : State := s.setMeta key { s.metaAt key with full := true, form := .poison, attach := none }

/-- The scratchpad lines that a command has still to write, as they are placed now (R195, R336). -/
def undelivered (s : State) (m : Copy) : List Nat :=
  match m.op with
  | .xfer => m.todo.filterMap (xferKey s m)
  | .put => if m.desc.cap.space = 1 then
      (m.todo.map (fun p => (pieceParts s m p).filterMap (fun e => e.1.map (fun ad => lineKey ad.obj (ad.off / 128))))).flatten else []
  | _ => m.unfilled

/-- A command fails (R336): it stops sending, its unwritten lines become poison, its bytes are subtracted with ER, and it
waits for its fault to be delivered; in DRAIN the fault is entered in the launch's completion record (R106, R538). -/
def failCopy (m : Copy) (cause : BitVec 8) (s : State) : State :=
  let s := unpinAll m ((undelivered s m).foldl State.poisonLine (resyncRecord m (firstUndelivered m) s))
  let s := match m.ref with
    | some r => s.subtractLater r m.bytesLeft true
    | none => s
  let c := s.ctxAt m.k
  if c.state = .drain then
    retireCopy m.id (s.modLaunch c.sys.tenant c.sys.launch (fun l =>
      { l with asyncCount := l.asyncCount + 1, asyncFirst := match l.asyncFirst with | some e => some e | none => some Code.copyFault.num }))
  else s.modCopy m.id (fun m => { m with phase := .failed cause, failByte := firstUndelivered m, todo := [], reqs := [], got := [], acks := [], unfilled := [], pins := [], bytesLeft := 0 })

/-- A command fails with a cause that holds, or that is reported: an error of the engine's path, of the host, or the refusal of a
remote root (R336, R532). -/
def doCopyFail (id : Nat) (cause : BitVec 8) (s : State) : Option State :=
  match s.cr.copy id with
  | none => none
  | some m =>
    let outside := m.phase == .active && (cause == Code.eccUncorr.num || (cause == Code.capSpace.num && m.desc.cap.space = 4) ||
      (cause == Code.capStale.num && m.op == .putr && s.links.routes.any (fun r => r.obj == m.desc.rowAddr .putr 0 / 2 ^ 40)))
    if !m.isActive || !(outside || copyCause s m == some cause) then none
    else
      let s := match refusedWrite s id with
        | some (w, c) =>
          if c != cause then s
          else
            let s := (s.dropWrite w).dropCopies w.a
            if w.a.space = .pool then s.johel w.lt else s
        | none => s
      some (failCopy m cause s)
/-- COPY_FAIL (R336). -/
def execCopyFail (s : State) : Host.Outcome State Fault Refusal :=
  match s.event with
  | some (.copyFail id cause) => onEvent (doCopyFail id cause s) s
  | _ => .next s

end Sys2Proof.Machine
end

