-- ==== Sys2Proof/Machine/Crypto.lean ====
section
/-! DEFINITION. The ciphers and digests that Onyx and the boot ROM use: AES-256 (FIPS 197), its counter mode and GMAC
(SP 800-38A, SP 800-38D), SHA-256 and SHA-384 (FIPS 180-4), which the spec names (R469, R471, R477, R480, R551). -/

namespace Sys2Proof.Machine

-- AES-256

/-- The AES substitution table, entry i in byte i. -/
def aesTable : Nat :=
  0x16bb54b00f2d99416842e6bf0d89a18cdf2855cee9871e9b948ed9691198f8e19e1dc186b95735610ef6034866b53e708a8bbd4b1f74dde8c6b4a61c2e2578ba08ae7a65eaf4566ca94ed58d6d37c8e779e4959162acd3c25c2406490a3a32e0db0b5ede14b8ee4688902a22dc4f816073195d643d7ea7c41744975fec130ccdd2f3ff1021dab6bcf5389d928f40a351a89f3c507f02f94585334d43fbaaefd0cf584c4a39becb6a5bb1fc20ed00d153842fe329b3d63b52a05a6e1b1a2c830975b227ebe28012079a059618c323c7041531d871f1e5a534ccf73f362693fdb7c072a49cafa2d4adf04759fa7dc982ca76abd7fe2b670130c56f6bf27b777c63

/-- The AES substitution of a byte. -/
def aesSub (b : Nat) : Nat := aesTable / 2 ^ (8 * b) % 256

/-- Multiplication by x in the AES field. -/
def aesX (b : Nat) : Nat := if b < 128 then 2 * b else (2 * b) ^^^ 0x11B

/-- Bytes added in the AES field, one by one. -/
def xorBytes (a b : List Nat) : List Nat := List.zipWith (fun x y => x ^^^ y) a b

/-- The next four words of the AES-256 key schedule from the last eight, `i` the index of the first of them. -/
def aesKeyWord (i : Nat) (ws : List (List Nat)) (rcon : Nat) : List Nat :=
  let prev := ws[i - 1]?.getD []
  let t := if i % 8 = 0 then
      let r := ((prev.drop 1) ++ prev.take 1).map aesSub
      xorBytes r [rcon, 0, 0, 0]
    else if i % 8 = 4 then prev.map aesSub
    else prev
  xorBytes (ws[i - 8]?.getD []) t

/-- The key schedule extended word by word. -/
def aesSchedule : Nat → Nat → Nat → List (List Nat) → List (List Nat)
  | 0, _, _, ws => ws
  | n + 1, i, rcon, ws => aesSchedule n (i + 1) (if i % 8 = 0 then aesX rcon else rcon) (ws ++ [aesKeyWord i ws rcon])

/-- Bytes in runs of `n`. -/
def chunks {α : Type} (n fuel : Nat) (l : List α) : List (List α) :=
  match fuel with
  | 0 => []
  | f + 1 => if l.isEmpty then [] else l.take n :: chunks n f (l.drop n)

/-- The fifteen round keys of a 32-byte key, 16 bytes each. -/
def aesRoundKeys (key : List Nat) : List (List Nat) :=
  chunks 16 15 (aesSchedule 52 8 1 (chunks 4 8 key)).flatten

/-- The rows of the state shifted. -/
def aesShift (st : List Nat) : List Nat := (List.range 16).map (fun i => st[(i + 4 * (i % 4)) % 16]?.getD 0)

/-- One column mixed. -/
def aesMixColumn (c : List Nat) : List Nat :=
  match c with
  | [a, b, d, e] =>
    let all := a ^^^ b ^^^ d ^^^ e
    [a ^^^ all ^^^ aesX (a ^^^ b), b ^^^ all ^^^ aesX (b ^^^ d), d ^^^ all ^^^ aesX (d ^^^ e), e ^^^ all ^^^ aesX (e ^^^ a)]
  | o => o

/-- The rounds of AES-256 on a state, each with its round key. -/
def aesRounds : List (List Nat) → List Nat → List Nat
  | [], st => st
  | [k], st => xorBytes (aesShift (st.map aesSub)) k
  | k :: ks, st => aesRounds ks (xorBytes ((chunks 4 4 (aesShift (st.map aesSub))).map aesMixColumn).flatten k)

/-- One block encrypted under round keys. -/
def aesBlock (keys : List (List Nat)) (block : List Nat) : List Nat :=
  match keys with
  | [] => block
  | k :: ks => aesRounds ks (xorBytes block k)

/-- The `n` bytes of a number, most significant first. -/
def beBytes (n v : Nat) : List Nat := (List.range n).map (fun i => v / 2 ^ (8 * (n - 1 - i)) % 256)

/-- The number of bytes, most significant first. -/
def beNat (l : List Nat) : Nat := l.foldl (fun n b => n * 256 + b) 0

-- GMAC

/-- Multiplication in GCM's field, bit by bit: `x` is consumed from its most significant bit. -/
def ghashMul : Nat → Nat → Nat → Nat → Nat
  | 0, _, _, z => z
  | n + 1, x, v, z =>
    let z := if x / 2 ^ n % 2 = 1 then z ^^^ v else z
    let v := if v % 2 = 1 then (v / 2) ^^^ (0xE1 * 2 ^ 120) else v / 2
    ghashMul n x v z

/-- GHASH of 16-byte blocks under a key. -/
def ghash (h : Nat) (blocks : List Nat) : Nat := blocks.foldl (fun y b => ghashMul 128 (y ^^^ b) h 0) 0

/-- The GMAC tag of authenticated data under a 96-bit IV. -/
def gmac (key : List Nat) (iv : List Nat) (aad : List Nat) : Nat :=
  let keys := aesRoundKeys key
  let h := beNat (aesBlock keys (List.replicate 16 0))
  let blocks := (chunks 16 (aad.length + 1) aad).map (fun b => beNat b * 2 ^ (8 * (16 - b.length)))
  ghash h (blocks ++ [aad.length * 8 * 2 ^ 64]) ^^^ beNat (aesBlock keys (iv ++ [0, 0, 0, 1]))

-- SHA-2

/-- A message padded to whole blocks of `n` bytes, its bit length in the last `n / 8` bytes. -/
def shaPad (n : Nat) (m : List Nat) : List Nat :=
  let z := (n - (m.length + 1 + n / 8) % n) % n
  m ++ [0x80] ++ List.replicate z 0 ++ beBytes (n / 8) (m.length * 8)

/-- The amounts of SHA-2's six mixing functions: for each, two rotations and a rotation or shift. -/
structure ShaMix where
  w : Nat
  s0 : Nat × Nat × Nat
  s1 : Nat × Nat × Nat
  e0 : Nat × Nat × Nat
  e1 : Nat × Nat × Nat

/-- SHA-256's amounts. -/
def mix256 : ShaMix := { w := 32, s0 := (7, 18, 3), s1 := (17, 19, 10), e0 := (2, 13, 22), e1 := (6, 11, 25) }

/-- SHA-512's and SHA-384's amounts. -/
def mix512 : ShaMix := { w := 64, s0 := (1, 8, 7), s1 := (19, 61, 6), e0 := (28, 34, 39), e1 := (14, 18, 41) }

/-- A word rotated right. -/
def rotr (w n x : Nat) : Nat := (x / 2 ^ n) ||| (x * 2 ^ (w - n) % 2 ^ w)

/-- A mixing function of the schedule: two rotations and a shift. -/
def smallSigma (w : Nat) (r : Nat × Nat × Nat) (x : Nat) : Nat := rotr w r.1 x ^^^ rotr w r.2.1 x ^^^ (x / 2 ^ r.2.2)

/-- A mixing function of the rounds: three rotations. -/
def bigSigma (w : Nat) (r : Nat × Nat × Nat) (x : Nat) : Nat := rotr w r.1 x ^^^ rotr w r.2.1 x ^^^ rotr w r.2.2 x

/-- The message schedule, latest word first, extended by `n` words. -/
def shaSchedule (f : ShaMix) : Nat → List Nat → List Nat
  | 0, ws => ws
  | n + 1, ws =>
    let at_ := fun (i : Nat) => ws[i]?.getD 0
    shaSchedule f n (((smallSigma f.w f.s1 (at_ 1) + at_ 6 + smallSigma f.w f.s0 (at_ 14) + at_ 15) % 2 ^ f.w) :: ws)

/-- The rounds over (constant, schedule word) pairs. -/
def shaRounds (f : ShaMix) : List (Nat × Nat) → List Nat → List Nat
  | [], st => st
  | (k, w) :: rest, st =>
    match st with
    | [a, b, c, d, e, g, h, i] =>
      let t1 := i + bigSigma f.w f.e1 e + ((e &&& g) ^^^ ((2 ^ f.w - 1 - e) &&& h)) + k + w
      let t2 := bigSigma f.w f.e0 a + ((a &&& b) ^^^ (a &&& c) ^^^ (b &&& c))
      shaRounds f rest [(t1 + t2) % 2 ^ f.w, a, b, c, (d + t1) % 2 ^ f.w, e, g, h]
    | o => o

/-- One block absorbed. -/
def shaBlock (f : ShaMix) (ks st block : List Nat) : List Nat :=
  let ws := (chunks (f.w / 8) 16 block).map beNat
  let sched := (shaSchedule f (ks.length - 16) ws.reverse).reverse
  List.zipWith (fun a b => (a + b) % 2 ^ f.w) st (shaRounds f (ks.zip sched) st)

/-- The chaining value after a message. -/
def sha (f : ShaMix) (ks init m : List Nat) : List Nat :=
  let p := shaPad (f.w * 2) m
  (chunks (f.w * 2) (p.length / (f.w * 2)) p).foldl (shaBlock f ks) init

/-- SHA-256's constants. -/
def shaK256 : List Nat :=
  [0x428A2F98, 0x71374491, 0xB5C0FBCF, 0xE9B5DBA5, 0x3956C25B, 0x59F111F1, 0x923F82A4, 0xAB1C5ED5,
   0xD807AA98, 0x12835B01, 0x243185BE, 0x550C7DC3, 0x72BE5D74, 0x80DEB1FE, 0x9BDC06A7, 0xC19BF174,
   0xE49B69C1, 0xEFBE4786, 0x0FC19DC6, 0x240CA1CC, 0x2DE92C6F, 0x4A7484AA, 0x5CB0A9DC, 0x76F988DA,
   0x983E5152, 0xA831C66D, 0xB00327C8, 0xBF597FC7, 0xC6E00BF3, 0xD5A79147, 0x06CA6351, 0x14292967] ++
  [0x27B70A85, 0x2E1B2138, 0x4D2C6DFC, 0x53380D13, 0x650A7354, 0x766A0ABB, 0x81C2C92E, 0x92722C85,
   0xA2BFE8A1, 0xA81A664B, 0xC24B8B70, 0xC76C51A3, 0xD192E819, 0xD6990624, 0xF40E3585, 0x106AA070,
   0x19A4C116, 0x1E376C08, 0x2748774C, 0x34B0BCB5, 0x391C0CB3, 0x4ED8AA4A, 0x5B9CCA4F, 0x682E6FF3,
   0x748F82EE, 0x78A5636F, 0x84C87814, 0x8CC70208, 0x90BEFFFA, 0xA4506CEB, 0xBEF9A3F7, 0xC67178F2]

/-- SHA-512's constants. -/
def shaK512 : List Nat :=
  [0x428A2F98D728AE22, 0x7137449123EF65CD, 0xB5C0FBCFEC4D3B2F, 0xE9B5DBA58189DBBC,
   0x3956C25BF348B538, 0x59F111F1B605D019, 0x923F82A4AF194F9B, 0xAB1C5ED5DA6D8118,
   0xD807AA98A3030242, 0x12835B0145706FBE, 0x243185BE4EE4B28C, 0x550C7DC3D5FFB4E2,
   0x72BE5D74F27B896F, 0x80DEB1FE3B1696B1, 0x9BDC06A725C71235, 0xC19BF174CF692694] ++
  [0xE49B69C19EF14AD2, 0xEFBE4786384F25E3, 0x0FC19DC68B8CD5B5, 0x240CA1CC77AC9C65,
   0x2DE92C6F592B0275, 0x4A7484AA6EA6E483, 0x5CB0A9DCBD41FBD4, 0x76F988DA831153B5,
   0x983E5152EE66DFAB, 0xA831C66D2DB43210, 0xB00327C898FB213F, 0xBF597FC7BEEF0EE4,
   0xC6E00BF33DA88FC2, 0xD5A79147930AA725, 0x06CA6351E003826F, 0x142929670A0E6E70] ++
  [0x27B70A8546D22FFC, 0x2E1B21385C26C926, 0x4D2C6DFC5AC42AED, 0x53380D139D95B3DF,
   0x650A73548BAF63DE, 0x766A0ABB3C77B2A8, 0x81C2C92E47EDAEE6, 0x92722C851482353B,
   0xA2BFE8A14CF10364, 0xA81A664BBC423001, 0xC24B8B70D0F89791, 0xC76C51A30654BE30,
   0xD192E819D6EF5218, 0xD69906245565A910, 0xF40E35855771202A, 0x106AA07032BBD1B8] ++
  [0x19A4C116B8D2D0C8, 0x1E376C085141AB53, 0x2748774CDF8EEB99, 0x34B0BCB5E19B48A8,
   0x391C0CB3C5C95A63, 0x4ED8AA4AE3418ACB, 0x5B9CCA4F7763E373, 0x682E6FF3D6B2B8A3,
   0x748F82EE5DEFB2FC, 0x78A5636F43172F60, 0x84C87814A1F0AB72, 0x8CC702081A6439EC,
   0x90BEFFFA23631E28, 0xA4506CEBDE82BDE9, 0xBEF9A3F7B2C67915, 0xC67178F2E372532B] ++
  [0xCA273ECEEA26619C, 0xD186B8C721C0C207, 0xEADA7DD6CDE0EB1E, 0xF57D4F7FEE6ED178,
   0x06F067AA72176FBA, 0x0A637DC5A2C898A6, 0x113F9804BEF90DAE, 0x1B710B35131C471B,
   0x28DB77F523047D84, 0x32CAAB7B40C72493, 0x3C9EBE0A15C9BEBC, 0x431D67C49C100D4C,
   0x4CC5D4BECB3E42B6, 0x597F299CFC657E2A, 0x5FCB6FAB3AD6FAEC, 0x6C44198C4A475817]

/-- SHA-256's initial value. -/
def shaH256 : List Nat :=
  [0x6A09E667, 0xBB67AE85, 0x3C6EF372, 0xA54FF53A, 0x510E527F, 0x9B05688C, 0x1F83D9AB, 0x5BE0CD19]

/-- SHA-384's initial value. -/
def shaH384 : List Nat :=
  [0xCBBB9D5DC1059ED8, 0x629A292A367CD507, 0x9159015A3070DD17, 0x152FECD8F70E5939,
   0x67332667FFC00B31, 0x8EB44A8768581511, 0xDB0C2E0D64F98FA7, 0x47B5481DBEFA4FA4]

/-- SHA-256 of bytes, as 32 bytes. -/
def sha256 (m : List Nat) : List Nat := ((sha mix256 shaK256 shaH256 m).map (beBytes 4)).flatten

/-- SHA-384 of bytes, as 48 bytes. -/
def sha384 (m : List Nat) : List Nat := (((sha mix512 shaK512 shaH384 m).take 6).map (beBytes 8)).flatten

/-- Bytes as numbers. -/
def byteNats (l : List (BitVec 8)) : List Nat := l.map BitVec.toNat

/-- A digest laid in memory order, as a number (R10). -/
def digestNat (l : List Nat) : Nat := leNat (l.map (BitVec.ofNat 8))

end Sys2Proof.Machine
end

