-- ==== Sys2Proof/Machine/Translation.lean ====
section
/-! DEFINITION. Object maps, frames and translation (R394 to R415): walks, page service, shoot-downs, migration, revocation
and harvests; objects made and deleted. -/

namespace Sys2Proof.Machine

/-- An act on a core other than the one at hand, which is at hand again afterwards. -/
def State.within (s : State) (g : Nat) (f : State → State) : State := (f (s.focus g)).focus s.g

/-- Every core of the package that is not in its reset state. -/
def State.cores (s : State) : List (Nat × Core) := (s.g, s.cr) :: s.others

/-- Every resident context: core, context number and context. -/
def State.resident (s : State) : List (Nat × BitVec 2 × Ctx) :=
  (s.cores.map (fun e => (([0, 1, 2, 3] : List (BitVec 2)).map (fun k => (e.1, k, e.2.ctxs[k.toNat]))).filter
    (fun c => c.2.2.state != .free))).flatten

-- Gathered D and A

/-- The gathered bits of the matching TLB and extent entries flushed into the map and cleared (R411). -/
def State.flushDA (s : State) (tlb : Nat → TlbEntry → Bool) (ext : Nat → Extent → Bool) : State :=
  let t1 := (s.clusters.map (fun e => (e.2.tlb.filter (tlb e.1)).map (fun x => (x.obj, x.page, x.d, x.a)))).flatten
  let t2 := (s.resident.map (fun c => ((c.2.2.extents.filter (ext c.1)).map (fun x =>
    x.a.map (fun p => (x.obj, p, x.d.contains p, true)))).flatten)).flatten
  let s := (t1 ++ t2).foldl (fun s x => s.orLeaf x.1 x.2.1 x.2.2.1 x.2.2.2) s
  let s : State := { s with clusters := s.clusters.map (fun e => (e.1, { e.2 with tlb := e.2.tlb.map (fun x =>
    if tlb e.1 x then { x with d := false, a := false } else x) })) }
  let clear := fun (g : Nat) (c : Core) => { c with ctxs := c.ctxs.map (fun k => { k with extents := k.extents.map (fun x =>
    if ext g x then { x with d := [], a := [] } else x) }) }
  { s with cr := clear s.g s.cr, others := s.others.map (fun e => (e.1, clear e.1 e.2)) }

/-- DA_SWEEP: a cluster's sweep flushes the bits that its TLB and its cores' extents have gathered (R411). -/
def doDaSweep (cl : Nat) (s : State) : Option State :=
  some ((s.flushDA (fun c _ => c == cl) (fun g _ => clusterOf g == cl)).modCluster cl (fun c => { c with sweptAt := s.tnow }))
/-- DA_SWEEP (R411). -/
def execDaSweep (s : State) : Host.Outcome State Fault Refusal :=
  match s.event with
  | some (.daSweep cl) => onEvent (doDaSweep cl s) s
  | _ => .next s

-- Walks

/-- A walk's answer kept for the waiting bundle. -/
def State.answerWalk (s : State) (w : Walk) (a : WalkAnswer) : State :=
  s.within w.g (fun s => s.modCtxAt w.k (fun c => { c with answers := (w.space, w.obj, w.page, a) :: c.answers }))

/-- A walk is at one of its die's 32 walkers: the others queue (R399). A line form fetched over the crossbar takes none (R125). -/
def State.atWalker (s : State) (w : Walk) : Bool :=
  w.space == .scratch ||
    ((s.walks.filter (fun o => o.space != .scratch && dieOfCluster o.cluster == dieOfCluster w.cluster)).take 32).any (fun o => o.id == w.id)

/-- A walk ends (R400, R407): where the map version has changed it walks again; a generation that is not the header's ends it there; a
resident page fills the TLB; a moving one is waited for (R398). The form of another core's line has come (R125). -/
def doTlbWalkEnd (id : Nat) (s : State) : Option State :=
  match s.walks.find? (fun w => w.id == id) with
  | none => none
  | some w =>
    let done := { s with walks := s.walks.filter (fun o => o.id != id) }
    if !s.atWalker w then none
    else if w.space = .scratch then some (done.answerWalk w (.form (formAt s w.obj (w.page * 128))))
    else if w.version != s.version then
      some { s with walks := s.walks.map (fun o => if o.id == id then { o with version := s.version } else o) }
    else
      match s.genOf w.obj with
      | none => some (done.answerWalk w .absent)
      | some g =>
        if g != w.gen then some (done.answerWalk w .absent)
        else
          let l := s.leafOf w.obj w.page
          match l.state with
          | .invalid => some (done.answerWalk w .absent)
          | .lost => some (done.answerWalk w .lost)
          | .moving => none
          | .resident => some (done.fillTlb w.cluster { space := w.space, obj := w.obj, page := w.page, frame := l.frame, gen := g })
/-- TLB_WALK_END (R400, R407). -/
def execTlbWalkEnd (s : State) : Host.Outcome State Fault Refusal :=
  match s.event with
  | some (.tlbWalkEnd id) => onEvent (doTlbWalkEnd id s) s
  | _ => .next s

-- Frames

/-- The lowest number of [lo, hi] that a rising table has not. -/
def firstFree {α : Type} (lo hi : Nat) : Tab α → Option Nat
  | [] => if lo ≤ hi then some lo else none
  | (k, _) :: rest =>
    if hi < lo then none
    else if k < lo then firstFree lo hi rest
    else if k = lo then firstFree (lo + 1) hi rest
    else some lo

/-- A free page frame homed on a die (R395, R396). -/
def State.freeOnDie (s : State) (die : Nat) : Option Nat :=
  [2 * die, 2 * die + 1].findSome? (fun st => firstFree (st * 2 ^ 21 + 32768) (st * 2 ^ 21 + 1464842) s.frames)

/-- The free frame that a placement takes: on its die, else on the first of CD0 to CD7 that has one (R396). -/
def State.freeFrame (s : State) (die : Nat) : Option Nat := (die :: List.range 8).findSome? s.freeOnDie

/-- The cells of [lo, lo + n) of a memory moved to an address of another. -/
def moveCells (src dst : Memory) (lo n at_ : Nat) : Memory :=
  dst.filter (fun c => c.1 < at_) ++
    ((src.filter (fun c => lo ≤ c.1 && c.1 < lo + n)).map (fun c => (c.1 - lo + at_, c.2)) ++ dst.filter (fun c => at_ + n ≤ c.1))

/-- The numbers of [lo, lo + n) of a rising list moved to another place of a rising list. -/
def moveNums (src dst : List Nat) (lo n at_ : Nat) : List Nat :=
  dst.filter (fun c => c < at_) ++
    ((src.filter (fun c => lo ≤ c && c < lo + n)).map (fun c => c - lo + at_) ++ dst.filter (fun c => at_ + n ≤ c))

/-- The marked granules of lines of the pool, by granule number from a line on. -/
def poolMarks (f : PoolLine → BitVec 8) (lines : List (Nat × PoolLine)) : List Nat :=
  (lines.map (fun e => ((List.range 8).filter (fun i => (f e.2).getLsbD i)).map (fun i => e.1 * 8 + i))).flatten

/-- A frame's contents gone: bytes, tags, poison and timestamps. -/
def State.clearFrame (s : State) (f : Nat) : State :=
  { s with hbm := memClear s.hbm (f * 65536) (f * 65536 + 65536)
           hbmTags := s.hbmTags.filter (fun n => !(f * 4096 ≤ n && n < f * 4096 + 4096))
           hbmPoison := s.hbmPoison.filter (fun n => !(f * 4096 ≤ n && n < f * 4096 + 4096))
           frameTs := tabEraseRange s.frameTs (f * 512) (f * 512 + 512) }

/-- A page of the pool brought into a frame with its tags, which the map entry records, and the timestamps of its lines, but those that no
write or read has met, whose first load renews them; a local page is zeroed (R172, R342, R403). -/
def State.loadPage (s : State) (pool : Bool) (obj page f : Nat) : State :=
  let s := s.clearFrame f
  if !pool then s
  else
    let line0 := poolKey obj (page * 512)
    let lines := s.poolLines.filter (fun e => line0 ≤ e.1 && e.1 < line0 + 512)
    let marks := poolMarks PoolLine.tags lines
    let s : State := { s with
      hbm := moveCells s.pool s.hbm (line0 * 128) 65536 (f * 65536)
      hbmTags := moveNums marks s.hbmTags (line0 * 8) 4096 (f * 4096)
      hbmPoison := moveNums (poolMarks PoolLine.poison lines) s.hbmPoison (line0 * 8) 4096 (f * 4096)
      frameTs := lines.foldl (fun t e => tabSet t (f * 512 + (e.1 - line0)) (s.poolTs e.1)) s.frameTs }
    if marks.isEmpty then s else s.modLeaf obj page (fun l => { l with t := true })

/-- A frame freed: its contents are gone. -/
def State.freeFrameAt (s : State) (f : Nat) : State := { s.clearFrame f with frames := tabErase s.frames f }

-- The tree of an object map

/-- The address of the `n`-th node of the reserved frames: [28:4] frame, [3:0] node within it (R397; the order in which nodes are taken is a
DESIGN CHOICE of the log). -/
def nodeAddress (n : Nat) : BitVec 29 := BitVec.ofNat 29 ((n / 16 / 32768 * 2 ^ 21 + n / 16 % 32768) * 16 + n % 16)

/-- The key of the node that holds a page's entry at a level, 1 the leaf level (R397). -/
def nodeKey (level page : Nat) : Nat := level * 2 ^ 24 + page / 2 ^ (9 * level)

/-- The nodes on the way to a page, made where none is yet (R397). -/
def State.growTree (s : State) (obj page : Nat) : State :=
  (List.range 3).foldl (fun s i =>
    match tabGet s.objects obj with
    | some o =>
      if o.levels.toNat ≤ i || (tabGet o.nodes (nodeKey (i + 1) page)).isSome then s
      else { s with nextNode := s.nextNode + 1
                    objects := tabSet s.objects obj { o with nodes := tabSet o.nodes (nodeKey (i + 1) page) (nodeAddress s.nextNode) } }
    | none => s) s

/-- What walks have found for waiting bundles of a page is no longer so: the next access walks again (R400). -/
def State.dropAnswers (s : State) (obj page : Nat) : State :=
  s.mapCtxs (fun c => { c with answers := c.answers.filter (fun a => a.1 == .scratch || a.2.1 != obj || a.2.2.1 != page) })

/-- A page placed: its leaf RESIDENT in a frame, under the nodes that lead to it (R397, R400). -/
def State.placeLeaf (s : State) (obj page f : Nat) : State :=
  ((s.growTree obj page).modLeaf obj page (fun l => { l with state := .resident, frame := f })).dropAnswers obj page

/-- The 64-byte header record of an object's map (R397). -/
def ObjMap.header (o : ObjMap) (obj : Nat) : BitVec 512 :=
  BitVec.ofNat 512 (packFields [(obj, 104), (o.gen.toNat, 96), (if o.pool then 3 else 2, 93), (o.tenant.toNat, 89), (o.levels.toNat, 87),
    (o.pages, 40), (o.root.toNat, 0)])

/-- The STATE field of an entry (R398). -/
def PageState.num : PageState → Nat
  | .invalid => 0 | .resident => 1 | .moving => 2 | .lost => 3

/-- A leaf entry as its 64 bits (R398). -/
def Leaf.word (l : Leaf) : Word :=
  BitVec.ofNat 64 (packFields [(l.state.num, 62), (l.d.toNat, 61), (l.a.toNat, 60), (l.t.toNat, 59), (l.frame, 0)])

/-- The entry of an object's tree at a level for a page: a leaf at level 1, an interior one above it (R397, R398). -/
def ObjMap.entry (o : ObjMap) (level page : Nat) : Word :=
  if level ≤ 1 then ((tabGet o.leaves page).getD {}).word
  else
    match tabGet o.nodes (nodeKey (level - 1) page) with
    | some n => BitVec.ofNat 64 (2 ^ 62 + n.toNat)
    | none => 0

-- Shoot-downs

/-- The matching TLB entries dropped, their D and A flushed first (R406). -/
def State.dropTlb (s : State) (p : TlbEntry → Bool) : State :=
  let s := s.flushDA (fun _ e => p e) (fun _ _ => false)
  { s with clusters := s.clusters.map (fun e => (e.1, { e.2 with tlb := e.2.tlb.filter (fun x => !p x) })) }

/-- Operations of every context that have translated an address, among them the lanes of gathers. -/
def State.queuedOn (s : State) (p : MAddr → Bool) : List Nat :=
  (s.resident.map (fun c => (c.2.2.mq.filter (fun o => o.kind.spots.any (fun q => p q.1))).map MemOp.id)).flatten

/-- Accesses that have translated an address and not been accepted at the L2 home of its frame (R409). -/
def State.outstandingOn (s : State) (p : MAddr → Bool) : List Nat :=
  s.queuedOn p ++ ((s.writes.filter (fun w => p w.a && !w.granted)).map WriteRec.id)

/-- Accesses that are not complete: queued, or written and not acknowledged everywhere (R179). -/
def State.incompleteOn (s : State) (p : MAddr → Bool) : List Nat := s.queuedOn p ++ ((s.writes.filter (fun w => p w.a)).map WriteRec.id)

/-- An address lies in a page of an object. -/
def onPage (obj page : Nat) (a : MAddr) : Bool :=
  (a.space == .local || a.space == .pool) && a.obj == obj && a.off / 65536 == page

/-- A shoot-down of a page begins (R406): MOVING, a new map version, every TLB entry dropped. The pinned lines of the page answer RETRY to the
writes that it waits for (R386). -/
def State.startShoot (s : State) (obj page : Nat) (why : ShootFor) : State :=
  let s := s.modLeaf obj page (fun l => { l with state := .moving })
  let asked := fun (l : CLine) =>
    if l.pin && l.obj == obj && l.line / 512 == page then { l with retrySince := l.retrySince.or (some s.tnow) } else l
  let s : State := { s with version := s.version + 1, clusters := s.clusters.map (fun e => (e.1, { e.2 with cache := e.2.cache.map asked })) }
  let s := s.dropTlb (fun e => e.obj == obj && e.page == page)
  { s with shoots := s.shoots ++ [{ obj := obj, page := page, why := why, waits := s.outstandingOn (onPage obj page) }] }

/-- A resident page that may be shot down: no extent pin, and no shoot-down under way (R406). -/
def State.mayShoot (s : State) (obj page : Nat) : Bool :=
  let l := s.leafOf obj page
  l.state == .resident && (match tabGet s.frames l.frame with | some f => f.extentPins == 0 | none => true) &&
    !s.shoots.any (fun h => h.obj == obj && h.page == page)

/-- SHOOT_DOWN: an eviction of a pool page asked for by the host or the operator; one that an extent pins is refused, and
local pages are never evicted (R404, R406). -/
def doShootDown (obj page : Nat) (s : State) : Option State :=
  match tabGet s.objects obj with
  | some o => if o.pool && s.mayShoot obj page then some (s.startShoot obj page (.evict false)) else none
  | none => none
/-- SHOOT_DOWN (R406). -/
def execShootDown (s : State) : Host.Outcome State Fault Refusal :=
  match s.event with
  | some (.shootDown obj page) => onEvent (doShootDown obj.toNat page.toNat s) s
  | _ => .next s

/-- PAGE_MIGRATE: a migration to a free frame, which is reserved for the page, begins with its shoot-down (R396, R410). -/
def doPageMigrate (obj page frame : Nat) (s : State) : Option State :=
  if s.mayShoot obj page && (tabGet s.frames frame).isNone && 32768 ≤ frame % 2 ^ 21 && frame % 2 ^ 21 ≤ 1464842 then
    let pool := match tabGet s.objects obj with | some o => o.pool | none => false
    some ({ s.startShoot obj page (.migrate frame) with frames := tabSet s.frames frame { pool := pool, obj := obj, page := page } })
  else none
/-- PAGE_MIGRATE (R410). -/
def execPageMigrate (s : State) : Host.Outcome State Fault Refusal :=
  match s.event with
  | some (.pageMigrate obj page frame) => onEvent (doPageMigrate obj.toNat page.toNat frame.toNat s) s
  | _ => .next s

/-- A page moved from its frame to another with its tags; the writes on their way to its pool home follow it (R410, R365). -/
def State.movePage (s : State) (obj page f1 f2 : Nat) : State :=
  let rec_ := (tabGet s.frames f1).getD { pool := false, obj := obj, page := page }
  let ts := s.frameTs.filter (fun e => f1 * 512 ≤ e.1 && e.1 < f1 * 512 + 512)
  let s : State := { s with
    hbm := moveCells s.hbm s.hbm (f1 * 65536) 65536 (f2 * 65536)
    hbmTags := moveNums s.hbmTags s.hbmTags (f1 * 4096) 4096 (f2 * 4096)
    hbmPoison := moveNums s.hbmPoison s.hbmPoison (f1 * 4096) 4096 (f2 * 4096)
    frameTs := ts.foldl (fun t e => tabSet t (e.1 - f1 * 512 + f2 * 512) e.2) s.frameTs
    clusters := s.clusters.map (fun e => (e.1, { e.2 with cache := e.2.cache.map (fun l =>
      if l.obj == obj && l.line / 512 == page then { l with frame := f2 } else l) }))
    writes := s.writes.map (fun w => if onPage obj page w.a then { w with a := { w.a with frame := f2 } } else w) }
  let s := s.freeFrameAt f1
  ({ s with frames := tabSet s.frames f2 rec_ }).modLeaf obj page (fun l => { l with state := .resident, frame := f2 })

/-- What a shoot-down still waits for: pins, every request under the old entry to be accepted at the home, and for an eviction every write to the
frame acknowledged by the pool home (R404, R406, R410). -/
def State.shootReady (s : State) (h : Shoot) : Bool :=
  let f := (s.leafOf h.obj h.page).frame
  let pins := match tabGet s.frames f with | some r => r.copyPins + r.extentPins | none => 0
  let quiet := (s.outstandingOn (onPage h.obj h.page)).isEmpty
  match h.why with
  | .migrate _ => pins == 0 && quiet
  | .evict _ => pins == 0 && quiet && !s.writes.any (fun w => onPage h.obj h.page w.a)
  | .setLost => pins == 0 && quiet
  | .revoke => false

/-- A shoot-down completes, and what it was for is done (R406, R410). -/
def doShootDownComplete (obj page : Nat) (s : State) : Option State :=
  match s.shoots.find? (fun h => h.obj == obj && h.page == page && h.why != ShootFor.revoke) with
  | none => none
  | some h =>
    if !s.shootReady h then none
    else
      let f := (s.leafOf obj page).frame
      let s : State := { s with shoots := s.shoots.filter (fun o => !(o.obj == obj && o.page == page && o.why != ShootFor.revoke)) }
      match h.why with
      | .migrate f2 => some (s.movePage obj page f f2)
      | .evict service =>
        let s := (s.freeFrameAt f).modLeaf obj page (fun l => { l with state := .invalid, frame := 0 })
        if service then
          some { s with services := s.services.map (fun v => if v.victim == some (obj, page) then { v with victim := none, frame := some f } else v)
                        frames := match s.services.find? (fun v => v.victim == some (obj, page)) with
                          | some v => tabSet s.frames f { pool := v.pool, obj := v.obj, page := v.page }
                          | none => s.frames }
        else some s
      | .setLost => some ((s.freeFrameAt f).modLeaf obj page (fun l => { l with state := .lost, frame := 0 }))
      | .revoke => none
/-- SHOOT_DOWN_COMPLETE (R406, R410). -/
def execShootDownComplete (s : State) : Host.Outcome State Fault Refusal :=
  match s.event with
  | some (.shootDownComplete obj page) => onEvent (doShootDownComplete obj.toNat page.toNat s) s
  | _ => .next s

-- Page service

/-- A context in PAGE waits for the page (R81). -/
def Ctx.waitsFor (c : Ctx) (obj page : Nat) : Bool :=
  c.state == .page && (match c.pageWait with | some (_, o, p) => o == obj && p == page | none => false)

/-- The pages that a command reaches at its turn and has not pinned (R342, R403). -/
def Copy.wanted (m : Copy) : List (Nat × Nat) :=
  if m.phase != .active || m.op == .putr then []
  else ((m.todo.take 4).map (piecePages m)).flatten.filter (fun q => (m.pinned q.1 q.2).isNone)

/-- The commands of all cores, each with its core. -/
def State.allCopies (s : State) : List (Nat × Copy) := (s.cores.map (fun e => e.2.copies.map (fun m => (e.1, m)))).flatten

/-- The pages that copies at their turn, Jasper's bulk gets and PREFs need (R342, R343, R403, R445). -/
def State.wantedPages (s : State) : List (Nat × Nat) :=
  (s.allCopies.map (fun e => e.2.wanted)).flatten ++ (s.bulks.map (fun b => b.pages.map (fun p => (b.obj, p)))).flatten ++
    s.prefs.map (fun q => (q.2.2.1, q.2.2.2))

/-- Bulk gets, of BGET or of Jasper, that want a page (R342, R445). -/
def State.bulkWants (s : State) (obj page : Nat) : Bool :=
  s.allCopies.any (fun e => e.2.op == .bget && e.2.wanted.contains (obj, page)) || s.bulks.any (fun b => b.obj == obj && b.pages.contains page)

/-- The die of the cluster that causes a placement: of a context in PAGE, of a command's core, of a PREF; a placement for Jasper alone is taken
to be caused on the die where its launch runs, else on CD0 (R396; log). -/
def State.placingDie (s : State) (obj page : Nat) : Nat :=
  match s.resident.find? (fun c => c.2.2.waitsFor obj page), s.allCopies.find? (fun e => e.2.wanted.contains (obj, page)),
      s.prefs.find? (fun q => q.2.2.1 == obj && q.2.2.2 == page) with
  | some (g, _, _), _, _ => g / 192
  | none, some (g, _), _ => g / 192
  | none, none, some (die, _) => die
  | none, none, none =>
    match s.bulks.find? (fun b => b.obj == obj && b.pages.contains page) with
    | some b =>
      match s.placements.find? (fun p => p.tenant == b.tenant && p.launch == b.launch) with
      | some p => dieOfCluster p.cluster
      | none => 0
    | none => 0

/-- A page needs to be placed: someone waits for it, it is not resident, and no service is under way. A lost pool page is placed afresh for a
page fault or a bulk get (R398). -/
def State.needsService (s : State) (obj page : Nat) : Bool :=
  let l := s.leafOf obj page
  let pool := match tabGet s.objects obj with | some o => o.pool | none => false
  let fault := s.resident.any (fun c => c.2.2.waitsFor obj page)
  (((fault || s.wantedPages.contains (obj, page)) && l.state == .invalid) ||
    ((fault || s.bulkWants obj page) && l.state == .lost && pool)) &&
    !s.services.any (fun v => v.obj == obj && v.page == page) && !s.unservable obj page

/-- The clock hand's choice of a victim among frames in order: A bits are cleared as it passes (R404). -/
def clockPick : List (Nat × FrameRec) → State → State × Option Nat
  | [], s => (s, none)
  | (f, r) :: rest, s =>
    if !r.pool || r.extentPins != 0 || r.copyPins != 0 || (s.leafOf r.obj r.page).state != .resident then clockPick rest s
    else if (s.leafOf r.obj r.page).a then clockPick rest (s.modLeaf r.obj r.page (fun l => { l with a := false }))
    else ({ s with clockHand := f + 1 }, some f)

/-- The frames from the clock hand on, twice round (R404). -/
def State.clockOrder (s : State) : List (Nat × FrameRec) :=
  let round := s.frames.filter (fun e => s.clockHand ≤ e.1) ++ s.frames.filter (fun e => e.1 < s.clockHand)
  round ++ round

/-- A page fault is served (R403, R404): in hardware mode a free frame is taken, or a victim's eviction begins; in
host-assisted mode an event goes to the tenant. -/
def doPageService (obj page : Nat) (s : State) : Option State :=
  match tabGet s.objects obj with
  | none => none
  | some o =>
    if !s.needsService obj page then none
    else
      let die := s.placingDie obj page
      let sv : PageService := { obj := obj, page := page, pool := o.pool, die := die, sent := s.sentNow obj }
      if (s.tenant o.tenant).pfmode then
        some (({ s with services := s.services ++ [sv] }).postRecord o.tenant (.pageFault obj page))
      else
        match s.freeFrame die with
        | some f => some { s with services := s.services ++ [{ sv with frame := some f }]
                                  frames := tabSet s.frames f { pool := o.pool, obj := obj, page := page } }
        | none =>
          match clockPick s.clockOrder s with
          | (s, some f) =>
            match tabGet s.frames f with
            | some r => some (({ s with services := s.services ++ [{ sv with victim := some (r.obj, r.page) }] }).startShoot r.obj r.page (.evict true))
            | none => none
          | (_, none) => none
/-- PAGE_SERVICE (R403, R404). -/
def execPageService (s : State) : Host.Outcome State Fault Refusal :=
  match s.event with
  | some (.pageService obj page) => onEvent (doPageService obj.toNat page.toNat s) s
  | _ => .next s

/-- An operation that owes a scalar register its result (R81, R414). -/
def MemKind.owes : MemKind → Bool
  | .load .. => true
  | .atomic .. => true
  | .arrive .. => true
  | .harv .. => true
  | .lease .. => true
  | .hwin .. => true
  | _ => false

/-- An operation is in-flight work: it owes a scalar result, or is a lane of a gather or scatter (R81, R281). -/
def MemOp.inFlight (o : MemOp) : Bool := o.kind.owes || o.kind.binds || o.lane.isSome

/-- The in-flight work of a context of the core at hand has drained: scalar results, vector and tile results, lanes, merge-unit commands, SEAL
and OPEN (R81, R281, R313, R414, R464, R478). -/
def State.pageDrained (s : State) (k : BitVec 2) : Bool :=
  (s.ctxAt k).mq.all (fun o => !o.inFlight) && !s.cr.flights.any (fun f => f.k == k) && !s.mergePending k && s.cr.cipher.all (fun j => j.k != k)

/-- A context in PAGE whose page has come is READY once its drain is over (R81, R82). -/
def State.leavePage (s : State) (k : BitVec 2) : State :=
  let drained := s.pageDrained k
  s.modCtxAt k (fun c => { c with pageWait := none, waitCnt := 0, state := if drained then .ready else c.state })

/-- The page that contexts in PAGE wait for has come (R403). -/
def State.wakePage (s : State) (obj page : Nat) : State :=
  (s.resident.filter (fun c => c.2.2.waitsFor obj page)).foldl (fun s c => s.within c.1 (fun s => s.leavePage c.2.1)) s

/-- A frame filled by the host (R403): its bytes, zero where it gives none, tags clear. -/
def State.hostFill (s : State) (f : Nat) (bytes : List (BitVec 8)) : State :=
  let s := s.clearFrame f
  { s with hbm := memWrite s.hbm (f * 65536) (bytes.take 65536) }

/-- The PREFs that asked for a page: its first line is fetched for each (R343). -/
def State.endPrefs (s : State) (obj page : Nat) : State :=
  let mine := s.prefs.filter (fun q => q.2.2.1 == obj && q.2.2.2 == page)
  mine.foldl (fun s q => prefetchLine q.1 q.2.1 obj page s) { s with prefs := s.prefs.filter (fun q => !(q.2.2.1 == obj && q.2.2.2 == page)) }

/-- The pool home's answer to the bulk get of a page service: HT follows the LT of the request, and LT the floor of the answer (R416 to R418). -/
def State.bulkAnswer (s : State) (v : PageService) : State := if v.pool then s.johel v.sent.lt else s

/-- A page becomes RESIDENT (R403): in hardware mode in the frame that the lease unit took, zeroed or fetched; in host-assisted mode in the
free frame that the host names, with what the host fills it with, or fetched where the host chooses that. -/
def doPageResident (obj page : Nat) (fill : Option (Nat × List (BitVec 8))) (s : State) : Option State :=
  match s.services.find? (fun v => v.obj == obj && v.page == page && v.victim.isNone) with
  | none => none
  | some v =>
    let host := match tabGet s.objects obj with | some o => (s.tenant o.tenant).pfmode | none => false
    let frame := match fill with
      | none => if host then none else v.frame
      | some (f, _) => if host && (tabGet s.frames f).isNone && 32768 ≤ f % 2 ^ 21 && f % 2 ^ 21 ≤ 1464842 then some f else none
    match frame with
    | none => none
    | some f =>
      if s.unservable obj page then none
      else
        let s : State := { s with services := s.services.filter (fun o => !(o.obj == obj && o.page == page)),
                                  frames := tabSet s.frames f { pool := v.pool, obj := obj, page := page } }
        let s := match fill with
          | some (_, b :: bs) => s.hostFill f (b :: bs)
          | _ => (s.bulkAnswer v).loadPage v.pool obj page f
        some (((s.placeLeaf obj page f).wakePage obj page).endPrefs obj page)
/-- PAGE_RESIDENT (R403). -/
def execPageResident (s : State) : Host.Outcome State Fault Refusal :=
  match s.event with
  | some (.pageResident obj page fill) => onEvent (doPageResident obj.toNat page.toNat (fill.map (fun f => (f.1.toNat, f.2))) s) s
  | _ => .next s

/-- A context in PAGE whose page cannot be placed: its PAGE turns into a fault with TRAPI[63] set, whose fate the policy
decides (R405). -/
def State.failPage (s : State) (k : BitVec 2) : State :=
  let c := s.ctxAt k
  let c := { c with pageWait := none, waitCnt := 0, sys := { c.sys with trapi := c.sys.trapi ||| (1#64 <<< 63) } }
  let fate := fateOf (s.fpol c) Code.page.num
  let s := s.postRecord c.sys.tenant (.fault (faultRecord s.tnow c fate))
  match fate with
  | .halt => s.setCtxAt k { c with state := .halt }
  | .task => (s.setCtxAt k c.enterDrain).noteFault c Code.page.num
  | .gang => ((s.setCtxAt k c.enterDrain).noteFault c Code.page.num).endWork c true
  | .launch => ((s.setCtxAt k c.enterDrain).noteFault c Code.page.num).endWork c false

/-- PAGE_SERVICE_FAIL (R405). -/
def doPageServiceFail (obj page : Nat) (s : State) : Option State :=
  let ws := s.resident.filter (fun c => c.2.2.waitsFor obj page)
  if !s.unservable obj page || ws.isEmpty then none
  else
    let s : State := { s with services := s.services.filter (fun v => !(v.obj == obj && v.page == page)) }
    some (ws.foldl (fun s c => s.within c.1 (fun s => if (s.ctxAt c.2.1).waitsFor obj page then s.failPage c.2.1 else s)) s)
/-- PAGE_SERVICE_FAIL (R405). -/
def execPageServiceFail (s : State) : Host.Outcome State Fault Refusal :=
  match s.event with
  | some (.pageServiceFail obj page) => onEvent (doPageServiceFail obj.toNat page.toNat s) s
  | _ => .next s

-- Revocation

/-- An address of an object. -/
def ofObj (obj : Nat) (a : MAddr) : Bool := (a.space == .local || a.space == .pool) && a.obj == obj

/-- The commands that reach an object and have not finished. -/
def State.copiesOn (s : State) (obj : Nat) : List Nat :=
  (s.allCopies.filter (fun e => !e.2.hasFailed && (e.2.desc.cap.space = 2 || e.2.desc.cap.space = 3) && e.2.desc.capObj e.2.op == obj)).map
    (fun e => e.2.id)

/-- REVOKE: the object's generation in the header goes up; at 255 its number is retired, and its map stays for the copies that have passed their
check (R175, R179, R181, R406). The homes take the new generation
when no access checked under the old one is left. A bump that the pool home makes alone stands there at once (R182). -/
def doRevoke (obj : Nat) (home : Bool) (s : State) : Option State :=
  match tabGet s.objects obj with
  | none => none
  | some o =>
    if !o.stands then none
    else if home then
      if o.pool && o.homeGen != 255 then some { s with objects := tabSet s.objects obj { o with homeGen := o.homeGen + 1 } } else none
    else
      let o := if o.gen = 255 then { o with retired := true } else { o with gen := o.gen + 1 }
      let waits := s.incompleteOn (ofObj obj) ++ s.copiesOn obj
      let s : State := { s with objects := tabSet s.objects obj o, version := s.version + 1 }
      let s := s.dropTlb (fun e => e.obj == obj)
      some { s with shoots := s.shoots ++ [{ obj := obj, page := 0, why := .revoke, waits := waits }] }
/-- REVOKE (R179). -/
def execRevoke (s : State) : Host.Outcome State Fault Refusal :=
  match s.event with
  | some (.revoke obj home) => onEvent (doRevoke obj.toNat home s) s
  | _ => .next s

/-- REVOKE_COMPLETE: no access or copy checked under the old generation is outstanding; the homes hold the new generation, and the bump is
reported to the object's tenant (R177, R179, R182). -/
def doRevokeComplete (obj : Nat) (s : State) : Option State :=
  match s.shoots.find? (fun h => h.obj == obj && h.why == ShootFor.revoke), tabGet s.objects obj with
  | some h, some o =>
    let open_ := s.incompleteOn (ofObj obj) ++ s.copiesOn obj
    if h.waits.any (fun i => open_.contains i) then none
    else
      let o := { o with homeGen := if o.homeGen.toNat < o.gen.toNat then o.gen else o.homeGen }
      some (({ s with shoots := s.shoots.erase h, objects := tabSet s.objects obj o } : State).postRecord o.tenant (.revoked obj o.gen))
  | _, _ => none
/-- REVOKE_COMPLETE (R179). -/
def execRevokeComplete (s : State) : Host.Outcome State Fault Refusal :=
  match s.event with
  | some (.revokeComplete obj) => onEvent (doRevokeComplete obj.toNat s) s
  | _ => .next s

/-- A capability whose generation is stale loses its tag (R180). -/
def State.sweepCap (s : State) (c : Cap) : Cap :=
  if c.tag && (c.space = 2 || c.space = 3) && stale s c (c.cursor.toNat / 2 ^ 40) then { c with tag := false } else c

/-- The registers and descriptors of a context swept (R180). -/
def State.sweepCtx (s : State) (c : Ctx) : Ctx :=
  { c with c := c.c.map (fun r => { r with cap := s.sweepCap r.cap }), d := c.d.map (fun d => { d with cap := s.sweepCap d.cap }) }

/-- The granules of a line whose tags stand after the sweep (R180). -/
def State.sweepTags (s : State) (tags : BitVec 8) (data : LineData) : BitVec 8 :=
  BitVec.ofNat 8 ((List.range 8).foldl (fun n g =>
    let cap : Cap := { tag := tags.getLsbD g, bits := (data >>> (128 * g)).setWidth 128 }
    if (s.sweepCap cap).tag then n + 2 ^ g else n) 0)

/-- The sweep works through a page: one of a local object whose map entry records set tags, and whose tenant leaves the sweep to the command
processor (R180, R487). -/
def State.sweeps (s : State) (obj page : Nat) : Bool :=
  match tabGet s.objects obj with
  | some o => !o.pool && (s.leafOf obj page).t && !(s.tenant o.tenant).rvmode
  | none => false

/-- A tagged granule of HBM stands after the sweep (R180). DEDUCED: one in a frame that holds a pool page stands. -/
def State.hbmTagStands (s : State) (n : Nat) : Bool :=
  match tabGet s.frames (n / 4096) with
  | none => true
  | some r => !s.sweeps r.obj r.page || (s.sweepCap { tag := true, bits := BitVec.ofNat 128 (leNat (memRead s.hbm (n * 16) 16)) }).tag

/-- A copy of a line of a swept page after the sweep (R180). -/
def State.sweepVal (s : State) (obj line : Nat) (v : LineVal) : LineVal :=
  if s.sweeps obj (line / 512) then { v with tags := s.sweepTags v.tags v.data } else v

/-- REVOCATION_SWEEP (R180, R487): contexts between bundles, images, and the local pages of HBM that record set tags, with the copies of their
lines in the caches; in host-assisted mode the image and HBM sweeps of a tenant are posted to its host. -/
def doRevocationSweep (s : State) : Option State :=
  let assisted := fun (t : BitVec 4) => (s.tenant t).rvmode
  let t := s.mapCtxs s.sweepCtx
  let t : State := { t with
    images := s.images.map (fun i => if assisted i.tenant then i else
      { i with ctxs := i.ctxs.map s.sweepCtx
               lines := i.lines.map (fun l => (l.1, (l.2.1, { l.2.2 with tag := s.sweepTags l.2.2.tag (i.crypt (2 * l.1) l.2.1) }))) })
    hbmTags := s.hbmTags.filter s.hbmTagStands
    clusters := s.clusters.map (fun e => (e.1, { e.2 with cache := e.2.cache.map (fun l => { l with val := s.sweepVal l.obj l.line l.val }) }))
    rdc := s.rdc.map (fun r => { r with val := s.sweepVal r.obj r.line r.val }) }
  some (s.tenants.foldl (fun t e => if e.2.rvmode then t.postRecord (BitVec.ofNat 4 e.1) .sweep else t) t)
/-- REVOCATION_SWEEP (R180). -/
def execRevocationSweep (s : State) : Host.Outcome State Fault Refusal :=
  match s.event with
  | some .revocationSweep => onEvent (doRevocationSweep s) s
  | _ => .next s

-- Objects and harvest lists

/-- A page of an object placed at once in a free frame of a die, zeroed or fetched. -/
def State.placePage (s : State) (obj page die : Nat) : Option State :=
  match s.freeFrame die, tabGet s.objects obj with
  | some f, some o =>
    let s : State := { s with frames := tabSet s.frames f { pool := o.pool, obj := obj, page := page } }
    some (((if o.pool then s.johel s.lt else s).loadPage o.pool obj page f).placeLeaf obj page f)
  | _, _ => none

/-- A tenant's sealing root: a system-space capability with SEAL and UNSEAL and the bounds [1, 15) (R156). -/
def sealingRoot : Cap := (exactCap 0 6 (BitVec.ofNat 12 (2 ^ Perm.seal.bit + 2 ^ Perm.unseal.bit)) 1 14).getD { tag := false, bits := 0 }

/-- A capability laid in a granule of an object's resident page by the command processor (R154, R156). -/
def State.placeCap (s : State) (obj granule : Nat) (c : Cap) : State :=
  s.grantWrite { space := .local, obj := obj, off := granule * 16, frame := (s.leafOf obj (granule / 4096)).frame } (leBytes 16 c.bits.toNat)
    (BitVec.ofNat 8 (2 ^ (granule % 8)))

/-- The sealing root laid in a granule of a local object, whose page is placed where it is not (R156). -/
def State.placeRoot (s : State) (obj granule : Nat) : State :=
  let page := granule / 4096
  let s := if (s.leafOf obj page).state == .resident then s else (s.placePage obj page 0).getD s
  if (s.leafOf obj page).state == .resident then s.placeCap obj granule sealingRoot else s

/-- An object number can be used: no object has had it, or its object is deleted below the final generation, with its bumps complete and no access
that passed a check left (R154, R179, R181). -/
def State.numberFree (s : State) (obj : Nat) : Bool :=
  match tabGet s.objects obj with
  | none => true
  | some o => o.deleted && !o.retired && o.gen != 255 && !s.shoots.any (fun h => h.obj == obj) && (s.incompleteOn (ofObj obj)).isEmpty &&
      (s.copiesOn obj).isEmpty

/-- The generation of the next object of a number: 0, or one above its last object's (R154, R181). -/
def State.nextGen (s : State) (obj : Nat) : BitVec 8 :=
  match tabGet s.objects obj with
  | none => 0
  | some o => o.gen + 1

/-- An object's map made: its header and its top node (R397), and the pages that its pool home does not hold (R405). -/
def State.makeMap (s : State) (t : BitVec 4) (pool : Bool) (obj pages : Nat) (absent : List Nat) : State :=
  let levels : BitVec 2 := if pages ≤ 512 then 1 else if pages ≤ 2 ^ 18 then 2 else 3
  let root := nodeAddress s.nextNode
  let gen := s.nextGen obj
  { s with
    nextNode := s.nextNode + 1
    objects := tabSet s.objects obj { gen := gen, homeGen := gen, pool := pool, tenant := t, levels := levels, pages := pages, root := root
                                      nodes := [(nodeKey levels.toNat 0, root)], absent := if pool then absent else [] } }

/-- OBJECT_CREATE: an object's map (R397), and the sealing roots that its tenant has asked for (R156). -/
def doObjectCreate (t : BitVec 4) (space : BitVec 3) (obj pages : Nat) (absent roots : List Nat) (s : State) : Option State :=
  if !s.numberFree obj || pages = 0 || (space != 2 && space != 3) then none
  else
    let s := s.makeMap t (space = 3) obj pages absent
    some (if space = 3 then s else (roots.filter (fun g => g / 4096 < pages)).foldl (fun s g => s.placeRoot obj g) s)
/-- OBJECT_CREATE (R397). -/
def execObjectCreate (s : State) : Host.Outcome State Fault Refusal :=
  match s.event with
  | some (.objectCreate t sp obj pages absent roots) =>
    onEvent (doObjectCreate t sp obj.toNat pages.toNat (absent.map BitVec.toNat) (roots.map BitVec.toNat) s) s
  | _ => .next s

/-- The map and the frames of an object go, and with them its shoot-downs and the services of its pages; a service that waits for one of its
frames begins again (R405). -/
def State.eraseObject (s : State) (obj : Nat) (o : ObjMap) : State :=
  let s := s.dropTlb (fun e => e.obj == obj)
  let s := (s.frames.filter (fun e => e.2.obj == obj)).foldl (fun s e => s.freeFrameAt e.1) s
  let victim := fun (v : PageService) => match v.victim with | some (b, _) => b == obj | none => false
  { s with objects := tabSet s.objects obj { o with deleted := true, leaves := [], nodes := [] }
           shoots := s.shoots.filter (fun h => h.obj != obj || h.why == ShootFor.revoke)
           services := s.services.filter (fun v => v.obj != obj && !victim v) }

/-- OBJECT_DELETE: the map and the frames of an object go (R405). An object with pinned frames is not deleted. -/
def doObjectDelete (obj : Nat) (s : State) : Option State :=
  match tabGet s.objects obj with
  | none => none
  | some o =>
    if o.deleted || (s.frames.filter (fun e => e.2.obj == obj)).any (fun e => e.2.extentPins != 0 || e.2.copyPins != 0) then none
    else some { s.eraseObject obj o with version := s.version + 1 }
/-- OBJECT_DELETE (R405). -/
def execObjectDelete (s : State) : Host.Outcome State Fault Refusal :=
  match s.event with
  | some (.objectDelete obj) => onEvent (doObjectDelete obj.toNat s) s
  | _ => .next s

/-- HARVEST_LIST_OPEN: an empty list of the tenant (R413). -/
def doHarvestListOpen (t : BitVec 4) (list : BitVec 16) (s : State) : Option State :=
  some (s.modTenant t (fun te => { te with lists := tabSet te.lists list.toNat [] }))
/-- HARVEST_LIST_OPEN (R413). -/
def execHarvestListOpen (s : State) : Host.Outcome State Fault Refusal :=
  match s.event with
  | some (.harvestListOpen t l) => onEvent (doHarvestListOpen t l s) s
  | _ => .next s

-- HARV

/-- HARV (R413, R414): the capability is checked once xs is full. -/
def slotHarv (d : BitVec 6) (r : BitVec 5) (x : BitVec 6) (s : State) : SlotRes :=
  let c := s.ctx
  let cap := c.cVal r
  let v := c.xVal x
  let a := cap.cursor
  let okX := !c.xEmpty x
  let okC := okX && !c.cEmpty r
  let open_ := (tabGet (s.tenant c.sys.tenant).lists v.toNat).isSome
  { slot := .y, draw := 2, dests := [.x d]
    trap := firstTrap [xPoisonTrap c x, cPoisonTrap c r,
      trapIf (okX && (v.toNat / 65536 != 0 || !open_)) (slotTrap .illegal 6),
      addrTrap (okC && !cap.tag) .capTag a,
      addrTrap (okC && cap.otype != 0) .capSealed a,
      addrTrap (okC && !cap.has .lease) .capPerm a,
      addrTrap (okC && cap.space != 3) .capSpace a,
      addrTrap (okC && stale s cap (objOf a)) .capStale a]
    hold := joinHolds [xHold c x, cHold c r, xHold c d]
    effect := fun t =>
      let t := startRelease 4 (some [capRange cap]) (t.modCtx (fun o => o.emptyX d))
      enqueue (.harv d (capRange cap) v.toNat (t.nextId - 1)) false t }
/-- HARV, issued alone. -/
def execHarv (d : BitVec 6) (c : BitVec 5) (x : BitVec 6) (s : State) : Host.Outcome State Fault Refusal :=
  runAlone (.harv d c x) (slotHarv d c x s) s

/-- The dirty pages of an object from `lo` to `hi` go to a list while it has room (R414): the list, the map's leaves, the
count, and whether the list was full. -/
def harvestPages (obj lo hi : Nat) (leaves : Tab Leaf) (list : List (Nat × Nat)) : List (Nat × Nat) × Tab Leaf × Nat × Bool :=
  leaves.foldl (fun acc e =>
    if e.2.d && lo ≤ e.1 && e.1 < hi then
      if 65536 ≤ acc.1.length then (acc.1, acc.2.1, acc.2.2.1, true)
      else (acc.1 ++ [(obj, e.1)], tabSet acc.2.1 e.1 { e.2 with d := false }, acc.2.2.1 + 1, acc.2.2.2)
    else acc) (list, leaves, 0, false)

/-- HARVEST_COMPLETE: behind its release, the gathered bits are flushed and the dirty pages of the range named (R414). -/
def doHarvestComplete (k : BitVec 2) (id : Nat) (s : State) : Option State :=
  match s.queued k id with
  | some (⟨_, .harv d r list rel, _, _⟩, pre) =>
    if pre.any (fun o => o.id == rel) then none
    else
      let lo := r.base % 2 ^ 40 / 65536
      let hi := if r.top ≤ r.base then lo else (r.top - 1) % 2 ^ 40 / 65536 + 1
      let s := s.flushDA (fun _ e => e.obj == r.obj && lo ≤ e.page && e.page < hi)
        (fun _ e => e.obj == r.obj && lo < e.page + e.count && e.page < hi)
      let t := (s.ctxAt k).sys.tenant
      match tabGet s.objects r.obj with
      | none => some (s.modCtxAt k (fun c => (c.setX d 0).unqueue id))
      | some o =>
        let old := (tabGet (s.tenant t).lists list).getD []
        let (l, leaves, n, full) := harvestPages r.obj lo hi o.leaves old
        let s : State := { s with objects := tabSet s.objects r.obj { o with leaves := leaves } }
        let s := s.modTenant t (fun te => { te with lists := tabSet te.lists list l })
        some (s.modCtxAt k (fun c => (c.setX d (BitVec.ofNat 64 ((if full then 2 ^ 63 else 0) + n))).unqueue id))
  | _ => none
/-- HARVEST_COMPLETE (R414). -/
def execHarvestComplete (s : State) : Host.Outcome State Fault Refusal :=
  match s.event with
  | some (.harvestComplete k id) => onEvent (doHarvestComplete k id s) s
  | _ => .next s

end Sys2Proof.Machine
end

