-- ==== Sys2Proof/Machine/Worlds.lean ====
section
/-! DEFINITION. Protected worlds (R465 to R484): regions and their keys, SEAL and OPEN, the cipher unit, the taking and the
handing over of a region's state, re-keys, the measured loader, and the clearing of a core. -/

namespace Sys2Proof.Machine

-- Worlds and regions

/-- A world changed. -/
def State.modWorld (s : State) (w : Nat) (f : World → World) : State :=
  match tabGet s.worlds w with
  | some wd => { s with worlds := tabSet s.worlds w (f wd) }
  | none => s

/-- A region of a world, or an unused entry. -/
def State.region (s : State) (w r : Nat) : Region :=
  match tabGet s.worlds w with
  | some wd => (tabGet wd.regions r).getD {}
  | none => {}

/-- A region changed. -/
def State.modRegion (s : State) (w r : Nat) (f : Region → Region) : State :=
  s.modWorld w (fun wd => { wd with regions := tabSet wd.regions r (f ((tabGet wd.regions r).getD {})) })

/-- A region's "enc" or "mac" key, as bytes (R471). -/
def State.regionKey (s : State) (w r : Nat) (mac : Bool) : List Nat :=
  match tabGet s.worlds w with
  | some wd => beBytes 32 (Config.deriveKey wd.key (2 * r + if mac then 1 else 0)).toNat
  | none => []

/-- A line's bytes in counter mode: sixteen-byte block `q` under the counter block of R471. -/
def ctrLine (key : List Nat) (major : BitVec 56) (index minor : Nat) (bytes : List Nat) : List Nat :=
  let keys := aesRoundKeys key
  ((chunks 16 8 bytes).zipIdx.map (fun b =>
    xorBytes b.1 (aesBlock keys (beBytes 16 (major.toNat * 2 ^ 72 + minor * 2 ^ 64 + index * 2 ^ 32 + b.2))))).flatten

/-- A line's MAC: the first 64 bits of its GMAC tag (R471), laid in memory order. -/
def lineMac (key : List Nat) (w r : Nat) (major : BitVec 56) (index minor : Nat) (cipher : List Nat) : BitVec 64 :=
  let iv := beBytes 12 (major.toNat * 2 ^ 40 + index % 2 ^ 24 * 2 ^ 16 + minor * 2 ^ 8 + 1)
  BitVec.ofNat 64 (digestNat ((beBytes 16 (gmac key iv (Config.macHeader w r ++ cipher))).take 8))

/-- A line index's minor counter as Onyx holds it. -/
def Region.minor (r : Region) (i : Nat) : BitVec 8 := (tabGet r.minors i).getD 0

/-- Where a region's MACs, minor counters and record lie in its object (R473). -/
def Region.macOff (r : Region) : Nat := (r.page0 + r.pages) * 65536
def Region.minorOff (r : Region) : Nat := r.macOff + 4096 * r.pages
def Region.recordOff (r : Region) : Nat := r.macOff + (4608 * r.pages + 65535) / 65536 * 65536

/-- Lines of a region. -/
def Region.lines (r : Region) : Nat := 512 * r.pages

/-- A region's object is a pool object (R470). -/
def State.regionPool (s : State) (r : Region) : Bool := match tabGet s.objects r.obj with | some o => o.pool | none => r.kind = 1

-- SEAL and OPEN

/-- The region that wholly holds `n` lines from an address (R476). -/
def State.rangeRegion (s : State) (w : BitVec 4) (a n : Nat) : Option (Nat × Region) :=
  match s.regionOf w (a / 2 ^ 40) (a % 2 ^ 40 / 65536) with
  | some (r, reg) => if reg.index a + n ≤ reg.lines then some (r, reg) else none
  | none => none

/-- The minors that a SEAL of `n` lines takes up to a line whose counter stands at 255, and the table with them (R477). -/
def takeMinors : Nat → Nat → Tab (BitVec 8) → List (BitVec 8) × Tab (BitVec 8)
  | 0, _, t => ([], t)
  | n + 1, i, t =>
    let m := (tabGet t i).getD 0
    if m = 255 then ([], t)
    else
      let rest := takeMinors n (i + 1) (tabSet t i (m + 1))
      ((m + 1) :: rest.1, rest.2)

/-- The minors that a SEAL takes once its re-key is made: 0 for the line that asked for it, then as before (R477). -/
def retakeMinors (n i : Nat) (t : Tab (BitVec 8)) : List (BitVec 8) × Tab (BitVec 8) :=
  let rest := takeMinors (n - 1) (i + 1) (tabSet t i 0)
  (0 :: rest.1, rest.2)

/-- A SEAL waits for a re-key to take the counters of its next lines (R477). -/
def CipherJob.short (j : CipherJob) (w r : Nat) : Bool := !j.open_ && j.world.toNat == w && j.region == r && j.minors.length < j.count

/-- Unfinished SEAL and OPEN commands of a context (R478). -/
def Core.cipherOf (c : Core) (k : BitVec 2) : Nat := (c.cipher.filter (fun j => j.k == k)).length

/-- A SEAL or OPEN put into the cipher unit: its lines empty, a SEAL's minor counters taken, up to one that needs a re-key (R477, R478). -/
def startCipher (open_ : Bool) (l n : Nat) (w : BitVec 4) (r : Nat) (index : Nat) (s : State) : State :=
  let c := s.ctx
  let id := s.nextId
  let s := (List.range n).foldl (fun s i => s.setFull (relKey s c (l + i)) false) s
  let reg := s.region w.toNat r
  let tm : List (BitVec 8) × Tab (BitVec 8) := if open_ then ([], reg.minors) else takeMinors n index reg.minors
  let s := if open_ then s
    else s.modRegion w.toNat r (fun g => { g with minors := tm.2, state := if tm.1.length < n then 2 else g.state, clean := true })
  { s with
    nextId := id + 1
    cr := { s.cr with cipher := s.cr.cipher ++ [{ id := id, k := s.cr.cur, open_ := open_, first := physLine c l, count := n
                                                  world := w, region := r, index := index, minors := tm.1
                                                  majors := List.replicate tm.1.length reg.major }] } }

/-- SEAL and OPEN at issue (R475, R476). -/
def slotCipher (open_ : Bool) (xa xb : BitVec 6) (cr : BitVec 5) (s : State) : SlotRes :=
  let c := s.ctx
  let cap := c.cVal cr
  let a := cap.cursor
  let vl := (c.xVal xa).toNat
  let n := (c.xVal xb).toNat
  let w := c.sys.world
  let regs := !c.xEmpty xa && !c.xEmpty xb
  let ready := regs && !c.cEmpty cr
  let bad := vl / 2 ^ 15 != 0 || n = 0 || 2048 < n
  let ls := if bad then [] else (List.range n).map (vl + ·)
  let (base, top) := boundsOf cap
  let sp := spaceOf cap.space
  let region := s.rangeRegion w a.toNat n
  let reg : Region := match region with | some (_, g) => g | none => {}
  let phys := if regs then ls.map (physLine c) else []
  let lw := lineWriteWait s phys
  let world := addrTrap (ready && (region.isNone || (!open_ && reg.kind == 3))) .world a
  let rekeying := ready && reg.state == 2
  let form := fun (l : Nat) =>
    let m := s.metaAt (relKey s c l)
    if !m.full then none
    else
      match m.form with
      | .plain => if open_ then some ({ code := Code.form.num, trapi := formInfo xa l } : Trap) else none
      | .cipher => if open_ then none else some { code := Code.form.num, trapi := formInfo xa l }
      | .poison => some { code := Code.integrity.num, trapi := formInfo xa l }
  let open0 := trapIf (w = 0) { code := Code.world.num, trapi := Config.freeWord s.tick }
  let early := firstTrap [open0, xPoisonTrap c xa, xPoisonTrap c xb, cPoisonTrap c cr,
    trapIf (regs && bad) (slotTrap .illegal 6),
    if regs then lineRangeTrap .y c ls else none]
  let late := firstTrap ([
    addrTrap (ready && !cap.tag) .capTag a,
    addrTrap (ready && cap.otype != 0) .capSealed a,
    addrTrap (ready && !cap.has (if open_ then .cpin else .cpout)) .capPerm a,
    addrTrap (ready && sp != some .local && sp != some .pool) .capSpace a,
    addrTrap (ready && (a.toNat < base || a.toNat + 128 * n > top)) .capBounds a,
    addrTrap (ready && a.toNat % 128 != 0) .align a,
    addrTrap (ready && stale s cap (objOf a)) .capStale a,
    world,
    trapIf (ready && open_ && reg.kind == 3 && (a.toNat % 4096 != 0 || n % 32 != 0)) (slotTrap .illegal 6),
    addrTrap (ready && reg.state == 0) .fenced a,
    addrTrap (ready && reg.state == 3) .integrity a] ++ (if ready && !rekeying then ls.map form else []))
  let own := match early with | some t => some t | none => late
  { slot := .y, draw := 2
    lineDests := phys
    trap := match own with | some t => some t | none => if rekeying then none else lw.1
    onTrap := if own.isSome then fun t => { t with tick := t.tick + 1 } else lw.2.1
    hold := joinHolds ([xHold c xa, xHold c xb, cHold c cr, holdIf rekeying .engine, holdIf (4 ≤ s.cr.cipherOf s.cr.cur) .engine, lw.2.2] ++
      (if regs then ls.map (lineHold s c) else []))
    effect := match region with
      | some (r, g) => startCipher open_ vl n w r (g.index a.toNat)
      | none => id }

/-- SEAL (R475 to R477). -/
def slotSealLines (a b : BitVec 6) (c : BitVec 5) (s : State) : SlotRes := slotCipher false a b c s
/-- SEAL, issued alone. -/
def execSealLines (a b : BitVec 6) (c : BitVec 5) (s : State) : Host.Outcome State Fault Refusal :=
  runAlone (.sealLines a b c) (slotSealLines a b c s) s
/-- OPEN (R475 to R477). -/
def slotOpenLines (a b : BitVec 6) (c : BitVec 5) (s : State) : SlotRes := slotCipher true a b c s
/-- OPEN, issued alone. -/
def execOpenLines (a b : BitVec 6) (c : BitVec 5) (s : State) : Host.Outcome State Fault Refusal :=
  runAlone (.openLines a b c) (slotOpenLines a b c s) s

/-- A whole line of the core at hand written by the cipher unit: full from then on, its tags cleared (R173, R194). -/
def landCipher (line : Nat) (bytes : List Nat) (form : Form) (att : Option Attach) (s : State) : State :=
  let key := lineKey s.g line
  let s := s.writeLine key (BitVec.ofNat 1024 (digestNat bytes)) (BitVec.allOnes 128) form
  s.setMeta key { s.metaAt key with full := true, tag := 0, form := form, attach := att }

/-- A line whose check fails: full and poison, counted in the world's integrity log (R477, R478). -/
def failCipher (w line : Nat) (s : State) : State :=
  (s.poisonLine (lineKey s.g line)).modWorld w (fun wd => { wd with integrity := wd.integrity + 1 })

/-- The bytes of a line of the core at hand. -/
def lineBytes (s : State) (line : Nat) : List Nat := byteNats (s.scratchRead s.g (line * 128) 128)

/-- A line of the core at hand has turned poison, by an uncorrectable error (R197). -/
def State.poisoned (s : State) (line : Nat) : Bool := (s.metaAt (lineKey s.g line)).form == .poison

/-- One line of a SEAL, under the counters that it took (R477); poison where the region's state was discarded before it took them (R481). A line
that has turned poison since the issue stays poison (R197). -/
def sealLine (j : CipherJob) (s : State) : State :=
  let w := j.world.toNat
  let line := j.first + j.done
  let i := j.index + j.done
  if s.poisoned line then s.poisonLine (lineKey s.g line)
  else match j.minors[j.done]?, j.majors[j.done]? with
  | some m, some major =>
    let m := m.toNat
    let ct := ctrLine (s.regionKey w j.region false) major i m (lineBytes s line)
    landCipher line ct .cipher (some { region := j.region, index := i, major := major, minor := m
                                       mac := lineMac (s.regionKey w j.region true) w j.region major i m ct }) s
  | _, _ => failCipher w line s

/-- One line of an OPEN of a writable region (R477); one that has turned poison since the issue stays poison (R197). -/
def openLine (j : CipherJob) (s : State) : State :=
  let w := j.world.toNat
  let reg := s.region w j.region
  let line := j.first + j.done
  let i := j.index + j.done
  let ct := lineBytes s line
  if s.poisoned line then s.poisonLine (lineKey s.g line)
  else match (s.metaAt (lineKey s.g line)).attach with
  | some t =>
    if t.region = j.region && t.index = i && !t.tree && t.major = reg.major && t.minor = (reg.minor i).toNat &&
        t.mac = lineMac (s.regionKey w j.region true) w j.region t.major i t.minor ct then
      landCipher line (ctrLine (s.regionKey w j.region false) reg.major i t.minor ct) .plain none s
    else failCipher w line s
  | none => failCipher w line s

/-- The digest of each node above a row of digests: eight children, absent ones zero (R477). -/
def treeLevel (row : List (List Nat)) : List (List Nat) :=
  (chunks 8 (row.length + 1) row).map (fun c => sha256 (c.flatten ++ List.replicate (256 - 32 * c.length) 0))

/-- The root of a tree over its leaves' digests (R477). -/
def treeRoot : Nat → List (List Nat) → List Nat
  | 0, _ => []
  | n + 1, row => match treeLevel row with
    | [r] => r
    | up => treeRoot n up

/-- A leaf of 32 lines verifies through the tree to ROOT (R477). -/
def leafVerifies (reg : Region) (leaf : Nat) (bytes : List Nat) : Bool :=
  (reg.leaves[leaf]?).map BitVec.toNat == some (digestNat (sha256 bytes)) &&
    digestNat (treeRoot 10 (reg.leaves.map (fun d => byteNats (leBytes 32 d.toNat)))) == reg.root.toNat

/-- One 4 KiB leaf of an OPEN of a read-only region: all 32 lines at once (R477). -/
def openLeaf (j : CipherJob) (s : State) : State :=
  let w := j.world.toNat
  let reg := s.region w j.region
  let ls := (List.range 32).map (fun k => (j.first + j.done + k, j.index + j.done + k))
  if !ls.any (fun l => s.poisoned l.1) && leafVerifies reg ((j.index + j.done) / 32) (ls.map (fun l => lineBytes s l.1)).flatten then
    ls.foldl (fun s l => landCipher l.1 (ctrLine (s.regionKey w j.region false) 0 l.2 0 (lineBytes s l.1)) .plain none s) s
  else ls.foldl (fun s l => failCipher w l.1 s) s

/-- CIPHER_LINE_DONE: the unit's first command finishes its next line, or its next leaf; a re-key of its region is waited
for (R477, R478, R482). -/
def doCipherLineDone (id : Nat) (s : State) : Option State :=
  match s.cr.cipher with
  | [] => none
  | j :: rest =>
    let reg := s.region j.world.toNat j.region
    if j.id != id || reg.state == 2 then none
    else
      let n := if j.open_ && reg.kind = 3 then 32 else 1
      let s := if !j.open_ then sealLine j s else if reg.kind = 3 then openLeaf j s else openLine j s
      let j' := { j with done := j.done + n }
      some { s with cr := { s.cr with cipher := if j'.count ≤ j'.done then rest else j' :: rest } }
/-- CIPHER_LINE_DONE (R478). -/
def execCipherLineDone (s : State) : Host.Outcome State Fault Refusal :=
  match s.event with
  | some (.cipherLineDone id) => onEvent (doCipherLineDone id s) s
  | _ => .next s

-- Re-keys

/-- A region is re-keying and not yet written. -/
def Region.needsRekey (r : Region) : Bool := r.state == 2 && !r.rekeyed

/-- The tenant of a world. -/
def State.worldTenant (s : State) (w : Nat) : BitVec 4 := match tabGet s.worlds w with | some wd => wd.tenant | none => 0

/-- The pool home refuses a write that Onyx makes in a region: no live write lease of the world's tenant holds the page (R429, R481,
R482). -/
def State.onyxRefused (s : State) (w : Nat) (reg : Region) (offs : List Nat) : Bool :=
  s.regionPool reg && offs.any (fun o => (s.engineRefusal (s.worldTenant w) reg.obj o).isSome)

/-- Pages of a region's data, MACs, minor counters and record. -/
def Region.span (r : Region) : Nat := r.recordOff / 65536 + 1 - r.page0

/-- One line of a re-key (R482): the region's minors with the line's, and the state with the line rewritten, where it is
accepted and the pool home takes it; else both as they stand. DEDUCED: a record holds only the digest of its minors, so a line's record minor is
that of the counters which were held to the digest as the region's state was taken. -/
def rekeyLine (w r i : Nat) (old new_ : BitVec 56) (reg : Region) (acc : Tab (BitVec 8) × State) : Tab (BitVec 8) × State :=
  let s := acc.2
  let pool := s.regionPool reg
  let off := reg.page0 * 65536 + i * 128
  let ct := byteNats (s.homeRead pool reg.obj off 128)
  let mac := BitVec.ofNat 64 (leNat (s.homeRead pool reg.obj (reg.macOff + 8 * i) 8))
  let m := leNat (s.homeRead pool reg.obj (reg.minorOff + i) 1)
  let mk := s.regionKey w r true
  let counter := if reg.clean then m = (reg.minor i).toNat else ((tabGet reg.recMinors i).getD 0).toNat ≤ m
  if counter && mac = lineMac mk w r old i m ct then
    let ek := s.regionKey w r false
    let ct' := ctrLine ek new_ i 0 (ctrLine ek old i m ct)
    if s.onyxRefused w reg [off, reg.macOff + 8 * i, reg.minorOff + i] then (acc.1, s.johel s.lt)
    else
      let s := s.homeWrite pool reg.obj off (ct'.map (BitVec.ofNat 8))
      let s := s.homeWrite pool reg.obj (reg.macOff + 8 * i) (leBytes 8 (lineMac mk w r new_ i 0 ct').toNat)
      let s := s.homeWrite pool reg.obj (reg.minorOff + i) [0]
      (tabErase acc.1 i, s)
  else (acc.1, s)

/-- The SEALs of a core that a re-key of their region kept waiting take the counters of their next lines, under the new major counter: the
region's minors with them, and the core's commands (R477). -/
def retakeJobs (w r : Nat) (major : BitVec 56) : List CipherJob → Tab (BitVec 8) → Tab (BitVec 8) × List CipherJob
  | [], t => (t, [])
  | j :: js, t =>
    let (t, j) := if !j.short w r then (t, j)
      else
        let tm := retakeMinors (j.count - j.minors.length) (j.index + j.minors.length) t
        (tm.2, { j with minors := j.minors ++ tm.1, majors := j.majors ++ List.replicate tm.1.length major })
    let rest := retakeJobs w r major js t
    (rest.1, j :: rest.2)

/-- Every core's waiting SEALs of a region go on (R477). A counter that stands at 255 again asks for one more re-key. -/
def State.retakeSeals (s : State) (w r : Nat) : State :=
  s.cores.foldl (fun s e =>
    let reg := s.region w r
    let c := s.coreAt e.1
    let (t, jobs) := retakeJobs w r reg.major c.cipher reg.minors
    (s.setCoreAt e.1 { c with cipher := jobs }).modRegion w r (fun g => { g with minors := t, rekeyed := g.rekeyed && !jobs.any (fun j => j.short w r) })) s

/-- REKEY: every line of the region is rewritten under MAJOR + 1, or left as it stands (R482). A pinned line of the region answers RETRY
until its pin ends (R386). -/
def doRekey (w r : Nat) (s : State) : Option State :=
  let reg := s.region w r
  if !reg.needsRekey then none
  else if s.pinnedIn reg.obj reg.page0 reg.span then s.retryPins reg.obj reg.page0 reg.span
  else
    let (minors, s) := (List.range reg.lines).foldl (fun acc i => rekeyLine w r i reg.major (reg.major + 1) reg acc) (reg.minors, s)
    some ((s.modRegion w r (fun g => { g with major := reg.major + 1, minors := minors, clean := true, rekeyed := true })).retakeSeals w r)
/-- REKEY (R482). -/
def execRekey (s : State) : Host.Outcome State Fault Refusal :=
  match s.event with
  | some (.rekey w r) => onEvent (doRekey w.toNat r.toNat s) s
  | _ => .next s

/-- REKEY_COMPLETE: the region's state is held again (R479, R482). -/
def doRekeyComplete (w r : Nat) (s : State) : Option State :=
  let reg := s.region w r
  if reg.state == 2 && reg.rekeyed then some (s.modRegion w r (fun g => { g with state := 1, rekeyed := false, clean := true })) else none
/-- REKEY_COMPLETE (R482). -/
def execRekeyComplete (s : State) : Host.Outcome State Fault Refusal :=
  match s.event with
  | some (.rekeyComplete w r) => onEvent (doRekeyComplete w.toNat r.toNat s) s
  | _ => .next s

-- The hand-over of a region's state

/-- Writable regions whose state Onyx holds (R470). -/
def State.heldRegions (s : State) : Nat :=
  (s.worlds.map (fun w => (w.2.regions.filter (fun e => (e.2.kind == 1 || e.2.kind == 2) && e.2.state != 0)).length)).foldl (· + ·) 0

/-- The writable pool regions of a tenant's worlds that a page range of an object leases: it covers their data, MAC and record pages
(R473, R479). -/
def State.leasedRegions (s : State) (tenant : BitVec 4) (obj page count : Nat) : List (Nat × Nat) :=
  (s.worlds.map (fun w => if w.2.tenant != tenant then [] else
    (w.2.regions.filter (fun e => e.2.kind == 1 && e.2.obj == obj && page ≤ e.2.page0 && e.2.page0 + e.2.span ≤ page + count)).map (fun e => (w.1, e.1)))).flatten

/-- A lease on the range would need the state of a region that Onyx has no room for (R434, R479). -/
def State.regionsFull (s : State) (tenant : BitVec 4) (obj page count : Nat) : Bool :=
  let need := (s.leasedRegions tenant obj page count).filter (fun e => (s.region e.1 e.2).state == 0)
  !need.isEmpty && 32 < s.heldRegions + need.length

/-- The minor counters of a region as they stand at its home. -/
def State.homeMinors (s : State) (reg : Region) : List (BitVec 8) := s.homeRead (s.regionPool reg) reg.obj reg.minorOff reg.lines

/-- The counters that are not zero, by line. -/
def minorTab (l : List (BitVec 8)) : Tab (BitVec 8) := (l.zipIdx.filter (fun m => m.1 != 0)).map (fun m => (m.2, m.1))

/-- The state of a writable pool region taken under a new lease (R479). -/
def State.takeRegion (s : State) (w r : Nat) (token : BitVec 64) (write : Bool) : State :=
  let reg := s.region w r
  if reg.state != 0 then s.modRegion w r (fun g => { g with token := token })
  else
    let s := s.johel s.lt
    let rec_ := leNat (s.homeRead true reg.obj reg.recordOff 128)
    let f := bitsOf rec_
    let minors := s.homeMinors reg
    let rtoken := f 191 128
    let clean := (rtoken + 1 = token.toNat) || (rtoken = 0 && token = 16)
    let key := match tabGet s.worlds w with | some wd => Config.deriveKey wd.key (2 * r + 1) | none => 0
    let ok := f 1023 960 = (Config.recordTag key w (rec_ % 2 ^ 960)).toNat && f 63 40 = reg.obj && f 39 16 = reg.page0 && f 3 0 = 1 &&
      f 959 576 = reg.head.toNat && f 575 192 = digestNat (sha384 (byteNats minors))
    if !ok then
      let t := s.worldTenant w
      (s.modRegion w r (fun g => { g with state := 3, token := token })).postRecord t (.region w r reg.head true)
    else
      s.modRegion w r (fun g => { g with
        major := BitVec.ofNat 56 (f 127 72), token := token, minors := minorTab minors, recMinors := minorTab minors, clean := clean
        state := if clean || !write then 1 else 2
        rekeyed := false })

/-- A lease's end discards a region's state (R481). -/
def State.dropRegion (s : State) (w r : Nat) : State :=
  s.modRegion w r (fun g => { g with state := 0, major := 0, token := 0, minors := [], rekeyed := false })

/-- A region's minor counters and new record written under its lease, and its new HEAD posted (R480, R481). Where the pool home refuses
the writes nothing is written or posted, and what Onyx holds is discarded. -/
def State.handOver (s : State) (w r : Nat) : State :=
  let reg := s.region w r
  let minors := (List.range reg.lines).map (fun i => reg.minor i)
  let parts := (chunks 128 (reg.lines + 1) minors).zipIdx
  if s.onyxRefused w reg (reg.recordOff :: parts.map (fun c => reg.minorOff + 128 * c.2)) then (s.johel s.lt).dropRegion w r
  else
  let s := parts.foldl (fun s c => s.homeWrite true reg.obj (reg.minorOff + 128 * c.2) c.1) s
  let mdig := digestNat (sha384 (byteNats minors))
  let low := packFields [(mdig, 192), (reg.token.toNat, 128), (reg.major.toNat, 72), (reg.obj, 40), (reg.page0, 16), (1, 0)]
  let head := digestNat (sha384 (byteNats (leBytes 48 reg.head.toNat) ++ byteNats (leBytes 72 low)))
  let body := low + head * 2 ^ 576
  let key := match tabGet s.worlds w with | some wd => Config.deriveKey wd.key (2 * r + 1) | none => 0
  let t := s.worldTenant w
  let s := s.homeWrite true reg.obj reg.recordOff (leBytes 128 (body + (Config.recordTag key w body).toNat * 2 ^ 960))
  let s := s.postRecord t (.region w r (BitVec.ofNat 384 head) false)
  (s.dropRegion w r).modRegion w r (fun g => { g with head := BitVec.ofNat 384 head })

-- Worlds made and destroyed

/-- A region table entry as it is published (R470). -/
def publish (p : RegionSpec) : Region :=
  let g : Region := { kind := p.kind, obj := p.obj, page0 := p.page0, pages := p.pages, root := p.root, head := p.head, leaves := p.leaves }
  if p.kind = 2 then { g with state := 1, major := 1 }
  else if p.kind = 3 then { g with state := 1 }
  else g

/-- A region that R470 allows: its kind, and a range of as many pages of an object of the right space. -/
def RegionSpec.sound (s : State) (p : RegionSpec) : Bool :=
  p.index < 64 && 0 < p.pages && p.page0 + p.pages ≤ 2 ^ 24 && (match p.kind.toNat, tabGet s.objects p.obj with
    | 1, some o => o.pool && p.pages ≤ 256
    | 2, some o => !o.pool && p.pages ≤ 256
    | 3, some _ => p.pages ≤ 65536
    | _, _ => false)

/-- A region may take an entry of its world's table: it overlaps no other, and its entry is free or holds the same pool region with its state not
held, whose chain head it then renews; Onyx has room for the state of one more writable region (R470, R479). -/
def State.mayPublish (s : State) (w : Nat) (t : Tab Region) (p : RegionSpec) : Bool :=
  let held := fun (g : Region) => (g.kind == 1 || g.kind == 2) && g.state != 0
  let others := (s.worlds.map (fun x => if x.1 = w then 0 else (x.2.regions.filter (fun e => held e.2)).length)).foldl (· + ·) 0
  p.sound s && t.all (fun e => e.1 == p.index || e.2.obj != p.obj || e.2.page0 + e.2.pages ≤ p.page0 || p.page0 + p.pages ≤ e.2.page0) &&
    (match tabGet t p.index with
     | some g => g.kind == 1 && p.kind == 1 && g.state == 0 && g.obj == p.obj && g.page0 == p.page0 && g.pages == p.pages
     | none => true) &&
    (p.kind != 2 || others + (t.filter (fun e => held e.2)).length < 32)

/-- A world's table with a region published (R470). -/
def State.publishIn (s : State) (w : Nat) (t : Tab Region) (p : RegionSpec) : Tab Region :=
  if s.mayPublish w t p then tabSet t p.index (publish p) else t

/-- WORLD_CREATE: a world for one tenant, with the regions that the tenant publishes; for a world that stands, further regions that its tenant
publishes (R465, R469, R470). -/
def doWorldCreate (w tenant : BitVec 4) (key : BitVec 256) (regions : List RegionSpec) (s : State) : Option State :=
  if w = 0 then none
  else
    match tabGet s.worlds w.toNat with
    | none => some { s with worlds := tabSet s.worlds w.toNat { tenant := tenant, key := key, regions := regions.foldl (s.publishIn w.toNat) [] } }
    | some wd =>
      if wd.tenant != tenant then none
      else some (s.modWorld w.toNat (fun wd => { wd with regions := regions.foldl (s.publishIn w.toNat) wd.regions }))
/-- WORLD_CREATE (R465). -/
def execWorldCreate (s : State) : Host.Outcome State Fault Refusal :=
  match s.event with
  | some (.worldCreate w t key rs) => onEvent (doWorldCreate w t key rs s) s
  | _ => .next s

/-- WORLD_DESTROY: key and region table erased, once no core belongs to the world (R465). -/
def doWorldDestroy (w : BitVec 4) (s : State) : Option State :=
  if (tabGet s.worlds w.toNat).isNone || s.cores.any (fun c => c.2.world == w) then none
  else some { s with worlds := tabErase s.worlds w.toNat }
/-- WORLD_DESTROY (R465). -/
def execWorldDestroy (s : State) : Host.Outcome State Fault Refusal :=
  match s.event with
  | some (.worldDestroy w) => onEvent (doWorldDestroy w s) s
  | _ => .next s

/-- A core's instruction memory holds a program (R17, R468). -/
def Core.holds (c : Core) (image : Nat × Nat × Nat × Nat) : Bool := c.program == some image

/-- A core can run a program: its instruction memory, which is one for its four contexts (R5, R17), holds it, or no context is resident. -/
def Core.takes (c : Core) (image : Nat × Nat × Nat × Nat) : Bool := c.holds image || c.ctxs.all (fun k => k.state == .free)

/-- Bundles written into a core's instruction memory from index 0 (R17). -/
def State.setProgram (s : State) (g : Nat) (image : Nat × Nat × Nat × Nat) (bytes : List (BitVec 8)) : State :=
  let lo := g * 2 ^ 18
  ({ s with imem := memWrite (memClear s.imem lo (lo + 2 ^ 18)) lo bytes } : State).setCoreAt g { s.coreAt g with program := some image }

/-- Fields of a launch header (R491). -/
def Launch.f (l : Launch) (h lo : Nat) : Nat := bitsOf l.header.toNat h lo
def Launch.world (l : Launch) : BitVec 4 := BitVec.ofNat 4 (l.f 11 8)

/-- A launch's program: object, offset and bundles (R491). -/
def Launch.program (l : Launch) : Nat × Nat × Nat := (l.f 95 72, l.f 135 96, l.f 148 136 + 1)

/-- How a core's program image is told apart: by its program, and in world 0, where nothing fixes the bundles of an object,
by the launch too. -/
def Launch.image (l : Launch) : Nat × Nat × Nat × Nat :=
  (l.f 95 72, l.f 135 96, l.f 148 136 + 1, if l.world = 0 then l.tenant.toNat * 2 ^ 32 + l.number.toNat + 1 else 0)

/-- A launch ends with a completion status of its own (R468, R494). -/
def State.endLaunch (s : State) (l : Launch) (status detail : BitVec 8) : State :=
  s.modLaunch l.tenant l.number (fun l => { l with stopping := true, status := match l.status with | some x => some x | none => some (status, detail) })

/-- A load that fails: the launch ends, and the cores that hold its program for a gang not yet dispatched are cleared (R466, R468). -/
def State.failLoad (s : State) (l : Launch) : State :=
  let s := s.endLaunch l 2 Code.integrity.num
  s.cores.foldl (fun s e =>
    let c := s.coreAt e.1
    if c.world == l.world && c.holds l.image && c.ctxs.all (fun k => k.state == .free) then s.setCoreAt e.1 { c with clearing := true } else s) s

/-- PROGRAM_LOAD: the measured loader verifies the leaves of a protected world's program and decrypts its bundles into a
core's instruction memory; the first load extends the measurement; a leaf of the region that fails ends the launch, and the cores placed for
the gang are cleared (R468, R469). DESIGN CHOICE: no rule names a check of a program that lies in no region or in one that is not read-only; its
launch ends in the same way, with STATUS 0x02 and DETAIL 0x0E. -/
def doProgramLoad (g launch : Nat) (s : State) : Option State :=
  match s.launches.find? (fun l => l.tenant.toNat * 2 ^ 32 + l.number.toNat == launch) with
  | none => none
  | some l =>
    let c := s.coreAt g
    let (obj, off, n) := l.program
    let w := l.world
    if w = 0 || c.clearing || (c.world != w && c.ctxs.any (fun k => k.state != .free)) || (c.world != 0 && c.world != w) ||
        c.holds l.image || !c.takes l.image then none
    else
      match s.rangeRegion w (obj * 2 ^ 40 + off) ((32 * n + 127) / 128) with
      | none => some (s.failLoad l)
      | some (r, reg) =>
        let pool := s.regionPool reg
        let first := reg.index (obj * 2 ^ 40 + off) / 32
        let last := (reg.index (obj * 2 ^ 40 + off) * 128 + 32 * n - 1) / 4096
        let leafBytes := fun (i : Nat) => byteNats (s.homeRead pool reg.obj (reg.page0 * 65536 + i * 4096) 4096)
        let leaves := (List.range (last + 1 - first)).map (first + ·)
        if reg.kind != 3 || !(List.range (16 * reg.pages)).all (fun i => leafVerifies reg i (leafBytes i)) then some (s.failLoad l)
        else
          let plain := (leaves.map (fun i => ((chunks 128 32 (leafBytes i)).zipIdx.map (fun x =>
            ctrLine (s.regionKey w.toNat r false) 0 (32 * i + x.2) 0 x.1)).flatten)).flatten
          let bundles := ((plain.drop (off - reg.page0 * 65536 - 4096 * first)).take (32 * n))
          let s := (s.setCoreAt g { c with world := w }).setProgram g l.image (bundles.map (BitVec.ofNat 8))
          some (s.modWorld w.toNat (fun wd =>
            if wd.measured.contains reg.root then wd
            else
              let d := sha384 (Config.measureHeader l.tenant.toNat w.toNat l.number.toNat reg.root ++ bundles)
              { wd with measured := wd.measured ++ [reg.root], meas := BitVec.ofNat 384 (digestNat (sha384 (byteNats (leBytes 48 wd.meas.toNat) ++ d))) }))
/-- PROGRAM_LOAD (R468). -/
def execProgramLoad (s : State) : Host.Outcome State Fault Refusal :=
  match s.event with
  | some (.programLoad g l) => onEvent (doProgramLoad g l s) s
  | _ => .next s

/-- Everything a world used on a core cleared (R466). -/
def State.wipeCore (s : State) (g : Nat) : State :=
  let s : State := { s with
    imem := memClear s.imem (g * 2 ^ 18) (g * 2 ^ 18 + 2 ^ 18)
    scratch := memClear s.scratch (g * 2 ^ 22) (g * 2 ^ 22 + 2 ^ 22)
    lineMeta := tabEraseRange s.lineMeta (g * 32768) (g * 32768 + 32768)
    tiles := tabEraseRange s.tiles (tileKey g 0 0) (tileKey g 48 0)
    released := s.released.filter (fun n => !(g * 48 ≤ n && n < g * 48 + 48)) }
  let c := s.coreAt g
  s.setCoreAt g { c with
    world := 0, clearing := false, program := none, bp0 := {}, bp1 := {}, copies := [], cipher := []
    ctxs := c.ctxs.map (fun k => { k with sys := { k.sys with ctab := Vector.replicate 4 0 } }) }

/-- CORE_CLEAR: a core that has left a protected world is cleared (R466). -/
def doCoreClear (g : Nat) (s : State) : Option State :=
  if (s.coreAt g).clearing && (s.coreAt g).ctxs.all (fun k => k.state == .free) then some (s.wipeCore g) else none
/-- CORE_CLEAR (R466). -/
def execCoreClear (s : State) : Host.Outcome State Fault Refusal :=
  match s.event with
  | some (.coreClear g) => onEvent (doCoreClear g s) s
  | _ => .next s

/-- SPDM_GET_MEASUREMENTS: the report of a block goes to its requester (R469, R551). -/
def doSpdmGetMeasurements (block : BitVec 8) (s : State) : Option State :=
  let v := if block.toNat / 16 = 1 then (tabGet s.worlds (block.toNat % 16)).map World.meas else tabGet s.measures block.toNat
  v.map (fun d => { s with sent := s.sent ++ [.measurement block d] })
/-- SPDM_GET_MEASUREMENTS (R469). -/
def execSpdmGetMeasurements (s : State) : Host.Outcome State Fault Refusal :=
  match s.event with
  | some (.spdmGetMeasurements b) => onEvent (doSpdmGetMeasurements b s) s
  | _ => .next s

end Sys2Proof.Machine
end

