-- ==== Sys2Proof/Machine/Leases.lean ====
section
/-! DEFINITION. Page leases and step schedules (R416 to R448): LACQ, LRENEW and LREL, the pool home's decisions, expiry and
renewal, Jasper's bulk gets, and checkpoint jobs. -/

namespace Sys2Proof.Machine

-- The pool home

/-- Cycles of a term in microseconds (R436). -/
def termCycles (term : Nat) : Nat := term * 1500

/-- The package-side expiry of a lease asked for at a cycle: 63/64 of its term later (R431). -/
def packageExpiry (sent term : Nat) : Nat := sent + 63 * termCycles term / 64

/-- The leases live at the home (R431). -/
def State.liveLeases (s : State) : List HomeLease := s.homeLeases.filter (fun l => s.tnow.toNat < l.until_)

/-- A lease meets, or covers, a page range of an object. -/
def HomeLease.meets (l : HomeLease) (obj page count : Nat) : Bool := l.obj == obj && page < l.page + l.count && l.page < page + count
def HomeLease.covers (l : HomeLease) (obj page count : Nat) : Bool := l.obj == obj && l.page ≤ page && page + count ≤ l.page + l.count

/-- A lease held by a tenant of this package (R426). -/
def HomeLease.ours (l : HomeLease) (tenant : BitVec 4) : Bool := l.package == 0 && l.tenant == tenant

/-- A lease of this package's tenant with this token on exactly these pages. -/
def HomeLease.isOf (l : HomeLease) (tenant : BitVec 4) (obj page count : Nat) (token : BitVec 64) : Bool :=
  l.ours tenant && l.obj == obj && l.page == page && l.count == count && l.token == token

/-- Every page of a range takes a token (R428). -/
def setTokens (t : Tab (BitVec 64)) (lo n : Nat) (token : BitVec 64) : Tab (BitVec 64) :=
  t.filter (fun e => e.1 < lo) ++ ((List.range n).map (fun i => (lo + i, token)) ++ t.filter (fun e => lo + n ≤ e.1))

/-- The token of a new grant on a range: above 15 and above every token of its pages (R428). -/
def State.newToken (s : State) (obj page count : Nat) : BitVec 64 :=
  let lo := obj * 2 ^ 24 + page
  BitVec.ofNat 64 ((s.pageTokens.filter (fun e => lo ≤ e.1 && e.1 < lo + count)).foldl (fun m e => max m e.2.toNat) 15 + 1)

/-- The home's answer to a lease acquire: the lease granted, new or renewed, or none where it conflicts or carries an old generation
(R427, R428). DESIGN CHOICE: R434 names no status for an acquire with an old generation, so it is refused as a conflict is, with status 0. -/
def State.homeAcquire (s : State) (tenant : BitVec 4) (obj page count : Nat) (write : Bool) (term : Nat) (gen : BitVec 8) :
    Option (HomeLease × State) :=
  let meet := s.liveLeases.filter (fun l => l.meets obj page count)
  let mine := meet.filter (fun l => l.ours tenant)
  if s.olderGen obj gen || meet.any (fun l => !l.ours tenant && (write || l.write)) then none
  else if mine.isEmpty then
    let token := s.newToken obj page count
    let l : HomeLease := { package := 0, tenant := tenant, obj := obj, page := page, count := count, write := write
                           token := token, term := term, until_ := s.tnow.toNat + termCycles term }
    some (l, { s with homeLeases := s.liveLeases ++ [l], pageTokens := setTokens s.pageTokens (obj * 2 ^ 24 + page) count token })
  else
    match mine.find? (fun l => l.covers obj page count && (!write || l.write)) with
    | none => none
    | some l =>
      let l' := { l with until_ := s.tnow.toNat + termCycles l.term }
      some (l', { s with homeLeases := s.liveLeases.map (fun o => if o == l then l' else o) })

/-- The home's answer to a renewal: a lease still live there is extended by its own term (R437). -/
def State.homeRenew (s : State) (r : Renewal) : Option State :=
  let hit := fun (l : HomeLease) => l.isOf r.tenant r.obj r.page r.count r.token
  if !s.olderGen r.obj r.sent.gen && s.liveLeases.any hit then
    some { s with homeLeases := s.liveLeases.map (fun l => if hit l then { l with until_ := s.tnow.toNat + termCycles l.term } else l) }
  else none

/-- The largest wts among the lines of a page range, in the order of time from LT on (R426). -/
def State.largestWts (s : State) (obj page count : Nat) : BitVec 24 :=
  let lo := poolKey obj (page * 512)
  (s.poolLines.filter (fun e => lo ≤ e.1 && e.1 < lo + count * 512)).foldl (fun m e => tsMax m (s.poolTs e.1).1) s.lt

-- The lease units

/-- Entries in use of the lease unit that serves an object's parity (R416, R426). -/
def State.leaseEntries (s : State) (obj : Nat) : Nat := (s.leases.filter (fun l => l.obj % 2 == obj % 2)).length

-- Jasper

/-- Steps of a launch, its first step, and the step that is next to dispatch (R443, R491, R496). -/
def Launch.nsteps (l : Launch) : Nat := l.f 316 296
def Launch.step0 (l : Launch) : Nat := l.f 295 232
def Launch.next (l : Launch) : Nat := (l.step0 + l.step) % 2 ^ 64
def Launch.lookahead (l : Launch) : Nat := if l.f 71 68 = 0 then 2 else l.f 71 68

/-- The event parameter that names a launch. -/
def Launch.key (l : Launch) : Nat := l.tenant.toNat * 2 ^ 32 + l.number.toNat

/-- A launch by its key. -/
def State.launch (s : State) (key : Nat) : Option Launch := s.launches.find? (fun l => l.key == key)

/-- A step entry put into a table behind those of its step and of earlier ones (R443). -/
def insertStep (e : StepEntry) : List StepEntry → List StepEntry
  | [] => [e]
  | x :: xs => if e.step < x.step then e :: x :: xs else x :: insertStep e xs

/-- Step entries sorted by step, ascending, those of one step consecutive and in the order of the record (R443). -/
def sortSteps (l : List StepEntry) : List StepEntry := l.foldl (fun t e => insertStep e t) []

/-- A step-table entry (R444). -/
def StepEntry.word (e : StepEntry) : BitVec 256 :=
  BitVec.ofNat 256 (packFields [(e.len, 192), (e.off, 128), (e.step, 64), (e.kind, 8), (e.opnd, 0)])

/-- The header of a launch's step table (R443). -/
def Launch.stepHeader (l : Launch) : BitVec 256 :=
  BitVec.ofNat 256 (packFields [(l.steps.length, 160), (l.number.toNat, 128), (l.next, 64), (l.lookahead, 0)])

/-- The frames that a launch's step table takes. -/
def Launch.tableFrames (l : Launch) : Nat := ((l.steps.length + 1) * 32 + 65535) / 65536

/-- The first frame of a run of reserved frames that holds no step table (R443; that the tables stand in the reserved frames of die 7, the lowest
free run first, is a DESIGN CHOICE of the log). -/
def State.tableFrame (s : State) (n : Nat) : Option Nat :=
  let taken := s.launches.filterMap (fun l => l.table.map (fun f => (f, f + l.tableFrames)))
  ((7 * 2 ^ 21) :: taken.map Prod.snd).find? (fun f => f + n ≤ 7 * 2 ^ 21 + 32768 && taken.all (fun t => f + n ≤ t.1 || t.2 ≤ f))

/-- The header of a launch's step table written, with the NEXT of now (R443). -/
def State.writeHeader (s : State) (l : Launch) : State :=
  match l.table with
  | none => s
  | some f => { s with hbm := memWrite s.hbm (f * 65536) (leBytes 32 l.stepHeader.toNat) }

/-- A launch's step table published: its header and its entries, sorted by step (R443, R444). -/
def State.publishTable (s : State) (l : Launch) : State × Launch :=
  if l.steps.isEmpty then (s, l)
  else
    match s.tableFrame l.tableFrames with
    | none => (s, l)
    | some f =>
      let l := { l with table := some f }
      let entries := (l.steps.map (fun e => leBytes 32 e.word.toNat)).flatten
      (({ s with hbm := memWrite s.hbm (f * 65536 + 32) entries } : State).writeHeader l, l)

/-- A launch's gang has begun or ended its work, or it may still begin. -/
def Launch.running (l : Launch) : Bool := l.checked && !l.stopping && l.status.isNone

/-- The pages of a byte range of an operand (R445). -/
def pageSpan (off len : Nat) : Nat × Nat := (off / 65536, if len = 0 then 0 else (off + len - 1) / 65536 + 1 - off / 65536)

/-- The operand that a step entry names. -/
def Launch.operandOf (l : Launch) (e : StepEntry) : OperandEntry :=
  l.operands.getD e.opnd { off := 0, len := 0, obj := 0, space := 0, acc := 0, lease := 0, bounce := false, chan := 0 }

/-- The bulk gets that Jasper makes for a launch: entry, kind, object, first page and pages: its declared ranges (R401), and the entries of the
window of its steps (R445). There is a lease on pool pages alone (R426), and host memory has no pages. -/
def Launch.gets (l : Launch) : List (Nat × Nat × Nat × Nat × Nat) :=
  (l.operands.zipIdx.filter (fun o => o.1.space = 2 || o.1.space = 3)).map (fun o =>
    let p := pageSpan o.1.off.toNat o.1.len.toNat
    (2 ^ 20 + o.2, 0, o.1.obj, p.1, p.2)) ++
  (l.steps.zipIdx.filter (fun e => l.next ≤ e.1.step && e.1.step < l.next + l.lookahead && (l.operandOf e.1).space != 4)).map (fun e =>
    let o := l.operandOf e.1
    let p := pageSpan (o.off.toNat + e.1.off) e.1.len
    (e.2, if e.1.step = l.next && o.space = 3 then e.1.kind else 0, o.obj, p.1, p.2))

/-- A bulk get that serves an entry at a kind. -/
def BulkGet.serves (b : BulkGet) (l : Launch) (g : Nat × Nat × Nat × Nat × Nat) : Bool :=
  b.tenant == l.tenant && b.launch == l.number && b.entry == g.1 && b.kind == g.2.1

/-- A bulk get that has not finished. -/
def BulkGet.open_ (b : BulkGet) : Bool := !b.pages.isEmpty || (b.kind != 0 && !b.granted)

/-- The pool copies of a range of pages that are out of time when a lease on it is granted: the grant lets none of them serve a load (R426,
R433). A line with writes not acknowledged stays for its writes alone. -/
def State.dropExpired (s : State) (obj page count : Nat) : State :=
  let inRange := fun (line : Nat) => page ≤ line / 512 && line / 512 < page + count
  let pages := (s.frameTs.filter (fun e => !timeValid s.lt e.2.2)).filter (fun e =>
    (match tabGet s.frames (e.1 / 512) with | some f => f.obj == obj && page ≤ f.page && f.page < page + count | none => false))
  { s with
    frameTs := s.frameTs.filter (fun e => !pages.contains e)
    rdc := s.rdc.filter (fun r => !(r.pool && r.obj == obj && inRange r.line && !timeValid s.lt r.rts))
    clusters := s.clusters.map (fun e =>
      let old := fun (l : CLine) => l.cls == .pool && l.obj == obj && inRange l.line && !timeValid s.lt l.rts && !l.pin
      (e.1, { e.2 with cache := (e.2.cache.filter (fun l => !(old l && l.unacked == 0))).map (fun l => if old l then { l with expired := true } else l) })) }

/-- An entry is that of a lease. -/
def LeaseEntry.isOf (e : LeaseEntry) (tenant : BitVec 4) (obj page count : Nat) (token : BitVec 64) : Bool :=
  e.tenant == tenant && e.obj == obj && e.page == page && e.count == count && e.token == token

/-- A granted lease entered or refreshed: LT follows the grant and its response, copies out of time go, and the state of the writable
regions it covers is taken (R418, R426, R431, R436, R479). -/
def State.enterLease (s : State) (l : HomeLease) (sent : LeaseSent) (owner : Option (BitVec 32)) : State :=
  let expiry := packageExpiry sent.now.toNat l.term
  let here := fun (e : LeaseEntry) => e.isOf l.tenant l.obj l.page l.count l.token
  let s : State := if s.leases.any here then
      { s with leases := s.leases.map (fun e =>
        if here e then { e with expiry := expiry, noticed := false, owners := if e.owners.contains owner then e.owners else e.owners ++ [owner] }
        else e) }
    else { s with leases := s.leases ++ [{ obj := l.obj, page := l.page, count := l.count, write := l.write, token := l.token, term := l.term
                                           expiry := expiry, tenant := l.tenant, owners := [owner] }] }
  let s := ((s.raiseHt sent.lt).advanceLt (s.largestWts l.obj l.page l.count)).dropExpired l.obj l.page l.count
  (s.leasedRegions l.tenant l.obj l.page l.count).foldl (fun s r => s.takeRegion r.1 r.2 l.token l.write) s

/-- A lease asked for: the state after the answer, with the status of a refusal (R434) or the lease granted. -/
def State.acquireLease (s : State) (tenant : BitVec 4) (obj page count : Nat) (write : Bool) (term : Nat) (sent : LeaseSent)
    (owner : Option (BitVec 32)) : State × Except Nat HomeLease :=
  if s.regionsFull tenant obj page count then (s, .error 4)
  else if 4096 ≤ s.leaseEntries obj && !s.leases.any (fun l => l.tenant == tenant && l.obj == obj && l.page ≤ page &&
      page + count ≤ l.page + l.count && (!write || l.write)) then (s, .error 1)
  else
    match s.homeAcquire tenant obj page count write term sent.gen with
    | none => (s.johel sent.lt, .error 0)
    | some (l, t) => (t.enterLease l sent owner, .ok l)

/-- A live entry of the tenant covers a range at a kind (R446). -/
def State.holdsLease (s : State) (tenant : BitVec 4) (obj page count : Nat) (write : Bool) : Bool :=
  s.leases.any (fun l => l.tenant == tenant && l.obj == obj && l.page ≤ page && page + count ≤ l.page + l.count && (!write || l.write) &&
    s.tnow.toNat < l.expiry)

/-- A lease that a granted bulk get of a step not yet dispatched needs is no longer held: it is asked for again, and an event is raised
(R446). -/
def State.lapse (s : State) (l : LeaseEntry) : State :=
  let hit := fun (b : BulkGet) => b.granted && b.tenant == l.tenant && b.obj == l.obj && !s.holdsLease b.tenant b.obj b.first b.count (b.kind == 2) &&
    s.launches.any (fun x => x.tenant == b.tenant && x.number == b.launch && x.running && x.nextGang = 0 && x.gets.any (fun g => b.serves x g))
  if s.bulks.any hit then
    ({ s with bulks := s.bulks.map (fun b => if hit b then { b with granted := false, sent := s.sentNow b.obj } else b) }).postRecord l.tenant
      (.leaseEvent l.obj l.page 6)
  else s

/-- A lease leaves the package: its entry is freed, and what Onyx held for its regions is discarded (R431, R446, R481). -/
def State.forgetLease (s : State) (l : LeaseEntry) : State :=
  let s : State := { s with leases := s.leases.erase l }
  ((s.leasedRegions l.tenant l.obj l.page l.count).foldl (fun s r => s.dropRegion r.1 r.2) s).lapse l

/-- A lease released: the regions of a write lease are sealed first, then the home forgets the lease, unless it refuses the request's
generation, and the entry is freed (R177, R438, R481). -/
def State.releaseLease (s : State) (l : LeaseEntry) (gen : BitVec 8) : State :=
  let s := if !l.write then s
    else (s.leasedRegions l.tenant l.obj l.page l.count).foldl (fun s r =>
      let g := s.region r.1 r.2
      if g.state == 1 || g.state == 2 then s.handOver r.1 r.2 else s) s
  let s : State := if s.olderGen l.obj gen then s
    else { s with homeLeases := s.homeLeases.filter (fun h => !h.isOf l.tenant l.obj l.page l.count l.token) }
  (s.johel s.lt).forgetLease l

/-- The leases of a launch released as it completes; one that another has acquired too stays (R432). -/
def State.releaseOwned (s : State) (tenant : BitVec 4) (launch : BitVec 32) : State :=
  let mine := s.leases.filter (fun e => e.tenant == tenant && e.owners.contains (some launch))
  mine.foldl (fun s e =>
    if e.owners.all (· == some launch) then s.releaseLease e (s.headerGen e.obj)
    else { s with leases := s.leases.map (fun o => if o == e then { o with owners := o.owners.filter (· != some launch) } else o) }) s

-- LACQ, LRENEW, LREL

/-- The pages of a capability's range, where there are any and not too many (R436). -/
def Range.pages (r : Range) : Option (Nat × Nat) :=
  if r.top ≤ r.base then none
  else
    let first := r.base % 2 ^ 40 / 65536
    let n := (r.top - 1) % 2 ^ 40 / 65536 + 1 - first
    if n = 0 || 65535 < n then none else some (first, n)

/-- The checks of the lease instructions at issue (R435). -/
def leaseTraps (s : State) (r : BitVec 5) (x : BitVec 6) (term : Bool) : List (Option Trap) :=
  let c := s.ctx
  let cap := c.cVal r
  let a := cap.cursor
  let okX := !c.xEmpty x
  let okC := okX && !c.cEmpty r
  [xPoisonTrap c x, cPoisonTrap c r, trapIf (okX && term && 2 ^ 20 < (c.xVal x).toNat) (slotTrap .illegal 6),
   addrTrap (okC && !cap.tag) .capTag a,
   addrTrap (okC && cap.otype != 0) .capSealed a,
   addrTrap (okC && !cap.has .lease) .capPerm a,
   addrTrap (okC && cap.space != 3) .capSpace a,
   addrTrap (okC && stale s cap (objOf a)) .capStale a]

/-- LACQ: a range without pages or with too many answers 3 at once; else the request is sent and the next bundle waits
(R434 to R436). -/
def slotLacq (write : Bool) (d : BitVec 6) (r : BitVec 5) (x : BitVec 6) (s : State) : SlotRes :=
  let c := s.ctx
  let range := capRange (c.cVal r)
  let xs := c.xVal x
  { slot := .y, draw := 2, dests := [.x d]
    trap := firstTrap (leaseTraps s r x true)
    hold := joinHolds [xHold c x, cHold c r, xHold c d]
    effect := fun t =>
      match range.pages with
      | none => t.modCtx (fun o => o.setX d 3)
      | some _ =>
        enqueue (.lease 0 d range write (if xs = 0 then 2000 else xs) (s.capSent (c.cVal r)) none) true (t.modCtx (fun o => o.emptyX d)) }
/-- LACQ.r (R434). -/
def slotLacqR (d : BitVec 6) (c : BitVec 5) (x : BitVec 6) (s : State) : SlotRes := slotLacq false d c x s
/-- LACQ.r, issued alone. -/
def execLacqR (d : BitVec 6) (c : BitVec 5) (x : BitVec 6) (s : State) : Host.Outcome State Fault Refusal :=
  runAlone (.lacqR d c x) (slotLacqR d c x s) s
/-- LACQ.w (R434). -/
def slotLacqW (d : BitVec 6) (c : BitVec 5) (x : BitVec 6) (s : State) : SlotRes := slotLacq true d c x s
/-- LACQ.w, issued alone. -/
def execLacqW (d : BitVec 6) (c : BitVec 5) (x : BitVec 6) (s : State) : Host.Outcome State Fault Refusal :=
  runAlone (.lacqW d c x) (slotLacqW d c x s) s

/-- The tenant's entry with a token whose pages include every page of a range (R437): a range of more than 65 535 pages is in none, an empty
one in every entry of its object. -/
def State.heldLease (s : State) (tenant : BitVec 4) (r : Range) (token : Word) : Option LeaseEntry :=
  let mine := fun (l : LeaseEntry) => l.tenant == tenant && l.token == token && l.obj == r.obj
  if r.top ≤ r.base then s.leases.find? mine
  else
    match r.pages with
    | none => none
    | some (p, n) => s.leases.find? (fun l => mine l && l.page ≤ p && p + n ≤ l.page + l.count)

/-- LRENEW: without an entry xd is 1 and no request is sent (R437). -/
def slotLrenew (d : BitVec 6) (r : BitVec 5) (x : BitVec 6) (s : State) : SlotRes :=
  let c := s.ctx
  let range := capRange (c.cVal r)
  let token := c.xVal x
  { slot := .y, draw := 2, dests := [.x d]
    trap := firstTrap (leaseTraps s r x false)
    hold := joinHolds [xHold c x, cHold c r, xHold c d]
    effect := fun t =>
      match s.heldLease c.sys.tenant range token with
      | none => t.modCtx (fun o => o.setX d 1)
      | some l =>
        let sent := s.capSent (c.cVal r)
        let id := t.nextId
        let t := enqueue (.lease 1 d range false token sent none) false (t.modCtx (fun o => o.emptyX d))
        { t with renewals := t.renewals ++ [{ id := id, tenant := l.tenant, obj := l.obj, page := l.page, count := l.count, token := l.token
                                              sent := sent, hw := false }] } }
/-- LRENEW, issued alone. -/
def execLrenew (d : BitVec 6) (c : BitVec 5) (x : BitVec 6) (s : State) : Host.Outcome State Fault Refusal :=
  runAlone (.lrenew d c x) (slotLrenew d c x s) s

/-- LREL: a release at POOL scope over the range, and behind it the lease release (R438). -/
def slotLrel (d : BitVec 6) (r : BitVec 5) (x : BitVec 6) (s : State) : SlotRes :=
  let c := s.ctx
  let range := capRange (c.cVal r)
  { slot := .y, draw := 2, dests := [.x d]
    trap := firstTrap (leaseTraps s r x false)
    hold := joinHolds [xHold c x, cHold c r, xHold c d]
    effect := fun t =>
      let t := startRelease 4 (some [range]) (t.modCtx (fun o => o.emptyX d))
      enqueue (.lease 2 d range false (c.xVal x) (s.capSent (c.cVal r)) (some (t.nextId - 1))) false t }
/-- LREL, issued alone. -/
def execLrel (d : BitVec 6) (c : BitVec 5) (x : BitVec 6) (s : State) : Host.Outcome State Fault Refusal :=
  runAlone (.lrel d c x) (slotLrel d c x s) s

-- Answers

/-- A page wanted by a bulk get or BGET does not exist at the pool (R446). -/
def State.rangeAbsent (s : State) (obj : Nat) (pages : List Nat) : Bool := pages.any (s.unservable obj)

/-- A bulk get of Jasper changed. -/
def State.modBulk (s : State) (id : Nat) (f : BulkGet → BulkGet) : State :=
  { s with bulks := s.bulks.map (fun b => if b.id == id then f b else b) }

/-- Jasper's request for a lease answered: a conflict is asked again 8 µs later, any other refusal holds the step (R446). -/
def grantBulk (b : BulkGet) (s : State) : State :=
  match s.acquireLease b.tenant b.obj b.first b.count (b.kind == 2) 2000 b.sent (some b.launch) with
  | (s, .ok _) => s.modBulk b.id (fun b => { b with granted := true, retryAt := none })
  | (s, .error 0) => s.modBulk b.id (fun b => { b with retryAt := some (s.tnow + 12000) })
  | (s, .error n) => (s.modBulk b.id (fun b => { b with stuck := true })).postRecord b.tenant (.leaseEvent b.obj b.first n)

/-- The request for the lease of a BGET answered (R342, R336). -/
def grantCopy (m : Copy) (s : State) : State :=
  let pages := m.desc.bgetPages
  let obj := m.desc.rowAddr .bget 0 / 2 ^ 40
  match s.acquireLease (s.ctxAt m.k).sys.tenant obj (pages.headD 0) pages.length (m.desc.rows == 2) 2000 m.sent none with
  | (s, .ok _) => s.modCopy m.id (fun m => { m with granted := true })
  | (s, .error _) => failCopy m Code.fenced.num s

/-- LEASE_GRANT: the pool home's answer to a lease acquire of LACQ, of a BGET or of Jasper (R427, R434, R436). A grant to LACQ
is followed by its acquire at POOL scope. -/
def doLeaseGrant (k : BitVec 2) (id : Nat) (s : State) : Option State :=
  match s.bulks.find? (fun b => b.id == id) with
  | some b => if b.kind != 0 && !b.granted && b.retryAt.isNone && !b.stuck then some (grantBulk b s) else none
  | none =>
    match s.cr.copy id with
    | some m => if m.op == .bget && m.phase == .active && m.desc.rows != 0 && !m.granted && !s.rekeyHolds m then some (grantCopy m s) else none
    | none =>
      match s.queued k id with
      | some (⟨_, .lease 0 d r write arg sent _, _, _⟩, _) =>
        match r.pages with
        | none => none
        | some (page, count) =>
          match s.acquireLease (s.ctxAt k).sys.tenant r.obj page count write arg.toNat sent none with
          | (s, .ok l) => some (s.modCtxAt k (fun c => (c.setX d l.token).rekind id (.acquire 4 none)))
          | (s, .error n) => some (s.modCtxAt k (fun c => (c.setX d (BitVec.ofNat 64 n)).unqueue id))
      | _ => none
/-- LEASE_GRANT (R436). -/
def execLeaseGrant (s : State) : Host.Outcome State Fault Refusal :=
  match s.event with
  | some (.leaseGrant k id) => onEvent (doLeaseGrant k id s) s
  | _ => .next s

/-- LEASE_ACQUIRE_TIMEOUT: no answer within 64 µs to a LACQ, or to Jasper, whose step is then held (R434, R446). -/
def doLeaseAcquireTimeout (k : BitVec 2) (id : Nat) (s : State) : Option State :=
  match s.bulks.find? (fun b => b.id == id) with
  | some b =>
    if b.kind != 0 && !b.granted && b.retryAt.isNone && !b.stuck && b.sent.now.toNat + 96000 ≤ s.tnow.toNat then
      some ((s.modBulk id (fun b => { b with stuck := true })).postRecord b.tenant (.leaseEvent b.obj b.first 2))
    else none
  | none =>
    match s.queued k id with
    | some (⟨_, .lease 0 d _ _ _ sent _, _, _⟩, _) =>
      if sent.now.toNat + 96000 ≤ s.tnow.toNat then some (s.modCtxAt k (fun c => (c.setX d 2).unqueue id)) else none
    | _ => none
/-- LEASE_ACQUIRE_TIMEOUT (R434). -/
def execLeaseAcquireTimeout (s : State) : Host.Outcome State Fault Refusal :=
  match s.event with
  | some (.leaseAcquireTimeout k id) => onEvent (doLeaseAcquireTimeout k id s) s
  | _ => .next s

/-- The register that a waiting LRENEW of a context writes. -/
def Ctx.renewing (c : Ctx) (id : Nat) : Option (BitVec 6) :=
  c.mq.findSome? (fun o => if o.id != id then none else match o.kind with | .lease 1 d .. => some d | _ => none)

/-- The LRENEW that sent a renewal gets its answer; a renewal of the lease unit's own answers none. -/
def State.answerRenewal (s : State) (r : Renewal) (v : Word) : State :=
  if r.hw then s
  else
    match s.resident.find? (fun c => (c.2.2.renewing r.id).isSome) with
    | none => s
    | some (g, k, c) =>
      match c.renewing r.id with
      | none => s
      | some d => s.within g (fun s => s.modCtxAt k (fun c => (c.setX d v).unqueue r.id))

/-- LEASE_RENEW_RESPONSE: the answer to a renewal (R431, R437). An acceptance counts only while the entry is held; a hardware renewal's
late one raises an event. -/
def doLeaseRenewResponse (id : Nat) (s : State) : Option State :=
  match s.renewals.find? (fun r => r.id == id) with
  | none => none
  | some r =>
    let s : State := { s with renewals := s.renewals.erase r }
    match s.homeRenew r with
    | none => some ((s.johel r.sent.lt).answerRenewal r 1)
    | some t =>
      let t := t.johel r.sent.lt
      match t.leases.find? (fun l => l.isOf r.tenant r.obj r.page r.count r.token && t.tnow.toNat < l.expiry) with
      | none => some (if r.hw then t.postRecord r.tenant (.leaseEvent r.obj r.page 7) else t.answerRenewal r 1)
      | some l =>
        some (({ t with leases := t.leases.map (fun o =>
          if o == l then { o with expiry := packageExpiry r.sent.now.toNat o.term, noticed := false } else o) } : State).answerRenewal r 0)
/-- LEASE_RENEW_RESPONSE (R437). -/
def execLeaseRenewResponse (s : State) : Host.Outcome State Fault Refusal :=
  match s.event with
  | some (.leaseRenewResponse t) => onEvent (doLeaseRenewResponse t s) s
  | _ => .next s

/-- LEASE_RELEASE_RESPONSE: behind its release, LREL's lease is released, or it held none (R438, R481); writes that the context issued
after it wait until then (R372). DESIGN CHOICE: R438 does not say whether the entry is looked up at issue or behind the release; it is looked up
here. -/
def doLeaseReleaseResponse (k : BitVec 2) (id : Nat) (s : State) : Option State :=
  match s.queued k id with
  | some (⟨_, .lease 2 d r _ token sent rel, _, _⟩, pre) =>
    if pre.any (fun o => some o.id == rel) then none
    else
      let done := fun (s : State) (v : Word) => s.modCtxAt k (fun c => (c.setX d v).unqueue id)
      match s.heldLease (s.ctxAt k).sys.tenant r token with
      | none => some (done s 1)
      | some l => some (done (s.releaseLease l sent.gen) 0)
  | _ => none
/-- LEASE_RELEASE_RESPONSE (R438). -/
def execLeaseReleaseResponse (s : State) : Host.Outcome State Fault Refusal :=
  match s.event with
  | some (.leaseReleaseResponse k id) => onEvent (doLeaseReleaseResponse k id s) s
  | _ => .next s

-- Jasper at work

/-- Pages of a bulk get that has been served and that are no longer resident. -/
def State.lostPages (s : State) (b : BulkGet) : List Nat :=
  if b.open_ then [] else ((List.range b.count).map (b.first + ·)).filter (fun p => (s.leafOf b.obj p).state != .resident)

/-- A link die's lease unit can make one more bulk get for Jasper (R445). -/
def State.bulkRoom (s : State) (obj : Nat) : Bool := (s.bulks.filter (fun b => b.open_ && b.obj % 2 == obj % 2)).length < 64

/-- JASPER_WALK: the next bulk get of a launch's window, at most 64 at a time for each link die; pages of a served one that have
left their frames since are got again (R401, R402, R445). -/
def doJasperWalk (key : Nat) (s : State) : Option State :=
  match s.launch key with
  | none => none
  | some l =>
    if !l.running then none
    else
      match l.gets.find? (fun g => !s.bulks.any (fun b => b.serves l g)) with
      | none =>
        match s.bulks.find? (fun b => l.gets.any (fun g => b.serves l g) && !(s.lostPages b).isEmpty) with
        | some b => if s.bulkRoom b.obj then some (s.modBulk b.id (fun b => { b with pages := s.lostPages b })) else none
        | none => none
      | some (e, kind, obj, first, n) =>
        if !s.bulkRoom obj then none
        else some { s with
          nextId := s.nextId + 1
          bulks := s.bulks ++ [{ id := s.nextId, tenant := l.tenant, launch := l.number, entry := e, kind := kind, obj := obj
                                 pages := (List.range n).map (first + ·), first := first, count := n, sent := s.sentNow obj }] }
/-- JASPER_WALK (R445). -/
def execJasperWalk (s : State) : Host.Outcome State Fault Refusal :=
  match s.event with
  | some (.jasperWalk l) => onEvent (doJasperWalk l s) s
  | _ => .next s

/-- Bytes of a BGET's extent that lie in a page (R334, R342). -/
def Desc.bgetBytes (d : Desc) (page : Nat) : Nat :=
  let o := d.rowAddr .bget 0 % 2 ^ 40
  min (o + d.len.toNat) (page * 65536 + 65536) - max o (page * 65536)

/-- BULK_GET_PAGE: pages of a BGET or of a bulk get of Jasper that are resident count, once any lease is granted (R334,
R342, R445); a page absent at the pool holds Jasper's step (R446). -/
def doBulkGetPage (id : Nat) (s : State) : Option State :=
  match s.bulks.find? (fun b => b.id == id) with
  | some b =>
    if s.rangeAbsent b.obj b.pages then
      if b.stuck then none
      else some ((s.modBulk id (fun b => { b with stuck := true })).postRecord b.tenant (.leaseEvent b.obj b.first 5))
    else
      let left := b.pages.filter (fun p => (s.leafOf b.obj p).state != .resident)
      if left.length = b.pages.length then none else some (s.modBulk id (fun b => { b with pages := left }))
  | none =>
    match s.cr.copy id with
    | none => none
    | some m =>
      let obj := m.desc.rowAddr .bget 0 / 2 ^ 40
      if m.op != .bget || m.phase != .active || (m.desc.rows != 0 && !m.granted) || s.rekeyHolds m then none
      else
        match m.todo.find? (fun p => (s.leafOf obj p).state == .resident) with
        | none => none
        | some p =>
          let n := m.desc.bgetBytes p
          let s := s.modCopy id (fun m => { m with todo := m.todo.filter (· != p), bytesLeft := m.bytesLeft - n })
          some (match m.ref with
            | some r => s.subtractLater r n false
            | none => s)
/-- BULK_GET_PAGE (R342). -/
def execBulkGetPage (s : State) : Host.Outcome State Fault Refusal :=
  match s.event with
  | some (.bulkGetPage id) => onEvent (doBulkGetPage id s) s
  | _ => .next s

/-- LEASE_RETRY: the refused requests of a launch whose 8 µs have passed are asked again (R446). -/
def doLeaseRetry (key : Nat) (s : State) : Option State :=
  match s.launch key with
  | none => none
  | some l =>
    let due := fun (b : BulkGet) => b.tenant == l.tenant && b.launch == l.number &&
      (match b.retryAt with | some t => t.toNat ≤ s.tnow.toNat | none => false)
    if s.bulks.any due then some { s with bulks := s.bulks.map (fun b => if due b then { b with retryAt := none, sent := s.sentNow b.obj } else b) } else none
/-- LEASE_RETRY (R446). -/
def execLeaseRetry (s : State) : Host.Outcome State Fault Refusal :=
  match s.event with
  | some (.leaseRetry l) => onEvent (doLeaseRetry l s) s
  | _ => .next s

/-- LEASE_EXPIRY: the package stops counting on a lease (R431). -/
def doLeaseExpiry (token : BitVec 64) (s : State) : Option State :=
  match s.leases.find? (fun l => l.token == token && l.expiry ≤ s.tnow.toNat) with
  | none => none
  | some l => some (s.forgetLease l)
/-- LEASE_EXPIRY (R431). -/
def execLeaseExpiry (s : State) : Host.Outcome State Fault Refusal :=
  match s.event with
  | some (.leaseExpiry t) => onEvent (doLeaseExpiry t s) s
  | _ => .next s

/-- Half of a lease's term remains or less (R432). -/
def LeaseEntry.halfTerm (l : LeaseEntry) (tnow : Nat) : Bool := l.expiry ≤ tnow + 31 * termCycles l.term / 64

/-- A renewal that the lease unit sends now for an entry (R431, R432). -/
def State.sendRenewal (s : State) (l : LeaseEntry) : State :=
  { s with
    nextId := s.nextId + 1
    renewals := s.renewals ++ [{ id := s.nextId, tenant := l.tenant, obj := l.obj, page := l.page, count := l.count, token := l.token
                                 sent := s.sentNow l.obj, hw := true }] }

/-- An entry is held for a launch that is resident or queued (R432). -/
def State.forLaunch (s : State) (l : LeaseEntry) : Bool :=
  s.launches.any (fun x => x.tenant == l.tenant && l.owners.contains (some x.number))

/-- LEASE_RENEWAL_DUE: at half term the lease unit renews a launch's lease, or raises an event in host-assisted mode (R432). -/
def doLeaseRenewalDue (token : BitVec 64) (s : State) : Option State :=
  match s.leases.find? (fun l => l.token == token && !l.noticed && l.halfTerm s.tnow.toNat && s.forLaunch l) with
  | none => none
  | some l =>
    let s : State := { s with leases := s.leases.map (fun o => if o == l then { o with noticed := true } else o) }
    some (if (s.tenant l.tenant).rnmode then s.postRecord l.tenant (.leaseHalfTerm l.obj l.page l.token) else s.sendRenewal l)
/-- LEASE_RENEWAL_DUE (R432). -/
def execLeaseRenewalDue (s : State) : Host.Outcome State Fault Refusal :=
  match s.event with
  | some (.leaseRenewalDue t) => onEvent (doLeaseRenewalDue t s) s
  | _ => .next s

/-- HOST_LEASE_RENEWAL: firmware or the host renews a launch's lease after its half-term event (R432). -/
def doHostLeaseRenewal (obj page : Nat) (token : BitVec 64) (s : State) : Option State :=
  (s.leases.find? (fun l => l.obj == obj && l.page == page && l.token == token && l.owners.any Option.isSome)).map s.sendRenewal
/-- HOST_LEASE_RENEWAL (R432). -/
def execHostLeaseRenewal (s : State) : Host.Outcome State Fault Refusal :=
  match s.event with
  | some (.hostLeaseRenewal o p t) => onEvent (doHostLeaseRenewal o.toNat p.toNat t s) s
  | _ => .next s

-- Checkpoint jobs

/-- A page copied from pool object to pool object at the homes, with its tags; every line of the destination is written
(R422, R447, R448). DESIGN CHOICE: no rule gives a job a fencing token, so the copy is not checked against the token or the leases of the
destination page. -/
def State.copyPage (s : State) (src dst page : Nat) : State :=
  let a := poolKey src (page * 512)
  let b := poolKey dst (page * 512)
  let lines := (List.range 512).map (fun i =>
    let m := (tabGet s.poolLines (a + i)).getD {}
    let wts := tsMax s.lt ((s.poolTs (b + i)).2 + 1)
    (b + i, ({ wts := wts, rts := wts, tags := m.tags, poison := m.poison } : PoolLine)))
  let ht := lines.foldl (fun t l => tsMax t l.2.wts) (tsMax s.ht s.lt)
  { s with
    pool := moveCells s.pool s.pool (a * 128) 65536 (b * 128)
    poolLines := s.poolLines.filter (fun e => e.1 < b) ++ (lines ++ s.poolLines.filter (fun e => b + 512 ≤ e.1))
    ht := ht }

/-- CHECKPOINT_JOB: a job posted over a harvest list, or, with `src` naming a link die, the next page of the first job of that die's lease
unit, the one that serves the source's parity; its end raises an event (R416, R447). Entries of other objects than the source are passed
over. -/
def doCheckpointJob (post : Bool) (t : BitVec 4) (list src dst : Nat) (s : State) : Option State :=
  if post then
    match tabGet (s.tenant t).lists list with
    | none => none
    | some l => some { s with jobs := s.jobs ++ [{ tenant := t, list := l.filter (fun e => e.1 = src), src := src, dst := dst }] }
  else
    match s.jobs.find? (fun j => j.src % 2 == src % 2) with
    | none => none
    | some j =>
      match j.list with
      | [] => some (({ s with jobs := s.jobs.erase j }).postRecord j.tenant (.jobDone j.src j.dst j.copied))
      | (_, page) :: more =>
        some { s.copyPage j.src j.dst page with
          jobs := s.jobs.replace j { j with list := more, copied := j.copied + 1 } }
/-- CHECKPOINT_JOB (R447). -/
def execCheckpointJob (s : State) : Host.Outcome State Fault Refusal :=
  match s.event with
  | some (.checkpointJob p t l a b) => onEvent (doCheckpointJob p t l.toNat a.toNat b.toNat s) s
  | _ => .next s

/-- TSTEP_SET: the command processor sets TSTEP (R91). -/
def doTstepSet (v : BitVec 32) (s : State) : Option State := some { s with tstep := v }
/-- TSTEP_SET (R91). -/
def execTstepSet (s : State) : Host.Outcome State Fault Refusal :=
  match s.event with
  | some (.tstepSet v) => onEvent (doTstepSet v s) s
  | _ => .next s

end Sys2Proof.Machine
end

