-- ==== Sys2Proof/Machine/Flags.lean ====
section
/-! DEFINITION. What the vector engines leave in FSTAT and AMAX (R237, R254, R255), and the union of the flags of many
lanes. -/

namespace Sys2Proof.Machine

/-- The flags of an operation: the union over its enabled lanes (R237). -/
def unionFlags (fs : List Flags) : Flags := fs.foldl (· ||| ·) 0

/-- FSTAT with flags ORed in (R237). -/
def Ctx.orFstat (c : Ctx) (f : Flags) : Ctx := { c with sys := { c.sys with fstat := c.sys.fstat ||| f } }

/-- The magnitude in AMAX, where a NaN pattern counts as 0 (R254). -/
def amaxMagnitude (v : BitVec 32) : Nat :=
  let m := v.toNat % 2 ^ 31
  if m > 0x7F800000 then 0 else m

/-- AMAX raised to a magnitude, from the value it holds in that cycle (R254, R255): magnitudes of one format are in the
order of their patterns. -/
def Ctx.raiseAmax (c : Ctx) (m : BitVec 32) : Ctx :=
  { c with sys := { c.sys with amax := BitVec.ofNat 32 (max (amaxMagnitude c.sys.amax) (m.toNat % 2 ^ 31)) } }

/-- The magnitude and the NV flag that one FP32 pattern, after `in_fp`, gives AMAX: a NaN gives NV and no magnitude
(R254). -/
def amaxLane (x : Nat) : Nat × Flags := if x % 2 ^ 31 > 0x7F800000 then (0, flagNV) else (x % 2 ^ 31, 0)

end Sys2Proof.Machine
end

