-- ==== Sys2Proof/Machine/VectorArith.lean ====
section
/-! DEFINITION. Vector arithmetic, comparison, moves and conversion (R230 to R257). -/

namespace Sys2Proof.Machine

-- Element-wise forms

/-- The lane results of one register under a mask, and the flags of its enabled lanes (R236). -/
def laneResults (k : BitVec 256) (w : Nat) (f : Nat → Nat → Nat → Nat × Flags) (a b d : VReg) : VReg × Flags :=
  let rs := (List.range (2048 / w)).map (fun i =>
    if k.getLsbD i then f (laneAt w a i) (laneAt w b i) (laneAt w d i) else (0, 0))
  (packLanes w (rs.map Prod.fst), unionFlags (rs.map Prod.snd))

/-- Register `j` of a list of registers. -/
def nthReg (l : List VReg) (j : Nat) : VReg := l[j]?.getD 0

/-- An element-wise form of the sources given and lane function `f` (R236). `fp` says that it updates FSTAT. -/
def elementwise (u : VUnit) (n : BitVec 2) (k : BitVec 3) (t : BitVec 1) (d : BitVec 6) (va vb : Option (BitVec 6)) (readsD : Bool)
    (w busy weight : Nat) (fp : Bool) (f : Nat → Nat → Nat → Nat × Flags) (s : State) : SlotRes :=
  let c := s.ctx
  let cnt := regs n
  let mask := c.kVal k
  let get := fun (o : Option (BitVec 6)) => match o with | some r => operandRegs s c r cnt | none => []
  let ra := get va
  let rb := get vb
  let rd := if readsD then operandRegs s c d cnt else []
  let rs := (List.range cnt).map (fun j => laneResults mask w f (nthReg ra j) (nthReg rb j) (nthReg rd j))
  let bytes := laneBytes w mask
  let src := fun (o : Option (BitVec 6)) => match o with | some r => [({ code := r, n := cnt } : Source)] | none => []
  vectorRes { u := u, t := t, busy := busy, weight := weight, k := k, readsD := readsD, dst := d, dstRange := groupLines c d cnt
              srcs := src va ++ src vb ++ (if readsD then [{ code := d, n := cnt }] else []) }
    (regOut c d (rs.map (fun r => (r.1, bytes))) (if fp then some (unionFlags (rs.map Prod.snd)) else none)) s

/-- An integer lane function of two lanes, as bits. -/
def intLane (w : Nat) (f : Int → Int → Int) (a b _d : Nat) : Nat × Flags := (laneInt w (f (sextN w a) (sextN w b)), 0)

/-- An integer element-wise form (R244). -/
def vint2 (u : VUnit) (n : BitVec 2) (k : BitVec 3) (t : BitVec 1) (d a b : BitVec 6) (w : Nat) (f : Int → Int → Int) (s : State) :
    SlotRes := elementwise u n k t d (some a) (some b) false w (regs n) 3 false (intLane w f) s

/-- A form on the bits of 32-bit lanes (R245, R246). -/
def vbits2 (u : VUnit) (n : BitVec 2) (k : BitVec 3) (t : BitVec 1) (d a b : BitVec 6) (f : Nat → Nat → Nat) (s : State) : SlotRes :=
  elementwise u n k t d (some a) (some b) false 32 (regs n) 3 false (fun a b _ => (f a b, 0)) s

/-- A floating-point form of two inputs; `p` gives the format (R239, R240). -/
def vfp2 (u : VUnit) (n : BitVec 2) (k : BitVec 3) (t : BitVec 1) (d a b : BitVec 6) (p : Nat)
    (f : Nat → FVal → FVal → FRes) (s : State) : SlotRes :=
  elementwise u n k t d (some a) (some b) false (p + 8) (regs n) 5 true (fun a b _ => arith2 p s.ctx.sys.fpm f a b) s

/-- The fused forms (R241). -/
def vfp3 (u : VUnit) (n : BitVec 2) (k : BitVec 3) (t : BitVec 1) (d a b : BitVec 6) (p : Nat) (neg : Bool) (s : State) : SlotRes :=
  elementwise u n k t d (some a) (some b) true (p + 8) (regs n) 5 true (fun a b d => arith3 p s.ctx.sys.fpm neg d a b) s

/-- VMAX and VMIN of a floating-point format (R242). -/
def vchoose (u : VUnit) (n : BitVec 2) (k : BitVec 3) (t : BitVec 1) (d a b : BitVec 6) (p : Nat) (larger : Bool) (s : State) : SlotRes :=
  elementwise u n k t d (some a) (some b) false (p + 8) (regs n) 5 true
    (fun a b _ => chooseF p larger (fpmFtz s.ctx.sys.fpm) a b) s

/-- VABS.f32 and VNEG.f32 of one lane (R243). -/
def signLane (ftz negate : Bool) (a : Nat) : Nat × Flags :=
  let x := flushIn 24 ftz a
  match decodeF 24 x with
  | .nan sig => (canonNaN 24, if sig then flagNV else 0)
  | _ => (if negate then x ^^^ 2 ^ 31 else x % 2 ^ 31, 0)

/-- a − b of a format (R240). DEDUCED: the signs that R239 speaks of are those of the terms a and −b. -/
def subF (rm : Nat) (a b : FVal) : FRes := addF rm a b.negate

-- Compares and selects

/-- A compare's result over its registers: lane `i` of register `j` at bit 64·j + i (R247). -/
def compareOut (c : Ctx) (kd : BitVec 3) (cnt : Nat) (mask : BitVec 256) (f : Nat → Nat → Bool × Flags) (ra rb : List VReg) (fp : Bool) : VOut :=
  let rs := (List.range cnt).map (fun j => (List.range 64).map (fun i =>
    if mask.getLsbD i then f (laneAt 32 (nthReg ra j) i) (laneAt 32 (nthReg rb j) i) else (false, 0)))
  let bits := rs.flatten.map (fun r => if r.1 then 1 else 0)
  let last := (rs.getLast?.getD []).map (fun r => if r.1 then 2 ^ 32 - 1 else 0)
  { mask := some (kd, if kd = 0 then c.kVal 0 else BitVec.ofNat 256 (packNat 1 bits))
    bypass := some (packLanes 32 last)
    flags := if fp then some (unionFlags (rs.flatten.map Prod.snd)) else none }

/-- VCMP (R247, R248). -/
def vcompare (u : VUnit) (n : BitVec 2) (k : BitVec 3) (t : BitVec 1) (kd : BitVec 3) (a b : BitVec 6) (fp : Bool)
    (f : Nat → Nat → Bool × Flags) (s : State) : SlotRes :=
  let c := s.ctx
  let cnt := regs n
  vectorRes { u := u, t := t, busy := cnt, weight := 3, k := k, srcs := [{ code := a, n := cnt }, { code := b, n := cnt }] }
    (compareOut c kd cnt (c.kVal k) f (operandRegs s c a cnt) (operandRegs s c b cnt) fp) s

/-- The f32 relations and their NV rules: eq and ne signal on signalling inputs alone, lt and le on every NaN (R247). -/
def relF (fpm : BitVec 3) (quiet : Bool) (f : FVal → FVal → Bool) (a b : Nat) : Bool × Flags :=
  let x := decodeF 24 (flushIn 24 (fpmFtz fpm) a)
  let y := decodeF 24 (flushIn 24 (fpmFtz fpm) b)
  (f x y, if x.isSnan || y.isSnan || (!quiet && (x.isNan || y.isNan)) then flagNV else 0)

/-- The signed relations (R247). -/
def relI (f : Int → Int → Bool) (a b : Nat) : Bool × Flags := (f (sextN 32 a) (sextN 32 b), 0)

/-- a ≤ b, false for any NaN (R247). -/
def leF (a b : FVal) : Bool := ltF a b || eqF a b

/-- VSEL: every lane written, from va where the mask bit is 1 and from vb where it is 0 (R249). -/
def vselect (u : VUnit) (n : BitVec 2) (k : BitVec 3) (t : BitVec 1) (d a b : BitVec 6) (s : State) : SlotRes :=
  let c := s.ctx
  let cnt := regs n
  let pick := expandBytes (laneBytes 32 (c.kVal k))
  let ra := operandRegs s c a cnt
  let rb := operandRegs s c b cnt
  let rs := (List.range cnt).map (fun j => ((nthReg ra j &&& pick) ||| (nthReg rb j &&& ~~~pick), BitVec.allOnes 256))
  vectorRes { u := u, t := t, busy := cnt, weight := 3, k := k, dst := d, dstRange := groupLines c d cnt
              srcs := [{ code := a, n := cnt }, { code := b, n := cnt }] }
    (regOut c d rs none) s

/-- VBCX and VIOTA: registers made from one x register (R250, R272). -/
def vfromX (u : VUnit) (n : BitVec 2) (k : BitVec 3) (t : BitVec 1) (d x : BitVec 6) (w : Nat) (f : Nat → Nat → Nat → Nat) (s : State) :
    SlotRes :=
  let c := s.ctx
  let cnt := regs n
  let v := (c.xVal x).toNat
  let bytes := laneBytes w (c.kVal k)
  let rs := (List.range cnt).map (fun j => (packLanes w ((List.range (2048 / w)).map (fun i => f v j i)), bytes))
  vectorRes { u := u, t := t, busy := cnt, weight := 3, k := k, xs := [x], dst := d, dstRange := groupLines c d cnt }
    (regOut c d rs none) s

-- Conversions

/-- The lines of a destination run that starts at byte 0 of a group: line `i` of the run gets the data and mask given. -/
def runLines (c : Ctx) (code : BitVec 6) (ls : List (LineData × BitVec 128)) : List DstLine :=
  ls.zipIdx.map (fun l => { rel := regLine c code (l.2 / 2) + l.2 % 2, data := l.1.1, mask := l.1.2 })

/-- The registers that lines of a run make up, with their byte masks; a missing second line is unwritten. -/
def lastOfRun (ls : List (LineData × BitVec 128)) : VReg :=
  let k := (ls.length - 1) / 2 * 2
  let part := fun (l : LineData × BitVec 128) => l.1 &&& expandMask l.2
  match ls[k]?, ls[k + 1]? with
  | some a, some b => (part a).setWidth 2048 ||| (part b).setWidth 2048 <<< 1024
  | some a, none => (part a).setWidth 2048
  | _, _ => 0

/-- Results laid as a byte run from byte 0 of a group (R253, R254, R257). -/
def runOut (c : Ctx) (code : BitVec 6) (ls : List (LineData × BitVec 128)) (flags : Option (BitVec 5)) : VOut :=
  { lines := runLines c code ls, bypass := some (lastOfRun ls), flags := flags }

/-- A same-width conversion of 32-bit lanes (R252, R253). -/
def vconvert (u : VUnit) (n : BitVec 2) (k : BitVec 3) (t : BitVec 1) (d a : BitVec 6) (f : Nat → Nat × Flags) (s : State) : SlotRes :=
  elementwise u n k t d (some a) none false 32 (regs n) 5 true (fun a _ _ => f a) s

/-- A narrowing conversion from lanes of `w` bits to `w / 2` (R252, R253). -/
def vnarrow (u : VUnit) (n : BitVec 2) (k : BitVec 3) (t : BitVec 1) (d a : BitVec 6) (w : Nat) (fp : Bool) (f : Nat → Nat × Flags) (s : State) :
    SlotRes :=
  let c := s.ctx
  let cnt := regs n
  let mask := c.kVal k
  let ra := operandRegs s c a cnt
  let rs := (List.range cnt).map (fun j => (List.range (2048 / w)).map (fun i =>
    if mask.getLsbD i then f (laneAt w (nthReg ra j) i) else (0, 0)))
  let bytes : BitVec 128 := BitVec.ofNat 128 (packNat (w / 16) ((List.range (2048 / w)).map (fun i =>
    if mask.getLsbD i then 2 ^ (w / 16) - 1 else 0)))
  let ls := rs.map (fun r => (BitVec.ofNat 1024 (packNat (w / 2) (r.map Prod.fst)), bytes))
  let lines := (List.range cnt).map (fun j => regLine c d (j / 2) + j % 2)
  vectorRes { u := u, t := t, busy := cnt, weight := 5, k := k, dst := d, dstRange := lines, srcs := [{ code := a, n := cnt }] }
    (runOut c d ls (if fp then some (unionFlags (rs.flatten.map Prod.snd)) else none)) s

/-- A widening conversion from lanes of `w` bits to `2 * w` (R252, R253). -/
def vwiden (u : VUnit) (n : BitVec 2) (k : BitVec 3) (t : BitVec 1) (d a : BitVec 6) (w : Nat) (fp : Bool) (f : Nat → Nat × Flags) (s : State) :
    SlotRes :=
  let c := s.ctx
  let cnt := regs n
  let half := 1024 / w
  let mask := c.kVal k
  let ra := operandRegs s c a cnt
  let rs := (List.range (2 * cnt)).map (fun h =>
    let ls := (List.range half).map (fun i =>
      let m := h % 2 * half + i
      if mask.getLsbD m then (f (laneAt w (nthReg ra (h / 2)) m), true) else ((0, 0), false))
    ((packLanes (2 * w) (ls.map (fun l => l.1.1)),
      BitVec.ofNat 256 (packNat (w / 4) (ls.map (fun l => if l.2 then 2 ^ (w / 4) - 1 else 0)))), unionFlags (ls.map (fun l => l.1.2))))
  vectorRes { u := u, t := t, busy := cnt, weight := 5, k := k, dst := d, dstRange := groupLines c d (2 * cnt), srcs := [{ code := a, n := cnt }] }
    (regOut c d (rs.map Prod.fst) (if fp then some (unionFlags (rs.map Prod.snd)) else none)) s

-- Block-scaled forms

/-- One source lane of VQNT: the code's byte, its flags and its magnitude (R254). -/
def quantLane (nb : Nat) (ftz : Bool) (x scale : Nat) : Nat × Flags × Nat :=
  let x := flushIn 24 ftz x
  let (q, fl) := quantMx nb (decodeF 24 x) scale
  let (m, nv) := amaxLane x
  (codeByte q, fl ||| nv, m)

/-- VQNT (R254). -/
def vquant (u : VUnit) (n : BitVec 2) (k : BitVec 3) (t : BitVec 1) (d a b : BitVec 6) (nb : Nat) (s : State) : SlotRes :=
  let c := s.ctx
  let cnt := regs n
  let mask := c.kVal k
  let ra := operandRegs s c a cnt
  let sc := nthReg (operandRegs s c b 1) 0
  let ftz := fpmFtz c.sys.fpm
  let rs := ((List.range cnt).map (fun j => (List.range 64).map (fun i =>
    if mask.getLsbD i then (quantLane nb ftz (laneAt 32 (nthReg ra j) i) (laneAt 8 sc (2 * j + i / 32)), true) else ((0, 0, 0), false)))).flatten
  let line := fun (h : Nat) =>
    let part := (rs.drop (128 * h)).take 128
    (BitVec.ofNat 1024 (packNat 8 (part.map (fun r => r.1.1))), BitVec.ofNat 128 (packNat 1 (part.map (fun r => if r.2 then 1 else 0))))
  let ls := (List.range ((cnt + 1) / 2)).map line
  let lines := (List.range ((cnt + 1) / 2)).map (fun i => regLine c d (i / 2) + i % 2)
  let out := runOut c d ls (some (unionFlags (rs.map (fun r => r.1.2.1))))
  vectorRes { u := u, t := t, busy := cnt, weight := 5, k := k, dst := d, dstRange := lines
              srcs := [{ code := a, n := cnt }, { code := b, n := 1 }] }
    { out with amax := some (BitVec.ofNat 32 ((rs.map (fun r => r.1.2.2)).foldl max 0)) } s

/-- VAMAX: no line and no bypass result (R255). -/
def vamaxWord (u : VUnit) (n : BitVec 2) (k : BitVec 3) (t : BitVec 1) (a : BitVec 6) (p : Nat) (s : State) : SlotRes :=
  let c := s.ctx
  let cnt := regs n
  let w := p + 8
  let mask := c.kVal k
  let ra := operandRegs s c a cnt
  let ftz := fpmFtz c.sys.fpm
  let rs := ((List.range cnt).map (fun j => (List.range (2048 / w)).map (fun i =>
    if mask.getLsbD i then amaxLane (flushIn p ftz (laneAt w (nthReg ra j) i) * 2 ^ (24 - p)) else (0, 0)))).flatten
  vectorRes { u := u, t := t, busy := cnt, weight := 5, k := k, srcs := [{ code := a, n := cnt }] }
    { flags := some (unionFlags (rs.map Prod.snd)), amax := some (BitVec.ofNat 32 ((rs.map Prod.fst).foldl max 0)) } s

/-- One lane of VDQNT, exact (R223, R256). -/
def dequantLane (nb code scale : Nat) : Nat × Flags := deliver 24 0 false (decodeMx nb code scale)

/-- VDQNT (R256). -/
def vdequant (u : VUnit) (n : BitVec 2) (k : BitVec 3) (t : BitVec 1) (d a b : BitVec 6) (nb : Nat) (s : State) : SlotRes :=
  let c := s.ctx
  let cnt := regs n
  let src := (cnt + 3) / 4
  let mask := c.kVal k
  let ra := operandRegs s c a src
  let sc := nthReg (operandRegs s c b 1) 0
  let rs := (List.range cnt).map (fun j => (List.range 64).map (fun i =>
    if mask.getLsbD i then dequantLane nb (laneAt 8 (nthReg ra (j / 4)) (64 * (j % 4) + i)) (laneAt 8 sc (2 * j + i / 32)) else (0, 0)))
  let bytes := laneBytes 32 mask
  vectorRes { u := u, t := t, busy := cnt, weight := 5, k := k, dst := d, dstRange := groupLines c d cnt
              srcs := [{ code := a, n := src }, { code := b, n := 1 }] }
    (regOut c d (rs.map (fun r => (packLanes 32 (r.map Prod.fst), bytes))) (some (unionFlags (rs.flatten.map Prod.snd)))) s

-- Plane packing

/-- A row of byte-form elements as one number: bits [2j+1:2j] of element `e` at byte e (R214, R216). -/
def digitOf (v j : Nat) : Nat := v / 4 ^ j % 4

/-- A plane row from 64 byte-form elements: for each digit, 64 two-bit digits in element order (R216, R217). -/
def planeRow (nb : Nat) (els : List Nat) : Nat :=
  packNat 128 ((List.range (nb / 2)).map (fun j => packNat 2 (els.map (fun e => digitOf (e % 2 ^ nb) j))))

/-- The 64 byte-form elements of a plane row (R214, R216). -/
def unplaneRow (nb : Nat) (row : Nat) : List Nat :=
  (List.range 64).map (fun e =>
    let k := ((List.range (nb / 2)).map (fun j => row / 2 ^ (128 * j + 2 * e) % 4 * 4 ^ j)).foldl (· + ·) 0
    codeByte (sextN nb k))

/-- A byte run of registers as one number. -/
def runNat (rs : List VReg) : Nat := packNat 2048 (rs.map BitVec.toNat)

/-- The lines that a byte run of `len` bytes covers, the last perhaps in part. -/
def runToLines (v len : Nat) : List (LineData × BitVec 128) :=
  (List.range ((len + 127) / 128)).map (fun i => (BitVec.ofNat 1024 (v / 2 ^ (1024 * i)), byteMask 0 (min 128 (len - 128 * i))))

/-- VPLN (R257). -/
def vplane (u : VUnit) (n : BitVec 2) (t : BitVec 1) (d a : BitVec 6) (nb : Nat) (s : State) : SlotRes :=
  let c := s.ctx
  let cnt := regs n
  let bytes := runNat (operandRegs s c a cnt)
  let rowLen := 8 * nb
  let rows := (List.range (4 * cnt)).map (fun r => planeRow nb ((List.range 64).map (fun e => bytes / 2 ^ (8 * (64 * r + e)) % 256)))
  let ls := runToLines (packNat (8 * rowLen) rows) (4 * cnt * rowLen)
  vectorRes { u := u, t := t, busy := cnt, weight := 5, dst := d, dstRange := (List.range ls.length).map (fun i => regLine c d (i / 2) + i % 2)
              srcs := [{ code := a, n := cnt }] }
    (runOut c d ls none) s

/-- VUPLN (R257). -/
def vunplane (u : VUnit) (n : BitVec 2) (t : BitVec 1) (d a : BitVec 6) (nb : Nat) (s : State) : SlotRes :=
  let c := s.ctx
  let cnt := regs n
  let rowLen := 8 * nb
  let src := (4 * cnt * rowLen + 255) / 256
  let v := runNat (operandRegs s c a src)
  let rows := (List.range (4 * cnt)).map (fun r => unplaneRow nb (v / 2 ^ (8 * rowLen * r) % 2 ^ (8 * rowLen)))
  let rs := (List.range cnt).map (fun j => (packLanes 8 ((rows.drop (4 * j)).take 4).flatten, BitVec.allOnes 256))
  vectorRes { u := u, t := t, busy := cnt, weight := 5, dst := d, dstRange := groupLines c d cnt, srcs := [{ code := a, n := src }] }
    (regOut c d rs none) s


-- The words

/-- VADD.f32 (R240). -/
def slotVaddF32 (u : VUnit) (n : BitVec 2) (k : BitVec 3) (t : BitVec 1) (d a b : BitVec 6) (s : State) : SlotRes :=
  vfp2 u n k t d a b 24 addF s
/-- The same, issued alone. -/
def execVaddF32 (u : VUnit) (n : BitVec 2) (k : BitVec 3) (t : BitVec 1) (d a b : BitVec 6) (s : State) : Host.Outcome State Fault Refusal :=
  runAlone (.vaddF32 u n k t d a b) (slotVaddF32 u n k t d a b s) s

/-- VSUB.f32 (R240). -/
def slotVsubF32 (u : VUnit) (n : BitVec 2) (k : BitVec 3) (t : BitVec 1) (d a b : BitVec 6) (s : State) : SlotRes :=
  vfp2 u n k t d a b 24 subF s
/-- The same, issued alone. -/
def execVsubF32 (u : VUnit) (n : BitVec 2) (k : BitVec 3) (t : BitVec 1) (d a b : BitVec 6) (s : State) : Host.Outcome State Fault Refusal :=
  runAlone (.vsubF32 u n k t d a b) (slotVsubF32 u n k t d a b s) s

/-- VMUL.f32 (R240). -/
def slotVmulF32 (u : VUnit) (n : BitVec 2) (k : BitVec 3) (t : BitVec 1) (d a b : BitVec 6) (s : State) : SlotRes :=
  vfp2 u n k t d a b 24 (fun _ => mulF) s
/-- The same, issued alone. -/
def execVmulF32 (u : VUnit) (n : BitVec 2) (k : BitVec 3) (t : BitVec 1) (d a b : BitVec 6) (s : State) : Host.Outcome State Fault Refusal :=
  runAlone (.vmulF32 u n k t d a b) (slotVmulF32 u n k t d a b s) s

/-- VFMA.f32 (R241). -/
def slotVfmaF32 (u : VUnit) (n : BitVec 2) (k : BitVec 3) (t : BitVec 1) (d a b : BitVec 6) (s : State) : SlotRes :=
  vfp3 u n k t d a b 24 false s
/-- The same, issued alone. -/
def execVfmaF32 (u : VUnit) (n : BitVec 2) (k : BitVec 3) (t : BitVec 1) (d a b : BitVec 6) (s : State) : Host.Outcome State Fault Refusal :=
  runAlone (.vfmaF32 u n k t d a b) (slotVfmaF32 u n k t d a b s) s

/-- VFMS.f32 (R241). -/
def slotVfmsF32 (u : VUnit) (n : BitVec 2) (k : BitVec 3) (t : BitVec 1) (d a b : BitVec 6) (s : State) : SlotRes :=
  vfp3 u n k t d a b 24 true s
/-- The same, issued alone. -/
def execVfmsF32 (u : VUnit) (n : BitVec 2) (k : BitVec 3) (t : BitVec 1) (d a b : BitVec 6) (s : State) : Host.Outcome State Fault Refusal :=
  runAlone (.vfmsF32 u n k t d a b) (slotVfmsF32 u n k t d a b s) s

/-- VMAX.f32 (R242). -/
def slotVmaxF32 (u : VUnit) (n : BitVec 2) (k : BitVec 3) (t : BitVec 1) (d a b : BitVec 6) (s : State) : SlotRes :=
  vchoose u n k t d a b 24 true s
/-- The same, issued alone. -/
def execVmaxF32 (u : VUnit) (n : BitVec 2) (k : BitVec 3) (t : BitVec 1) (d a b : BitVec 6) (s : State) : Host.Outcome State Fault Refusal :=
  runAlone (.vmaxF32 u n k t d a b) (slotVmaxF32 u n k t d a b s) s

/-- VMIN.f32 (R242). -/
def slotVminF32 (u : VUnit) (n : BitVec 2) (k : BitVec 3) (t : BitVec 1) (d a b : BitVec 6) (s : State) : SlotRes :=
  vchoose u n k t d a b 24 false s
/-- The same, issued alone. -/
def execVminF32 (u : VUnit) (n : BitVec 2) (k : BitVec 3) (t : BitVec 1) (d a b : BitVec 6) (s : State) : Host.Outcome State Fault Refusal :=
  runAlone (.vminF32 u n k t d a b) (slotVminF32 u n k t d a b s) s

/-- VADD.bf16 (R240). -/
def slotVaddBf16 (u : VUnit) (n : BitVec 2) (k : BitVec 3) (t : BitVec 1) (d a b : BitVec 6) (s : State) : SlotRes :=
  vfp2 u n k t d a b 8 addF s
/-- The same, issued alone. -/
def execVaddBf16 (u : VUnit) (n : BitVec 2) (k : BitVec 3) (t : BitVec 1) (d a b : BitVec 6) (s : State) : Host.Outcome State Fault Refusal :=
  runAlone (.vaddBf16 u n k t d a b) (slotVaddBf16 u n k t d a b s) s

/-- VSUB.bf16 (R240). -/
def slotVsubBf16 (u : VUnit) (n : BitVec 2) (k : BitVec 3) (t : BitVec 1) (d a b : BitVec 6) (s : State) : SlotRes :=
  vfp2 u n k t d a b 8 subF s
/-- The same, issued alone. -/
def execVsubBf16 (u : VUnit) (n : BitVec 2) (k : BitVec 3) (t : BitVec 1) (d a b : BitVec 6) (s : State) : Host.Outcome State Fault Refusal :=
  runAlone (.vsubBf16 u n k t d a b) (slotVsubBf16 u n k t d a b s) s

/-- VMUL.bf16 (R240). -/
def slotVmulBf16 (u : VUnit) (n : BitVec 2) (k : BitVec 3) (t : BitVec 1) (d a b : BitVec 6) (s : State) : SlotRes :=
  vfp2 u n k t d a b 8 (fun _ => mulF) s
/-- The same, issued alone. -/
def execVmulBf16 (u : VUnit) (n : BitVec 2) (k : BitVec 3) (t : BitVec 1) (d a b : BitVec 6) (s : State) : Host.Outcome State Fault Refusal :=
  runAlone (.vmulBf16 u n k t d a b) (slotVmulBf16 u n k t d a b s) s

/-- VFMA.bf16 (R241). -/
def slotVfmaBf16 (u : VUnit) (n : BitVec 2) (k : BitVec 3) (t : BitVec 1) (d a b : BitVec 6) (s : State) : SlotRes :=
  vfp3 u n k t d a b 8 false s
/-- The same, issued alone. -/
def execVfmaBf16 (u : VUnit) (n : BitVec 2) (k : BitVec 3) (t : BitVec 1) (d a b : BitVec 6) (s : State) : Host.Outcome State Fault Refusal :=
  runAlone (.vfmaBf16 u n k t d a b) (slotVfmaBf16 u n k t d a b s) s

/-- VFMS.bf16 (R241). -/
def slotVfmsBf16 (u : VUnit) (n : BitVec 2) (k : BitVec 3) (t : BitVec 1) (d a b : BitVec 6) (s : State) : SlotRes :=
  vfp3 u n k t d a b 8 true s
/-- The same, issued alone. -/
def execVfmsBf16 (u : VUnit) (n : BitVec 2) (k : BitVec 3) (t : BitVec 1) (d a b : BitVec 6) (s : State) : Host.Outcome State Fault Refusal :=
  runAlone (.vfmsBf16 u n k t d a b) (slotVfmsBf16 u n k t d a b s) s

/-- VMAX.bf16 (R242). -/
def slotVmaxBf16 (u : VUnit) (n : BitVec 2) (k : BitVec 3) (t : BitVec 1) (d a b : BitVec 6) (s : State) : SlotRes :=
  vchoose u n k t d a b 8 true s
/-- The same, issued alone. -/
def execVmaxBf16 (u : VUnit) (n : BitVec 2) (k : BitVec 3) (t : BitVec 1) (d a b : BitVec 6) (s : State) : Host.Outcome State Fault Refusal :=
  runAlone (.vmaxBf16 u n k t d a b) (slotVmaxBf16 u n k t d a b s) s

/-- VMIN.bf16 (R242). -/
def slotVminBf16 (u : VUnit) (n : BitVec 2) (k : BitVec 3) (t : BitVec 1) (d a b : BitVec 6) (s : State) : SlotRes :=
  vchoose u n k t d a b 8 false s
/-- The same, issued alone. -/
def execVminBf16 (u : VUnit) (n : BitVec 2) (k : BitVec 3) (t : BitVec 1) (d a b : BitVec 6) (s : State) : Host.Outcome State Fault Refusal :=
  runAlone (.vminBf16 u n k t d a b) (slotVminBf16 u n k t d a b s) s

/-- VADD.i32 (R244). -/
def slotVaddI32 (u : VUnit) (n : BitVec 2) (k : BitVec 3) (t : BitVec 1) (d a b : BitVec 6) (s : State) : SlotRes :=
  vint2 u n k t d a b 32 (· + ·) s
/-- The same, issued alone. -/
def execVaddI32 (u : VUnit) (n : BitVec 2) (k : BitVec 3) (t : BitVec 1) (d a b : BitVec 6) (s : State) : Host.Outcome State Fault Refusal :=
  runAlone (.vaddI32 u n k t d a b) (slotVaddI32 u n k t d a b s) s

/-- VSUB.i32 (R244). -/
def slotVsubI32 (u : VUnit) (n : BitVec 2) (k : BitVec 3) (t : BitVec 1) (d a b : BitVec 6) (s : State) : SlotRes :=
  vint2 u n k t d a b 32 (· - ·) s
/-- The same, issued alone. -/
def execVsubI32 (u : VUnit) (n : BitVec 2) (k : BitVec 3) (t : BitVec 1) (d a b : BitVec 6) (s : State) : Host.Outcome State Fault Refusal :=
  runAlone (.vsubI32 u n k t d a b) (slotVsubI32 u n k t d a b s) s

/-- VMAX.i32 (R244). -/
def slotVmaxI32 (u : VUnit) (n : BitVec 2) (k : BitVec 3) (t : BitVec 1) (d a b : BitVec 6) (s : State) : SlotRes :=
  vint2 u n k t d a b 32 max s
/-- The same, issued alone. -/
def execVmaxI32 (u : VUnit) (n : BitVec 2) (k : BitVec 3) (t : BitVec 1) (d a b : BitVec 6) (s : State) : Host.Outcome State Fault Refusal :=
  runAlone (.vmaxI32 u n k t d a b) (slotVmaxI32 u n k t d a b s) s

/-- VMIN.i32 (R244). -/
def slotVminI32 (u : VUnit) (n : BitVec 2) (k : BitVec 3) (t : BitVec 1) (d a b : BitVec 6) (s : State) : SlotRes :=
  vint2 u n k t d a b 32 min s
/-- The same, issued alone. -/
def execVminI32 (u : VUnit) (n : BitVec 2) (k : BitVec 3) (t : BitVec 1) (d a b : BitVec 6) (s : State) : Host.Outcome State Fault Refusal :=
  runAlone (.vminI32 u n k t d a b) (slotVminI32 u n k t d a b s) s

/-- VMUL.i32 (R244). -/
def slotVmulI32 (u : VUnit) (n : BitVec 2) (k : BitVec 3) (t : BitVec 1) (d a b : BitVec 6) (s : State) : SlotRes :=
  vint2 u n k t d a b 32 (· * ·) s
/-- The same, issued alone. -/
def execVmulI32 (u : VUnit) (n : BitVec 2) (k : BitVec 3) (t : BitVec 1) (d a b : BitVec 6) (s : State) : Host.Outcome State Fault Refusal :=
  runAlone (.vmulI32 u n k t d a b) (slotVmulI32 u n k t d a b s) s

/-- VADD.i16 (R244). -/
def slotVaddI16 (u : VUnit) (n : BitVec 2) (k : BitVec 3) (t : BitVec 1) (d a b : BitVec 6) (s : State) : SlotRes :=
  vint2 u n k t d a b 16 (· + ·) s
/-- The same, issued alone. -/
def execVaddI16 (u : VUnit) (n : BitVec 2) (k : BitVec 3) (t : BitVec 1) (d a b : BitVec 6) (s : State) : Host.Outcome State Fault Refusal :=
  runAlone (.vaddI16 u n k t d a b) (slotVaddI16 u n k t d a b s) s

/-- VSUB.i16 (R244). -/
def slotVsubI16 (u : VUnit) (n : BitVec 2) (k : BitVec 3) (t : BitVec 1) (d a b : BitVec 6) (s : State) : SlotRes :=
  vint2 u n k t d a b 16 (· - ·) s
/-- The same, issued alone. -/
def execVsubI16 (u : VUnit) (n : BitVec 2) (k : BitVec 3) (t : BitVec 1) (d a b : BitVec 6) (s : State) : Host.Outcome State Fault Refusal :=
  runAlone (.vsubI16 u n k t d a b) (slotVsubI16 u n k t d a b s) s

/-- VMAX.i16 (R244). -/
def slotVmaxI16 (u : VUnit) (n : BitVec 2) (k : BitVec 3) (t : BitVec 1) (d a b : BitVec 6) (s : State) : SlotRes :=
  vint2 u n k t d a b 16 max s
/-- The same, issued alone. -/
def execVmaxI16 (u : VUnit) (n : BitVec 2) (k : BitVec 3) (t : BitVec 1) (d a b : BitVec 6) (s : State) : Host.Outcome State Fault Refusal :=
  runAlone (.vmaxI16 u n k t d a b) (slotVmaxI16 u n k t d a b s) s

/-- VMIN.i16 (R244). -/
def slotVminI16 (u : VUnit) (n : BitVec 2) (k : BitVec 3) (t : BitVec 1) (d a b : BitVec 6) (s : State) : SlotRes :=
  vint2 u n k t d a b 16 min s
/-- The same, issued alone. -/
def execVminI16 (u : VUnit) (n : BitVec 2) (k : BitVec 3) (t : BitVec 1) (d a b : BitVec 6) (s : State) : Host.Outcome State Fault Refusal :=
  runAlone (.vminI16 u n k t d a b) (slotVminI16 u n k t d a b s) s

/-- VMUL.i16 (R244). -/
def slotVmulI16 (u : VUnit) (n : BitVec 2) (k : BitVec 3) (t : BitVec 1) (d a b : BitVec 6) (s : State) : SlotRes :=
  vint2 u n k t d a b 16 (· * ·) s
/-- The same, issued alone. -/
def execVmulI16 (u : VUnit) (n : BitVec 2) (k : BitVec 3) (t : BitVec 1) (d a b : BitVec 6) (s : State) : Host.Outcome State Fault Refusal :=
  runAlone (.vmulI16 u n k t d a b) (slotVmulI16 u n k t d a b s) s

/-- VADDS.i16 (R244). -/
def slotVaddsI16 (u : VUnit) (n : BitVec 2) (k : BitVec 3) (t : BitVec 1) (d a b : BitVec 6) (s : State) : SlotRes :=
  vint2 u n k t d a b 16 (fun a b => satInt 16 (a + b)) s
/-- The same, issued alone. -/
def execVaddsI16 (u : VUnit) (n : BitVec 2) (k : BitVec 3) (t : BitVec 1) (d a b : BitVec 6) (s : State) : Host.Outcome State Fault Refusal :=
  runAlone (.vaddsI16 u n k t d a b) (slotVaddsI16 u n k t d a b s) s

/-- VSUBS.i16 (R244). -/
def slotVsubsI16 (u : VUnit) (n : BitVec 2) (k : BitVec 3) (t : BitVec 1) (d a b : BitVec 6) (s : State) : SlotRes :=
  vint2 u n k t d a b 16 (fun a b => satInt 16 (a - b)) s
/-- The same, issued alone. -/
def execVsubsI16 (u : VUnit) (n : BitVec 2) (k : BitVec 3) (t : BitVec 1) (d a b : BitVec 6) (s : State) : Host.Outcome State Fault Refusal :=
  runAlone (.vsubsI16 u n k t d a b) (slotVsubsI16 u n k t d a b s) s

/-- VADD.i8 (R244). -/
def slotVaddI8 (u : VUnit) (n : BitVec 2) (k : BitVec 3) (t : BitVec 1) (d a b : BitVec 6) (s : State) : SlotRes :=
  vint2 u n k t d a b 8 (· + ·) s
/-- The same, issued alone. -/
def execVaddI8 (u : VUnit) (n : BitVec 2) (k : BitVec 3) (t : BitVec 1) (d a b : BitVec 6) (s : State) : Host.Outcome State Fault Refusal :=
  runAlone (.vaddI8 u n k t d a b) (slotVaddI8 u n k t d a b s) s

/-- VSUB.i8 (R244). -/
def slotVsubI8 (u : VUnit) (n : BitVec 2) (k : BitVec 3) (t : BitVec 1) (d a b : BitVec 6) (s : State) : SlotRes :=
  vint2 u n k t d a b 8 (· - ·) s
/-- The same, issued alone. -/
def execVsubI8 (u : VUnit) (n : BitVec 2) (k : BitVec 3) (t : BitVec 1) (d a b : BitVec 6) (s : State) : Host.Outcome State Fault Refusal :=
  runAlone (.vsubI8 u n k t d a b) (slotVsubI8 u n k t d a b s) s

/-- VMAX.i8 (R244). -/
def slotVmaxI8 (u : VUnit) (n : BitVec 2) (k : BitVec 3) (t : BitVec 1) (d a b : BitVec 6) (s : State) : SlotRes :=
  vint2 u n k t d a b 8 max s
/-- The same, issued alone. -/
def execVmaxI8 (u : VUnit) (n : BitVec 2) (k : BitVec 3) (t : BitVec 1) (d a b : BitVec 6) (s : State) : Host.Outcome State Fault Refusal :=
  runAlone (.vmaxI8 u n k t d a b) (slotVmaxI8 u n k t d a b s) s

/-- VMIN.i8 (R244). -/
def slotVminI8 (u : VUnit) (n : BitVec 2) (k : BitVec 3) (t : BitVec 1) (d a b : BitVec 6) (s : State) : SlotRes :=
  vint2 u n k t d a b 8 min s
/-- The same, issued alone. -/
def execVminI8 (u : VUnit) (n : BitVec 2) (k : BitVec 3) (t : BitVec 1) (d a b : BitVec 6) (s : State) : Host.Outcome State Fault Refusal :=
  runAlone (.vminI8 u n k t d a b) (slotVminI8 u n k t d a b s) s

/-- VADDS.i8 (R244). -/
def slotVaddsI8 (u : VUnit) (n : BitVec 2) (k : BitVec 3) (t : BitVec 1) (d a b : BitVec 6) (s : State) : SlotRes :=
  vint2 u n k t d a b 8 (fun a b => satInt 8 (a + b)) s
/-- The same, issued alone. -/
def execVaddsI8 (u : VUnit) (n : BitVec 2) (k : BitVec 3) (t : BitVec 1) (d a b : BitVec 6) (s : State) : Host.Outcome State Fault Refusal :=
  runAlone (.vaddsI8 u n k t d a b) (slotVaddsI8 u n k t d a b s) s

/-- VSUBS.i8 (R244). -/
def slotVsubsI8 (u : VUnit) (n : BitVec 2) (k : BitVec 3) (t : BitVec 1) (d a b : BitVec 6) (s : State) : SlotRes :=
  vint2 u n k t d a b 8 (fun a b => satInt 8 (a - b)) s
/-- The same, issued alone. -/
def execVsubsI8 (u : VUnit) (n : BitVec 2) (k : BitVec 3) (t : BitVec 1) (d a b : BitVec 6) (s : State) : Host.Outcome State Fault Refusal :=
  runAlone (.vsubsI8 u n k t d a b) (slotVsubsI8 u n k t d a b s) s

/-- VMULH.i32: the high half of the signed product (R244). -/
def slotVmulhI32 (u : VUnit) (n : BitVec 2) (k : BitVec 3) (t : BitVec 1) (d a b : BitVec 6) (s : State) : SlotRes :=
  vint2 u n k t d a b 32 (fun a b => (a * b) / 2 ^ 32) s
/-- The same, issued alone. -/
def execVmulhI32 (u : VUnit) (n : BitVec 2) (k : BitVec 3) (t : BitVec 1) (d a b : BitVec 6) (s : State) : Host.Outcome State Fault Refusal :=
  runAlone (.vmulhI32 u n k t d a b) (slotVmulhI32 u n k t d a b s) s

/-- VABS.f32 (R243). -/
def slotVabsF32 (u : VUnit) (n : BitVec 2) (k : BitVec 3) (t : BitVec 1) (d a : BitVec 6) (s : State) : SlotRes :=
  elementwise u n k t d (some a) none false 32 (regs n) 5 true (fun a _ _ => signLane (fpmFtz s.ctx.sys.fpm) false a) s
/-- The same, issued alone. -/
def execVabsF32 (u : VUnit) (n : BitVec 2) (k : BitVec 3) (t : BitVec 1) (d a : BitVec 6) (s : State) : Host.Outcome State Fault Refusal :=
  runAlone (.vabsF32 u n k t d a) (slotVabsF32 u n k t d a s) s

/-- VNEG.f32 (R243). -/
def slotVnegF32 (u : VUnit) (n : BitVec 2) (k : BitVec 3) (t : BitVec 1) (d a : BitVec 6) (s : State) : SlotRes :=
  elementwise u n k t d (some a) none false 32 (regs n) 5 true (fun a _ _ => signLane (fpmFtz s.ctx.sys.fpm) true a) s
/-- The same, issued alone. -/
def execVnegF32 (u : VUnit) (n : BitVec 2) (k : BitVec 3) (t : BitVec 1) (d a : BitVec 6) (s : State) : Host.Outcome State Fault Refusal :=
  runAlone (.vnegF32 u n k t d a) (slotVnegF32 u n k t d a s) s

/-- VABS.i32 (R244). -/
def slotVabsI32 (u : VUnit) (n : BitVec 2) (k : BitVec 3) (t : BitVec 1) (d a : BitVec 6) (s : State) : SlotRes :=
  elementwise u n k t d (some a) none false 32 (regs n) 3 false (fun a _ _ => (laneInt 32 (sextN 32 a).natAbs, 0)) s
/-- The same, issued alone. -/
def execVabsI32 (u : VUnit) (n : BitVec 2) (k : BitVec 3) (t : BitVec 1) (d a : BitVec 6) (s : State) : Host.Outcome State Fault Refusal :=
  runAlone (.vabsI32 u n k t d a) (slotVabsI32 u n k t d a s) s

/-- VNEG.i32 (R244). -/
def slotVnegI32 (u : VUnit) (n : BitVec 2) (k : BitVec 3) (t : BitVec 1) (d a : BitVec 6) (s : State) : SlotRes :=
  elementwise u n k t d (some a) none false 32 (regs n) 3 false (fun a _ _ => (laneInt 32 (-(sextN 32 a)), 0)) s
/-- The same, issued alone. -/
def execVnegI32 (u : VUnit) (n : BitVec 2) (k : BitVec 3) (t : BitVec 1) (d a : BitVec 6) (s : State) : Host.Outcome State Fault Refusal :=
  runAlone (.vnegI32 u n k t d a) (slotVnegI32 u n k t d a s) s

/-- VAND (R245). -/
def slotVand (u : VUnit) (n : BitVec 2) (k : BitVec 3) (t : BitVec 1) (d a b : BitVec 6) (s : State) : SlotRes :=
  vbits2 u n k t d a b (· &&& ·) s
/-- The same, issued alone. -/
def execVand (u : VUnit) (n : BitVec 2) (k : BitVec 3) (t : BitVec 1) (d a b : BitVec 6) (s : State) : Host.Outcome State Fault Refusal :=
  runAlone (.vand u n k t d a b) (slotVand u n k t d a b s) s

/-- VOR (R245). -/
def slotVor (u : VUnit) (n : BitVec 2) (k : BitVec 3) (t : BitVec 1) (d a b : BitVec 6) (s : State) : SlotRes :=
  vbits2 u n k t d a b (· ||| ·) s
/-- The same, issued alone. -/
def execVor (u : VUnit) (n : BitVec 2) (k : BitVec 3) (t : BitVec 1) (d a b : BitVec 6) (s : State) : Host.Outcome State Fault Refusal :=
  runAlone (.vor u n k t d a b) (slotVor u n k t d a b s) s

/-- VXOR (R245). -/
def slotVxor (u : VUnit) (n : BitVec 2) (k : BitVec 3) (t : BitVec 1) (d a b : BitVec 6) (s : State) : SlotRes :=
  vbits2 u n k t d a b (· ^^^ ·) s
/-- The same, issued alone. -/
def execVxor (u : VUnit) (n : BitVec 2) (k : BitVec 3) (t : BitVec 1) (d a b : BitVec 6) (s : State) : Host.Outcome State Fault Refusal :=
  runAlone (.vxor u n k t d a b) (slotVxor u n k t d a b s) s

/-- VNOT (R245). -/
def slotVnot (u : VUnit) (n : BitVec 2) (k : BitVec 3) (t : BitVec 1) (d a : BitVec 6) (s : State) : SlotRes :=
  elementwise u n k t d (some a) none false 32 (regs n) 3 false (fun a _ _ => (2 ^ 32 - 1 - a, 0)) s
/-- The same, issued alone. -/
def execVnot (u : VUnit) (n : BitVec 2) (k : BitVec 3) (t : BitVec 1) (d a : BitVec 6) (s : State) : Host.Outcome State Fault Refusal :=
  runAlone (.vnot u n k t d a) (slotVnot u n k t d a s) s

/-- VSHL.i32 (R246). -/
def slotVshlI32 (u : VUnit) (n : BitVec 2) (k : BitVec 3) (t : BitVec 1) (d a b : BitVec 6) (s : State) : SlotRes :=
  vbits2 u n k t d a b (fun a b => a * 2 ^ (b % 32)) s
/-- The same, issued alone. -/
def execVshlI32 (u : VUnit) (n : BitVec 2) (k : BitVec 3) (t : BitVec 1) (d a b : BitVec 6) (s : State) : Host.Outcome State Fault Refusal :=
  runAlone (.vshlI32 u n k t d a b) (slotVshlI32 u n k t d a b s) s

/-- VSHR.i32 (R246). -/
def slotVshrI32 (u : VUnit) (n : BitVec 2) (k : BitVec 3) (t : BitVec 1) (d a b : BitVec 6) (s : State) : SlotRes :=
  vbits2 u n k t d a b (fun a b => a / 2 ^ (b % 32)) s
/-- The same, issued alone. -/
def execVshrI32 (u : VUnit) (n : BitVec 2) (k : BitVec 3) (t : BitVec 1) (d a b : BitVec 6) (s : State) : Host.Outcome State Fault Refusal :=
  runAlone (.vshrI32 u n k t d a b) (slotVshrI32 u n k t d a b s) s

/-- VSAR.i32, floored (R246). -/
def slotVsarI32 (u : VUnit) (n : BitVec 2) (k : BitVec 3) (t : BitVec 1) (d a b : BitVec 6) (s : State) : SlotRes :=
  vbits2 u n k t d a b (fun a b => laneInt 32 (sextN 32 a / 2 ^ (b % 32))) s
/-- The same, issued alone. -/
def execVsarI32 (u : VUnit) (n : BitVec 2) (k : BitVec 3) (t : BitVec 1) (d a b : BitVec 6) (s : State) : Host.Outcome State Fault Refusal :=
  runAlone (.vsarI32 u n k t d a b) (slotVsarI32 u n k t d a b s) s

/-- VCMP.f32.eq (R247). -/
def slotVcmpF32Eq (u : VUnit) (n : BitVec 2) (k : BitVec 3) (t : BitVec 1) (d : BitVec 3) (a b : BitVec 6) (s : State) : SlotRes :=
  vcompare u n k t d a b true (relF s.ctx.sys.fpm true eqF) s
/-- The same, issued alone. -/
def execVcmpF32Eq (u : VUnit) (n : BitVec 2) (k : BitVec 3) (t : BitVec 1) (d : BitVec 3) (a b : BitVec 6) (s : State) : Host.Outcome State Fault Refusal :=
  runAlone (.vcmpF32Eq u n k t d a b) (slotVcmpF32Eq u n k t d a b s) s

/-- VCMP.f32.ne (R247). -/
def slotVcmpF32Ne (u : VUnit) (n : BitVec 2) (k : BitVec 3) (t : BitVec 1) (d : BitVec 3) (a b : BitVec 6) (s : State) : SlotRes :=
  vcompare u n k t d a b true (relF s.ctx.sys.fpm true (fun x y => !eqF x y)) s
/-- The same, issued alone. -/
def execVcmpF32Ne (u : VUnit) (n : BitVec 2) (k : BitVec 3) (t : BitVec 1) (d : BitVec 3) (a b : BitVec 6) (s : State) : Host.Outcome State Fault Refusal :=
  runAlone (.vcmpF32Ne u n k t d a b) (slotVcmpF32Ne u n k t d a b s) s

/-- VCMP.f32.lt (R247). -/
def slotVcmpF32Lt (u : VUnit) (n : BitVec 2) (k : BitVec 3) (t : BitVec 1) (d : BitVec 3) (a b : BitVec 6) (s : State) : SlotRes :=
  vcompare u n k t d a b true (relF s.ctx.sys.fpm false ltF) s
/-- The same, issued alone. -/
def execVcmpF32Lt (u : VUnit) (n : BitVec 2) (k : BitVec 3) (t : BitVec 1) (d : BitVec 3) (a b : BitVec 6) (s : State) : Host.Outcome State Fault Refusal :=
  runAlone (.vcmpF32Lt u n k t d a b) (slotVcmpF32Lt u n k t d a b s) s

/-- VCMP.f32.le (R247). -/
def slotVcmpF32Le (u : VUnit) (n : BitVec 2) (k : BitVec 3) (t : BitVec 1) (d : BitVec 3) (a b : BitVec 6) (s : State) : SlotRes :=
  vcompare u n k t d a b true (relF s.ctx.sys.fpm false leF) s
/-- The same, issued alone. -/
def execVcmpF32Le (u : VUnit) (n : BitVec 2) (k : BitVec 3) (t : BitVec 1) (d : BitVec 3) (a b : BitVec 6) (s : State) : Host.Outcome State Fault Refusal :=
  runAlone (.vcmpF32Le u n k t d a b) (slotVcmpF32Le u n k t d a b s) s

/-- VCMP.i32.eq (R247). -/
def slotVcmpI32Eq (u : VUnit) (n : BitVec 2) (k : BitVec 3) (t : BitVec 1) (d : BitVec 3) (a b : BitVec 6) (s : State) : SlotRes :=
  vcompare u n k t d a b false (relI (fun a b => a == b)) s
/-- The same, issued alone. -/
def execVcmpI32Eq (u : VUnit) (n : BitVec 2) (k : BitVec 3) (t : BitVec 1) (d : BitVec 3) (a b : BitVec 6) (s : State) : Host.Outcome State Fault Refusal :=
  runAlone (.vcmpI32Eq u n k t d a b) (slotVcmpI32Eq u n k t d a b s) s

/-- VCMP.i32.ne (R247). -/
def slotVcmpI32Ne (u : VUnit) (n : BitVec 2) (k : BitVec 3) (t : BitVec 1) (d : BitVec 3) (a b : BitVec 6) (s : State) : SlotRes :=
  vcompare u n k t d a b false (relI (fun a b => a != b)) s
/-- The same, issued alone. -/
def execVcmpI32Ne (u : VUnit) (n : BitVec 2) (k : BitVec 3) (t : BitVec 1) (d : BitVec 3) (a b : BitVec 6) (s : State) : Host.Outcome State Fault Refusal :=
  runAlone (.vcmpI32Ne u n k t d a b) (slotVcmpI32Ne u n k t d a b s) s

/-- VCMP.i32.lt (R247). -/
def slotVcmpI32Lt (u : VUnit) (n : BitVec 2) (k : BitVec 3) (t : BitVec 1) (d : BitVec 3) (a b : BitVec 6) (s : State) : SlotRes :=
  vcompare u n k t d a b false (relI (fun a b => a < b)) s
/-- The same, issued alone. -/
def execVcmpI32Lt (u : VUnit) (n : BitVec 2) (k : BitVec 3) (t : BitVec 1) (d : BitVec 3) (a b : BitVec 6) (s : State) : Host.Outcome State Fault Refusal :=
  runAlone (.vcmpI32Lt u n k t d a b) (slotVcmpI32Lt u n k t d a b s) s

/-- VCMP.i32.le (R247). -/
def slotVcmpI32Le (u : VUnit) (n : BitVec 2) (k : BitVec 3) (t : BitVec 1) (d : BitVec 3) (a b : BitVec 6) (s : State) : SlotRes :=
  vcompare u n k t d a b false (relI (fun a b => a ≤ b)) s
/-- The same, issued alone. -/
def execVcmpI32Le (u : VUnit) (n : BitVec 2) (k : BitVec 3) (t : BitVec 1) (d : BitVec 3) (a b : BitVec 6) (s : State) : Host.Outcome State Fault Refusal :=
  runAlone (.vcmpI32Le u n k t d a b) (slotVcmpI32Le u n k t d a b s) s

/-- VSEL (R249). -/
def slotVsel (u : VUnit) (n : BitVec 2) (k : BitVec 3) (t : BitVec 1) (d a b : BitVec 6) (s : State) : SlotRes :=
  vselect u n k t d a b s
/-- The same, issued alone. -/
def execVsel (u : VUnit) (n : BitVec 2) (k : BitVec 3) (t : BitVec 1) (d a b : BitVec 6) (s : State) : Host.Outcome State Fault Refusal :=
  runAlone (.vsel u n k t d a b) (slotVsel u n k t d a b s) s

/-- VBCX.32 (R250). -/
def slotVbcx32 (u : VUnit) (n : BitVec 2) (k : BitVec 3) (t : BitVec 1) (d x : BitVec 6) (s : State) : SlotRes :=
  vfromX u n k t d x 32 (fun v _ _ => v) s
/-- The same, issued alone. -/
def execVbcx32 (u : VUnit) (n : BitVec 2) (k : BitVec 3) (t : BitVec 1) (d x : BitVec 6) (s : State) : Host.Outcome State Fault Refusal :=
  runAlone (.vbcx32 u n k t d x) (slotVbcx32 u n k t d x s) s

/-- VBCX.16 (R250). -/
def slotVbcx16 (u : VUnit) (n : BitVec 2) (k : BitVec 3) (t : BitVec 1) (d x : BitVec 6) (s : State) : SlotRes :=
  vfromX u n k t d x 16 (fun v _ _ => v) s
/-- The same, issued alone. -/
def execVbcx16 (u : VUnit) (n : BitVec 2) (k : BitVec 3) (t : BitVec 1) (d x : BitVec 6) (s : State) : Host.Outcome State Fault Refusal :=
  runAlone (.vbcx16 u n k t d x) (slotVbcx16 u n k t d x s) s

/-- VIOTA.32 (R272). -/
def slotViota32 (u : VUnit) (n : BitVec 2) (k : BitVec 3) (t : BitVec 1) (d x : BitVec 6) (s : State) : SlotRes :=
  vfromX u n k t d x 32 (fun v j i => v + 64 * j + i) s
/-- The same, issued alone. -/
def execViota32 (u : VUnit) (n : BitVec 2) (k : BitVec 3) (t : BitVec 1) (d x : BitVec 6) (s : State) : Host.Outcome State Fault Refusal :=
  runAlone (.viota32 u n k t d x) (slotViota32 u n k t d x s) s

/-- VMOV (R251). -/
def slotVmov (u : VUnit) (n : BitVec 2) (k : BitVec 3) (t : BitVec 1) (d a : BitVec 6) (s : State) : SlotRes :=
  elementwise u n k t d (some a) none false 32 (regs n) 3 false (fun a _ _ => (a, 0)) s
/-- The same, issued alone. -/
def execVmov (u : VUnit) (n : BitVec 2) (k : BitVec 3) (t : BitVec 1) (d a : BitVec 6) (s : State) : Host.Outcome State Fault Refusal :=
  runAlone (.vmov u n k t d a) (slotVmov u n k t d a s) s

/-- VCVT.f32.bf16 (R252). -/
def slotVcvtF32Bf16 (u : VUnit) (n : BitVec 2) (k : BitVec 3) (t : BitVec 1) (d a : BitVec 6) (s : State) : SlotRes :=
  vnarrow u n k t d a 32 true (convertF 24 8 (fpmRm s.ctx.sys.fpm) (fpmFtz s.ctx.sys.fpm)) s
/-- The same, issued alone. -/
def execVcvtF32Bf16 (u : VUnit) (n : BitVec 2) (k : BitVec 3) (t : BitVec 1) (d a : BitVec 6) (s : State) : Host.Outcome State Fault Refusal :=
  runAlone (.vcvtF32Bf16 u n k t d a) (slotVcvtF32Bf16 u n k t d a s) s

/-- VCVT.bf16.f32 (R209, R252). -/
def slotVcvtBf16F32 (u : VUnit) (n : BitVec 2) (k : BitVec 3) (t : BitVec 1) (d a : BitVec 6) (s : State) : SlotRes :=
  vwiden u n k t d a 16 true (convertF 8 24 (fpmRm s.ctx.sys.fpm) (fpmFtz s.ctx.sys.fpm)) s
/-- The same, issued alone. -/
def execVcvtBf16F32 (u : VUnit) (n : BitVec 2) (k : BitVec 3) (t : BitVec 1) (d a : BitVec 6) (s : State) : Host.Outcome State Fault Refusal :=
  runAlone (.vcvtBf16F32 u n k t d a) (slotVcvtBf16F32 u n k t d a s) s

/-- VCVT.f32.i32 (R212, R252). -/
def slotVcvtF32I32 (u : VUnit) (n : BitVec 2) (k : BitVec 3) (t : BitVec 1) (d a : BitVec 6) (s : State) : SlotRes :=
  vconvert u n k t d a (fun a =>
    let r := toIntF (fpmRm s.ctx.sys.fpm) 32 (decodeF 24 (flushIn 24 (fpmFtz s.ctx.sys.fpm) a))
    (laneInt 32 r.1, r.2)) s
/-- The same, issued alone. -/
def execVcvtF32I32 (u : VUnit) (n : BitVec 2) (k : BitVec 3) (t : BitVec 1) (d a : BitVec 6) (s : State) : Host.Outcome State Fault Refusal :=
  runAlone (.vcvtF32I32 u n k t d a) (slotVcvtF32I32 u n k t d a s) s

/-- VCVT.i32.f32 (R211, R252). -/
def slotVcvtI32F32 (u : VUnit) (n : BitVec 2) (k : BitVec 3) (t : BitVec 1) (d a : BitVec 6) (s : State) : SlotRes :=
  vconvert u n k t d a (fun a => ofIntF 24 (fpmRm s.ctx.sys.fpm) (fpmFtz s.ctx.sys.fpm) (sextN 32 a)) s
/-- The same, issued alone. -/
def execVcvtI32F32 (u : VUnit) (n : BitVec 2) (k : BitVec 3) (t : BitVec 1) (d a : BitVec 6) (s : State) : Host.Outcome State Fault Refusal :=
  runAlone (.vcvtI32F32 u n k t d a) (slotVcvtI32F32 u n k t d a s) s

/-- VCVT.i32.i16 (R252). -/
def slotVcvtI32I16 (u : VUnit) (n : BitVec 2) (k : BitVec 3) (t : BitVec 1) (d a : BitVec 6) (s : State) : SlotRes :=
  vnarrow u n k t d a 32 false (fun a => (laneInt 16 (satInt 16 (sextN 32 a)), 0)) s
/-- The same, issued alone. -/
def execVcvtI32I16 (u : VUnit) (n : BitVec 2) (k : BitVec 3) (t : BitVec 1) (d a : BitVec 6) (s : State) : Host.Outcome State Fault Refusal :=
  runAlone (.vcvtI32I16 u n k t d a) (slotVcvtI32I16 u n k t d a s) s

/-- VCVT.i16.i32 (R252). -/
def slotVcvtI16I32 (u : VUnit) (n : BitVec 2) (k : BitVec 3) (t : BitVec 1) (d a : BitVec 6) (s : State) : SlotRes :=
  vwiden u n k t d a 16 false (fun a => (laneInt 32 (sextN 16 a), 0)) s
/-- The same, issued alone. -/
def execVcvtI16I32 (u : VUnit) (n : BitVec 2) (k : BitVec 3) (t : BitVec 1) (d a : BitVec 6) (s : State) : Host.Outcome State Fault Refusal :=
  runAlone (.vcvtI16I32 u n k t d a) (slotVcvtI16I32 u n k t d a s) s

/-- VCVT.i16.i8 (R252). -/
def slotVcvtI16I8 (u : VUnit) (n : BitVec 2) (k : BitVec 3) (t : BitVec 1) (d a : BitVec 6) (s : State) : SlotRes :=
  vnarrow u n k t d a 16 false (fun a => (laneInt 8 (satInt 8 (sextN 16 a)), 0)) s
/-- The same, issued alone. -/
def execVcvtI16I8 (u : VUnit) (n : BitVec 2) (k : BitVec 3) (t : BitVec 1) (d a : BitVec 6) (s : State) : Host.Outcome State Fault Refusal :=
  runAlone (.vcvtI16I8 u n k t d a) (slotVcvtI16I8 u n k t d a s) s

/-- VCVT.i8.i16 (R252). -/
def slotVcvtI8I16 (u : VUnit) (n : BitVec 2) (k : BitVec 3) (t : BitVec 1) (d a : BitVec 6) (s : State) : SlotRes :=
  vwiden u n k t d a 8 false (fun a => (laneInt 16 (sextN 8 a), 0)) s
/-- The same, issued alone. -/
def execVcvtI8I16 (u : VUnit) (n : BitVec 2) (k : BitVec 3) (t : BitVec 1) (d a : BitVec 6) (s : State) : Host.Outcome State Fault Refusal :=
  runAlone (.vcvtI8I16 u n k t d a) (slotVcvtI8I16 u n k t d a s) s

/-- VQNT.mx8 (R254). -/
def slotVqntMx8 (u : VUnit) (n : BitVec 2) (k : BitVec 3) (t : BitVec 1) (d a b : BitVec 6) (s : State) : SlotRes :=
  vquant u n k t d a b 8 s
/-- The same, issued alone. -/
def execVqntMx8 (u : VUnit) (n : BitVec 2) (k : BitVec 3) (t : BitVec 1) (d a b : BitVec 6) (s : State) : Host.Outcome State Fault Refusal :=
  runAlone (.vqntMx8 u n k t d a b) (slotVqntMx8 u n k t d a b s) s

/-- VDQNT.mx8 (R256). -/
def slotVdqntMx8 (u : VUnit) (n : BitVec 2) (k : BitVec 3) (t : BitVec 1) (d a b : BitVec 6) (s : State) : SlotRes :=
  vdequant u n k t d a b 8 s
/-- The same, issued alone. -/
def execVdqntMx8 (u : VUnit) (n : BitVec 2) (k : BitVec 3) (t : BitVec 1) (d a b : BitVec 6) (s : State) : Host.Outcome State Fault Refusal :=
  runAlone (.vdqntMx8 u n k t d a b) (slotVdqntMx8 u n k t d a b s) s

/-- VPLN.mx8 (R257). -/
def slotVplnMx8 (u : VUnit) (n : BitVec 2) (t : BitVec 1) (d a : BitVec 6) (s : State) : SlotRes :=
  vplane u n t d a 8 s
/-- The same, issued alone. -/
def execVplnMx8 (u : VUnit) (n : BitVec 2) (t : BitVec 1) (d a : BitVec 6) (s : State) : Host.Outcome State Fault Refusal :=
  runAlone (.vplnMx8 u n t d a) (slotVplnMx8 u n t d a s) s

/-- VUPLN.mx8 (R257). -/
def slotVuplnMx8 (u : VUnit) (n : BitVec 2) (t : BitVec 1) (d a : BitVec 6) (s : State) : SlotRes :=
  vunplane u n t d a 8 s
/-- The same, issued alone. -/
def execVuplnMx8 (u : VUnit) (n : BitVec 2) (t : BitVec 1) (d a : BitVec 6) (s : State) : Host.Outcome State Fault Refusal :=
  runAlone (.vuplnMx8 u n t d a) (slotVuplnMx8 u n t d a s) s

/-- VQNT.mx6 (R254). -/
def slotVqntMx6 (u : VUnit) (n : BitVec 2) (k : BitVec 3) (t : BitVec 1) (d a b : BitVec 6) (s : State) : SlotRes :=
  vquant u n k t d a b 6 s
/-- The same, issued alone. -/
def execVqntMx6 (u : VUnit) (n : BitVec 2) (k : BitVec 3) (t : BitVec 1) (d a b : BitVec 6) (s : State) : Host.Outcome State Fault Refusal :=
  runAlone (.vqntMx6 u n k t d a b) (slotVqntMx6 u n k t d a b s) s

/-- VDQNT.mx6 (R256). -/
def slotVdqntMx6 (u : VUnit) (n : BitVec 2) (k : BitVec 3) (t : BitVec 1) (d a b : BitVec 6) (s : State) : SlotRes :=
  vdequant u n k t d a b 6 s
/-- The same, issued alone. -/
def execVdqntMx6 (u : VUnit) (n : BitVec 2) (k : BitVec 3) (t : BitVec 1) (d a b : BitVec 6) (s : State) : Host.Outcome State Fault Refusal :=
  runAlone (.vdqntMx6 u n k t d a b) (slotVdqntMx6 u n k t d a b s) s

/-- VPLN.mx6 (R257). -/
def slotVplnMx6 (u : VUnit) (n : BitVec 2) (t : BitVec 1) (d a : BitVec 6) (s : State) : SlotRes :=
  vplane u n t d a 6 s
/-- The same, issued alone. -/
def execVplnMx6 (u : VUnit) (n : BitVec 2) (t : BitVec 1) (d a : BitVec 6) (s : State) : Host.Outcome State Fault Refusal :=
  runAlone (.vplnMx6 u n t d a) (slotVplnMx6 u n t d a s) s

/-- VUPLN.mx6 (R257). -/
def slotVuplnMx6 (u : VUnit) (n : BitVec 2) (t : BitVec 1) (d a : BitVec 6) (s : State) : SlotRes :=
  vunplane u n t d a 6 s
/-- The same, issued alone. -/
def execVuplnMx6 (u : VUnit) (n : BitVec 2) (t : BitVec 1) (d a : BitVec 6) (s : State) : Host.Outcome State Fault Refusal :=
  runAlone (.vuplnMx6 u n t d a) (slotVuplnMx6 u n t d a s) s

/-- VQNT.mx4 (R254). -/
def slotVqntMx4 (u : VUnit) (n : BitVec 2) (k : BitVec 3) (t : BitVec 1) (d a b : BitVec 6) (s : State) : SlotRes :=
  vquant u n k t d a b 4 s
/-- The same, issued alone. -/
def execVqntMx4 (u : VUnit) (n : BitVec 2) (k : BitVec 3) (t : BitVec 1) (d a b : BitVec 6) (s : State) : Host.Outcome State Fault Refusal :=
  runAlone (.vqntMx4 u n k t d a b) (slotVqntMx4 u n k t d a b s) s

/-- VDQNT.mx4 (R256). -/
def slotVdqntMx4 (u : VUnit) (n : BitVec 2) (k : BitVec 3) (t : BitVec 1) (d a b : BitVec 6) (s : State) : SlotRes :=
  vdequant u n k t d a b 4 s
/-- The same, issued alone. -/
def execVdqntMx4 (u : VUnit) (n : BitVec 2) (k : BitVec 3) (t : BitVec 1) (d a b : BitVec 6) (s : State) : Host.Outcome State Fault Refusal :=
  runAlone (.vdqntMx4 u n k t d a b) (slotVdqntMx4 u n k t d a b s) s

/-- VPLN.mx4 (R257). -/
def slotVplnMx4 (u : VUnit) (n : BitVec 2) (t : BitVec 1) (d a : BitVec 6) (s : State) : SlotRes :=
  vplane u n t d a 4 s
/-- The same, issued alone. -/
def execVplnMx4 (u : VUnit) (n : BitVec 2) (t : BitVec 1) (d a : BitVec 6) (s : State) : Host.Outcome State Fault Refusal :=
  runAlone (.vplnMx4 u n t d a) (slotVplnMx4 u n t d a s) s

/-- VUPLN.mx4 (R257). -/
def slotVuplnMx4 (u : VUnit) (n : BitVec 2) (t : BitVec 1) (d a : BitVec 6) (s : State) : SlotRes :=
  vunplane u n t d a 4 s
/-- The same, issued alone. -/
def execVuplnMx4 (u : VUnit) (n : BitVec 2) (t : BitVec 1) (d a : BitVec 6) (s : State) : Host.Outcome State Fault Refusal :=
  runAlone (.vuplnMx4 u n t d a) (slotVuplnMx4 u n t d a s) s

/-- VAMAX.f32 (R255). -/
def slotVamaxF32 (u : VUnit) (n : BitVec 2) (k : BitVec 3) (t : BitVec 1) (a : BitVec 6) (s : State) : SlotRes :=
  vamaxWord u n k t a 24 s
/-- The same, issued alone. -/
def execVamaxF32 (u : VUnit) (n : BitVec 2) (k : BitVec 3) (t : BitVec 1) (a : BitVec 6) (s : State) : Host.Outcome State Fault Refusal :=
  runAlone (.vamaxF32 u n k t a) (slotVamaxF32 u n k t a s) s

/-- VAMAX.bf16 (R255). -/
def slotVamaxBf16 (u : VUnit) (n : BitVec 2) (k : BitVec 3) (t : BitVec 1) (a : BitVec 6) (s : State) : SlotRes :=
  vamaxWord u n k t a 8 s
/-- The same, issued alone. -/
def execVamaxBf16 (u : VUnit) (n : BitVec 2) (k : BitVec 3) (t : BitVec 1) (a : BitVec 6) (s : State) : Host.Outcome State Fault Refusal :=
  runAlone (.vamaxBf16 u n k t a) (slotVamaxBf16 u n k t a s) s

end Sys2Proof.Machine
end

