-- ==== Sys2Proof/Machine/Matrix.lean ====
section
/-! DEFINITION. The matrix engine (R282 to R313), and the landing of everything that vector and matrix words put in
flight (R53 to R55, R117, R237, R254, R278, R284). -/

namespace Sys2Proof.Machine

-- Streams

/-- The element width of a stream's format (R290). -/
def fmtBits (f : BitVec 3) : Nat :=
  match f.toNat with
  | 0 => 8 | 1 => 6 | 2 => 4 | 3 => 8 | 4 => 6 | _ => 4

/-- The digit planes of a plane-form stream (R290). -/
def fmtPlanes (f : BitVec 3) : Nat := fmtBits f / 2

/-- The reduction length of an MMA with this B stream (R290). -/
def fmtK (f : BitVec 3) : Nat := if f = 2 then 128 else 64

/-- The lines that the bytes [a, a + n) lie in, relative to the allotment. -/
def linesOf (a n : Nat) : List Nat := if n = 0 then [] else (List.range ((a + n - 1) / 128 - a / 128 + 1)).map (fun i => a / 128 + i)

/-- Where row `i` of an A stream starts, for an MMA from KOFF (R294). -/
def aStart (sa : StreamReg) (i : Nat) : Nat :=
  sa.base.toNat * 128 + i * sa.rstr.toNat + sa.koff.toNat / 64 * 16 * fmtPlanes sa.fmt

/-- Where B's row `k` starts (R295). -/
def bStart (sb : StreamReg) (k : Nat) : Nat := sb.base.toNat * 128 + (sb.koff.toNat + k) * sb.rstr.toNat

/-- The first A scale of row `i` and the first B scale of block `q` (R296). -/
def aScale (sa : StreamReg) (i : Nat) : Nat := sa.sbase.toNat * 128 + i * sa.sstr.toNat + sa.koff.toNat / 32
def bScale (sb : StreamReg) (q : Nat) : Nat := sb.sbase.toNat * 128 + (sb.koff.toNat / 32 + q) * sb.sstr.toNat

/-- The bytes of a row of B (R295). -/
def bRowLen (sb : StreamReg) : Nat := if sb.fmt = 2 then 32 else 64

/-- Every relative line that an MMA of `g` rowgroups reads, in the order of R294 to R296. -/
def mmaLines (sa sb : StreamReg) (g : Nat) : List Nat :=
  let k := fmtK sb.fmt
  ((List.range (4 * g)).map (fun i => linesOf (aStart sa i) (k / 64 * 16 * fmtPlanes sa.fmt))).flatten ++
  ((List.range k).map (fun r => linesOf (bStart sb r) (bRowLen sb))).flatten ++
  ((List.range (4 * g)).map (fun i => linesOf (aScale sa i) (k / 32))).flatten ++
  ((List.range (k / 32)).map (fun q => linesOf (bScale sb q) 64)).flatten

/-- Bytes of a context's own lines, by a byte offset from the start of its allotment. -/
def ownBytes (s : State) (c : Ctx) (a n : Nat) : List (BitVec 8) := s.scratchRead s.g (c.sys.allocBase.toNat * 128 + a) n

/-- The 64 codes of a plane group (R216, R217, R294). -/
def groupCodes (nb : Nat) (v : Nat) : List Int :=
  (List.range 64).map (fun e =>
    sextN nb (((List.range (nb / 2)).map (fun j => v / 2 ^ (128 * j + 2 * e) % 4 * 4 ^ j)).foldl (· + ·) 0))

/-- The codes of A's row `i` over the reduction (R294). -/
def aCodes (s : State) (c : Ctx) (sa : StreamReg) (k i : Nat) : List Int :=
  let len := 16 * fmtPlanes sa.fmt
  ((List.range (k / 64)).map (fun q => groupCodes (fmtBits sa.fmt) (leNat (ownBytes s c (aStart sa i + q * len) len)))).flatten

/-- The 64 codes of B's row (R214, R215, R295). -/
def bCodes (s : State) (c : Ctx) (sb : StreamReg) (r : Nat) : List Int :=
  let v := leNat (ownBytes s c (bStart sb r) (bRowLen sb))
  let nb := fmtBits sb.fmt
  if sb.fmt = 2 then (List.range 64).map (fun n => sextN 4 (v / 16 ^ n % 16))
  else (List.range 64).map (fun n => sextN nb (v / 256 ^ n % 256))

/-- A term of an MMA (R300). -/
def mmaTerm (nan : Bool) (d : Int) (x y : Scale) : Nat :=
  if nan then canonNaN 24
  else
    match x, y with
    | .nan, _ => canonNaN 24
    | _, .nan => canonNaN 24
    | .inf, .inf => if d = 0 then canonNaN 24 else infBits 24 (d < 0)
    | .inf, .fin m _ => if m = 0 || d = 0 then canonNaN 24 else infBits 24 (d < 0)
    | .fin m _, .inf => if m = 0 || d = 0 then canonNaN 24 else infBits 24 (d < 0)
    | .fin m e, .fin m' e' => (roundF 24 0 false (d < 0) (d.natAbs * (m * m')) (e + e') false).1

/-- A dot product of 32 codes and whether one of them is the NaN code (R213, R300). -/
def dotBlock (na nb : Nat) (as bs : List Int) : Int × Bool :=
  ((List.zipWith (· * ·) as bs).foldl (· + ·) 0, as.any (· == -(2 ^ (na - 1))) || bs.any (· == -(2 ^ (nb - 1))))

/-- The columns of rows of codes. -/
def columns (rows : List (List Int)) : List (List Int) := (List.range 64).map (fun n => rows.map (fun r => r[n]?.getD 0))

/-- The terms of an MMA: for each row, one register of 64 terms per block (R300). -/
def mmaRows (s : State) (c : Ctx) (sa sb : StreamReg) (g : Nat) : List (List VReg) :=
  let k := fmtK sb.fmt
  let na := fmtBits sa.fmt
  let nb := fmtBits sb.fmt
  let blocks := (List.range (k / 32)).map (fun q =>
    (columns ((List.range 32).map (fun u => bCodes s c sb (32 * q + u))),
      (ownBytes s c (bScale sb q) 64).map (fun b => decodeBs8 b.toNat)))
  (List.range (4 * g)).map (fun i =>
    let codes := aCodes s c sa k i
    let scales := (ownBytes s c (aScale sa i) (k / 32)).map (fun b => decodeBs8 b.toNat)
    blocks.zipIdx.map (fun bl =>
      let as := (codes.drop (32 * bl.2)).take 32
      let x := scales[bl.2]?.getD .nan
      packLanes 32 (List.zipWith (fun col y => let (d, nan) := dotBlock na nb as col; mmaTerm nan d x y) bl.1.1 bl.1.2)))

-- Shared checks

/-- TILE_RANGE for a tile field, with TRAPI as R298 gives. -/
def tileRangeTrap (c : Ctx) (t : BitVec 6) : Option Trap :=
  trapIf (c.sys.tilesCount.toNat ≤ t.toNat) { code := Code.tileRange.num, trapi := BitVec.ofNat 64 (3 + t.toNat * 256) }

/-- A tile field's physical tile (R283). -/
def physTile (c : Ctx) (t : BitVec 6) : Nat := c.sys.tilesFirst.toNat + t.toNat

/-- The wait on a busy tile; an MMA chains on earlier MMAs (R285, R286). -/
def tileHold (s : State) (t : Nat) (chain : Bool) : Option Hold :=
  holdIf (s.mergeReads t || (s.cr.tileBusy t && !(chain && s.cr.tileMmaOnly t))) .engine

/-- A form fault of a matrix stream line (R298): TRAPI[7:0] is 3. -/
def streamFormTrap (s : State) (c : Ctx) (ls : List Nat) : Option Trap :=
  firstTrap (ls.map (fun l =>
    let m := s.metaAt (relKey s c l)
    let info := BitVec.ofNat 64 (3 + l % 2 ^ 24 * 256)
    match m.form with
    | .plain => none
    | .poison => some { code := Code.integrity.num, trapi := info }
    | .cipher => some { code := Code.form.num, trapi := info }))

/-- MMA and MMA.ow (R297 to R302). -/
def mmaWord (a b : BitVec 4) (t : BitVec 6) (gf : BitVec 4) (ow : Bool) (s : State) : SlotRes :=
  let c := s.ctx
  let sa := c.s[a.toNat]
  let sb := c.s[b.toNat]
  let g := gf.toNat + 1
  let busy := g * fmtPlanes sa.fmt
  let weight := if sb.fmt = 2 then 36 else 32
  let pairing := !(3 ≤ sa.fmt.toNat && sa.fmt.toNat ≤ 5 && sb.fmt.toNat ≤ 2)
  let ls := (mmaLines sa sb g).eraseDups
  let full := ls.all (fun l => (s.metaAt (relKey s c l)).full)
  let tile := physTile c t
  { slot := .m, engine := some (busy, weight), dests := [.tile t]
    trap := firstTrap [trapIf pairing (slotTrap .illegal 3), tileRangeTrap c t, lineRangeTrap .m c ls,
      if full then streamFormTrap s c ls else none]
    tileWait := (tileHold s tile true).isSome
    hold := joinHolds [tileHold s tile true, holdIf (!full) .engine]
    effect := fun u =>
      let u := { u with cr := { u.cr with reads := u.cr.reads ++ ls.map (fun l => (physLine c l, u.cr.cyc + busy)) } }
      u.addFlight .m u.cr.cur (u.cr.cyc + busy + 12)
        (.mma tile ow (mmaRows s c sa sb g) busy c.sys.rchk false c.pc.toNat t) }

/-- MMA (R297, mode 00). -/
def slotMma (a b : BitVec 4) (t : BitVec 6) (g : BitVec 4) (s : State) : SlotRes := mmaWord a b t g false s
/-- MMA, issued alone. -/
def execMma (a b : BitVec 4) (t : BitVec 6) (g : BitVec 4) (s : State) : Host.Outcome State Fault Refusal :=
  runAlone (.mma a b t g) (slotMma a b t g s) s

/-- MMA.ow (R297, mode 01). -/
def slotMmaOw (a b : BitVec 4) (t : BitVec 6) (g : BitVec 4) (s : State) : SlotRes := mmaWord a b t g true s
/-- MMA.ow, issued alone. -/
def execMmaOw (a b : BitVec 4) (t : BitVec 6) (g : BitVec 4) (s : State) : Host.Outcome State Fault Refusal :=
  runAlone (.mmaOw a b t g) (slotMmaOw a b t g s) s

/-- A word on a tile alone: cleared at c + 1 (R284, R307). -/
def tileClearWord (t : BitVec 6) (released : Bool) (s : State) : SlotRes :=
  let c := s.ctx
  let tile := physTile c t
  { slot := .m, engine := some (1, 2), dests := [.tile t]
    trap := tileRangeTrap c t
    tileWait := (tileHold s tile false).isSome
    hold := tileHold s tile false
    effect := fun u => u.addFlight .m u.cr.cur (u.cr.cyc + 1) (.tileClear tile released) }

/-- MZERO (R307). -/
def slotMzero (t : BitVec 6) (s : State) : SlotRes := tileClearWord t false s
/-- MZERO, issued alone. -/
def execMzero (t : BitVec 6) (s : State) : Host.Outcome State Fault Refusal := runAlone (.mzero t) (slotMzero t s) s

/-- MRES (R307). -/
def slotMres (t : BitVec 6) (s : State) : SlotRes := tileClearWord t true s
/-- MRES, issued alone. -/
def execMres (t : BitVec 6) (s : State) : Host.Outcome State Fault Refusal := runAlone (.mres t) (slotMres t s) s

/-- A row word that writes vector lines (R306): its checks, its waits, and its lines and tile in flight. -/
def tileToLines (v t : BitVec 6) (busy cnt : Nat) (rs : List VReg) (s : State) : SlotRes :=
  let c := s.ctx
  let tile := physTile c t
  let rels := groupLines c v cnt
  let lw := lineWriteWait s (rels.map (physLine c))
  let own := firstTrap [tileRangeTrap c t, lineRangeTrap .m c rels]
  let out := regLines c v (rs.map (fun r => (r, BitVec.allOnes 256)))
  { slot := .m, engine := some (busy, 6), dests := .tile t :: nameDests v cnt
    lineDests := rels.map (physLine c)
    trap := match own with | some x => some x | none => lw.1
    onTrap := if own.isSome then id else lw.2.1
    tileWait := (tileHold s tile false).isSome
    hold := joinHolds (tileHold s tile false :: lw.2.2 :: rels.map (lineHold s c))
    effect := fun u =>
      let u := rels.foldl (fun u l => u.setFull (relKey u c l) false) u
      let due := u.cr.cyc + busy + 4
      let u := u.addFlight .m u.cr.cur due
        (.lines (out.map (fun d => { line := physLine c d.rel, data := d.data, mask := d.mask })))
      u.addFlight .m u.cr.cur due (.tileFree tile) }

/-- A row word that reads vector lines and writes tile rows at its retire cycle (R306). -/
def linesToTile (v t : BitVec 6) (busy cnt : Nat) (rows : List (Nat × VReg)) (s : State) : SlotRes :=
  let c := s.ctx
  let tile := physTile c t
  let src : Source := { code := v, n := cnt }
  let rels := groupLines c v cnt
  { slot := .m, engine := some (busy, 6), dests := [.tile t]
    trap := firstTrap [tileRangeTrap c t, lineRangeTrap .m c rels, sourceFormTrap s c src]
    tileWait := (tileHold s tile false).isSome
    hold := joinHolds [tileHold s tile false, sourceHold s c src]
    effect := fun u =>
      let u := { u with cr := { u.cr with reads := u.cr.reads ++ laterReads c u.cr.cyc (busy / max 1 cnt) 1 src } }
      u.addFlight .m u.cr.cur (u.cr.cyc + busy + 4) (.tileRows tile rows) }

/-- MRD.f32 (R308). -/
def slotMrdF32 (v t : BitVec 6) (cf ff : BitVec 4) (s : State) : SlotRes :=
  let cnt := 4 * (cf.toNat + 1)
  let tile := physTile s.ctx t
  tileToLines v t cnt cnt ((List.range cnt).map (fun m => s.tileRow s.g tile (4 * ff.toNat + m))) s
/-- MRD.f32, issued alone. -/
def execMrdF32 (v t : BitVec 6) (c f : BitVec 4) (s : State) : Host.Outcome State Fault Refusal :=
  runAlone (.mrdF32 v t c f) (slotMrdF32 v t c f s) s

/-- A tile row rounded to 64 BF16 lanes (R308). -/
def rowToBf16 (r : VReg) : Nat := packNat 16 ((lanesOf 32 r).map (fun x => (nebf16 (BitVec.ofNat 32 x)).toNat))

/-- MRD.bf16 (R308). -/
def slotMrdBf16 (v t : BitVec 6) (cf ff : BitVec 4) (s : State) : SlotRes :=
  let cnt := 2 * (cf.toNat + 1)
  let tile := physTile s.ctx t
  tileToLines v t cnt cnt ((List.range cnt).map (fun m =>
    BitVec.ofNat 2048 (rowToBf16 (s.tileRow s.g tile (4 * ff.toNat + 2 * m)) +
      2 ^ 1024 * rowToBf16 (s.tileRow s.g tile (4 * ff.toNat + 2 * m + 1))))) s
/-- MRD.bf16, issued alone. -/
def execMrdBf16 (v t : BitVec 6) (c f : BitVec 4) (s : State) : Host.Outcome State Fault Refusal :=
  runAlone (.mrdBf16 v t c f) (slotMrdBf16 v t c f s) s

/-- MWR.f32 (R309). -/
def slotMwrF32 (v t : BitVec 6) (cf ff : BitVec 4) (s : State) : SlotRes :=
  let cnt := 4 * (cf.toNat + 1)
  linesToTile v t cnt cnt ((operandRegs s s.ctx v cnt).zipIdx.map (fun r => (4 * ff.toNat + r.2, r.1))) s
/-- MWR.f32, issued alone. -/
def execMwrF32 (v t : BitVec 6) (c f : BitVec 4) (s : State) : Host.Outcome State Fault Refusal :=
  runAlone (.mwrF32 v t c f) (slotMwrF32 v t c f s) s

/-- The rows that first and count select (R306). -/
def rowsOf (cf ff : BitVec 4) : List Nat := (List.range (4 * (cf.toNat + 1))).map (fun m => 4 * ff.toNat + m)

/-- MSCL (R310). -/
def slotMscl (v t : BitVec 6) (cf ff : BitVec 4) (s : State) : SlotRes :=
  let tile := physTile s.ctx t
  let r := nthReg (operandRegs s s.ctx v 1) 0
  let rows := (rowsOf cf ff).map (fun i =>
    (i, packLanes 32 ((lanesOf 32 (s.tileRow s.g tile i)).map (fun x => (mul32 (BitVec.ofNat 32 x) (BitVec.ofNat 32 (laneAt 32 r i))).toNat))))
  linesToTile v t (cf.toNat + 1) 1 rows s
/-- MSCL, issued alone. -/
def execMscl (v t : BitVec 6) (c f : BitVec 4) (s : State) : Host.Outcome State Fault Refusal :=
  runAlone (.mscl v t c f) (slotMscl v t c f s) s

/-- The maximum of a row by the choice of R242, without `in_fp` (R311). -/
def rowMax (r : VReg) : Nat := (lanesOf 32 r).foldl (fun m x => (chooseF 24 true false m x).1) 0xFF800000

/-- MROWMAX (R311). -/
def slotMrowmax (v t : BitVec 6) (cf ff : BitVec 4) (s : State) : SlotRes :=
  let tile := physTile s.ctx t
  let sel := rowsOf cf ff
  let lanes := (List.range 64).map (fun i => if sel.contains i then rowMax (s.tileRow s.g tile i) else 0xFF800000)
  tileToLines v t (cf.toNat + 1) 1 [packLanes 32 lanes] s
/-- MROWMAX, issued alone. -/
def execMrowmax (v t : BitVec 6) (c f : BitVec 4) (s : State) : Host.Outcome State Fault Refusal :=
  runAlone (.mrowmax v t c f) (slotMrowmax v t c f s) s

-- Landing

/-- A line write landed: the bytes, plain form, full; or poison (R53, R194, R278). -/
def State.landLineWrite (s : State) (w : LineWrite) : State :=
  let key := lineKey s.g w.line
  if w.poison then s.setMeta key { s.metaAt key with full := true, form := .poison }
  else (s.writeLine key w.data w.mask .plain).setFull key true

/-- One row of a tile with the terms of an MMA applied in ascending block order (R301). -/
def applyTerms (ow : Bool) (x : VReg) : List VReg → VReg
  | [] => x
  | t :: rest =>
    let x' := if ow then t
      else packLanes 32 (List.zipWith (fun a b => (add32 (BitVec.ofNat 32 a) (BitVec.ofNat 32 b)).toNat) (lanesOf 32 x) (lanesOf 32 t))
    applyTerms false x' rest

/-- RESC after an accepted replay, each field saturating (R304). -/
def Ctx.countReplay (c : Ctx) (b : Nat) : Ctx :=
  { c with sys := { c.sys with replays := BitVec.ofNat 16 (min 65535 (c.sys.replays.toNat + 1))
                               beats := BitVec.ofNat 32 (min (2 ^ 32 - 1) (c.sys.beats.toNat + b)) } }

/-- The lines of a gather that still wait for lanes (R278). -/
def gatherRest (ws : List GatherLine) : List GatherLine := ws.filter (fun w => !w.lanes.isEmpty)

/-- What an operation in flight does when it lands; a gather writes the lines whose lanes are all in, and bp0 with the last lines of its last
register (R278). -/
def land (f : Flight) (s : State) : State :=
  match f.what with
  | .bypass u v => { s with cr := s.cr.setBypass u { val := v, full := true } }
  | .lines ws => ws.foldl State.landLineWrite s
  | .fstat fl => s.modCtxAt f.k (fun c => c.orFstat fl)
  | .amax v => s.modCtxAt f.k (fun c => c.raiseAmax v)
  | .mask r v => s.modCtxAt f.k (fun c => c.setK r { bits := v })
  | .xreg r v => s.modCtxAt f.k (fun c => c.setX r v)
  | .mma t ow rows _ _ _ _ _ =>
    rows.zipIdx.foldl (fun s r => s.setTileRow s.g t r.2 (applyTerms ow (s.tileRow s.g t r.2) r.1)) s
  | .tileRows t rows => rows.foldl (fun s r => s.setTileRow s.g t r.1 r.2) s
  | .tileClear t released =>
    let s := s.zeroTile s.g t
    if released then { s with released := s.released ++ [s.g * 48 + t] } else s
  | .tileFree _ => s
  | .gather ws last fills =>
    let s := ((ws.filter (fun w => w.lanes.isEmpty)).map GatherLine.write).foldl State.landLineWrite s
    if fills && !(gatherRest ws).any GatherLine.last then { s with cr := { s.cr with bp0 := { val := last, full := true } } } else s
  | .accepted b => s.modCtxAt f.k (fun c => c.countReplay b)
  | .ctab _ => s

/-- What is left in flight behind a landing: the lines of a gather that still wait for lanes (R278). -/
def Landing.rest : Landing → Option Landing
  | .gather ws last fills =>
    let r := gatherRest ws
    if r.isEmpty then none else some (.gather r last (fills && r.any GatherLine.last))
  | _ => none

/-- A flight is due: its cycle has come, and for a gather some line's lanes are in. -/
def Flight.ready (f : Flight) (cyc : Nat) : Bool :=
  decide (f.due ≤ cyc) && (match f.what with | .gather ws _ _ => ws.any (fun w => w.lanes.isEmpty) | _ => true)

/-- Which event lands a flight. -/
def Landing.isBypass : Landing → Bool
  | .bypass .. => true
  | _ => false
def Landing.isLines : Landing → Bool
  | .lines _ => true
  | .fstat _ => true
  | .amax _ => true
  | .gather .. => true
  | .ctab _ => true
  | _ => false
def Landing.isMask : Landing → Bool
  | .mask .. => true
  | _ => false
def Landing.isX : Landing → Bool
  | .xreg .. => true
  | _ => false
def Landing.isTile (w : Landing) : Bool :=
  w.tile.isSome || (match w with | .accepted _ => true | _ => false)

/-- A due flight of a kind lands. -/
def doLand (p : Landing → Bool) (id : Nat) (s : State) : Option State :=
  match s.cr.flights.find? (fun f => f.id == id) with
  | some f =>
    if f.ready s.cr.cyc && p f.what then
      some (land f { s with cr := { s.cr with flights := s.cr.flights.filterMap (fun o =>
        if o.id != id then some o else o.what.rest.map (fun w => { o with what := w })) } })
    else none
  | none => none

/-- VECTOR_BYPASS_FILL (R54). -/
def execVectorBypassFill (s : State) : Host.Outcome State Fault Refusal :=
  match s.event with
  | some (.vectorBypassFill id) => onEvent (doLand Landing.isBypass id s) s
  | _ => .next s

/-- VECTOR_LINE_WRITE: lines, FSTAT and AMAX at c + b + 4 (R53, R237, R254, R278). -/
def execVectorLineWrite (s : State) : Host.Outcome State Fault Refusal :=
  match s.event with
  | some (.vectorLineWrite id) => onEvent (doLand Landing.isLines id s) s
  | _ => .next s

/-- MASK_WRITE (R55). -/
def execMaskWrite (s : State) : Host.Outcome State Fault Refusal :=
  match s.event with
  | some (.maskWrite id) => onEvent (doLand Landing.isMask id s) s
  | _ => .next s

/-- DIVIDE_RESULT: a scalar result at its cycle (R117, R270). -/
def execDivideResult (s : State) : Host.Outcome State Fault Refusal :=
  match s.event with
  | some (.divideResult id) => onEvent (doLand Landing.isX id s) s
  | _ => .next s

/-- TILE_RETIRE (R284). -/
def execTileRetire (s : State) : Host.Outcome State Fault Refusal :=
  match s.event with
  | some (.tileRetire id) => onEvent (doLand Landing.isTile id s) s
  | _ => .next s

/-- A block whose term is not NaN, so that it is compared (R303): row, column, block. -/
def comparedAt (rows : List (List VReg)) (row col block : Nat) : Bool :=
  match (rows[row]?).bind (fun r => r[block]?) with
  | some v => !(decodeF 24 (laneAt 32 v col)).isNan
  | none => false

/-- Some block of some element of an MMA is compared (R303). -/
def someCompared (rows : List (List VReg)) : Bool :=
  rows.any (fun r => r.any (fun v => (lanesOf 32 v).any (fun x => !(decodeF 24 x).isNan)))

/-- RESIDUE_REPLAY: a mismatch in a compared block of a checked MMA whose terms are not accepted yet; its retire cycle moves back by its busy
time, the engine stays occupied as long, and the terms are accepted then (R303, R304). It is logged as a corrected error (R542). -/
def doResidueReplay (id : Nat) (s : State) : Option State :=
  match s.cr.flights.find? (fun f => f.id == id) with
  | some f =>
    match f.what with
    | .mma t ow rows b true false pc tile =>
      if s.cr.cyc + 12 ≤ f.due && someCompared rows then
        let f' := { f with due := f.due + b, what := .mma t ow rows b true true pc tile }
        let accept : Flight := { id := s.nextId, k := f.k, due := f.due + b - 12, what := .accepted b, unit_ := f.unit_, since := f.since }
        some { s.logHealth (s.g / 192) 0 4 s.g tile.toNat with
          nextId := s.nextId + 1
          cr := { s.cr with
            flights := s.cr.flights.map (fun o => if o.id == id then f' else o) ++ [accept]
            m := { s.cr.m with replay := max s.cr.m.replay (f.due - 12 + b) } } }
      else none
    | _ => none
  | none => none
/-- RESIDUE_REPLAY (R304). -/
def execResidueReplay (s : State) : Host.Outcome State Fault Refusal :=
  match s.event with
  | some (.residueReplay id) => onEvent (doResidueReplay id s) s
  | _ => .next s

/-- RESIDUE's information (R305). -/
def residueInfo (tile row col : BitVec 6) (block : BitVec 2) : Word :=
  BitVec.ofNat 64 (tile.toNat + row.toNat * 2 ^ 6 + col.toNat * 2 ^ 12 + block.toNat * 2 ^ 18)

/-- Two flights belong to one operation. -/
def Flight.sameOp (f g : Flight) : Bool := f.unit_ == g.unit_ && f.since == g.since

/-- RESIDUE: the replay of an MMA disagrees in a compared block before its terms are accepted; it is logged, the MMA changes nothing and its context is to
end (R303, R305, R542). -/
def doResidue (id : Nat) (row col : BitVec 6) (block : BitVec 2) (s : State) : Option State :=
  match s.cr.flights.find? (fun f => f.id == id) with
  | some f =>
    match f.what with
    | .mma _ _ rows _ _ true pc tile =>
      let accept := fun (o : Flight) => o.sameOp f && (match o.what with | .accepted _ => true | _ => false)
      if s.cr.flights.any accept && comparedAt rows row.toNat col.toNat block.toNat then
        let s := { s with cr := { s.cr with flights := s.cr.flights.filter (fun o => o.id != id && !accept o) } }
        some ((s.logHealth (s.g / 192) 1 7 s.g tile.toNat).addDue f.k Code.residue.num (residueInfo tile row col block) (some pc))
      else none
    | _ => none
  | none => none
/-- RESIDUE (R305). -/
def execResidue (s : State) : Host.Outcome State Fault Refusal :=
  match s.event with
  | some (.residue id row col block) => onEvent (doResidue id row col block s) s
  | _ => .next s

end Sys2Proof.Machine
end

