-- ==== Sys2Proof/Machine/Merge.lean ====
section
/-! DEFINITION. The token merge unit (R449 to R464): MGMATCH, MGSEL, MGMERGE, MGUNM and MGLOGS. -/

namespace Sys2Proof.Machine

-- The map object

/-- Bits of a register. -/
def wordBits (v : Word) (h l : Nat) : Nat := bitsOf v.toNat h l

/-- `n` little-endian numbers of `w` bytes each. -/
def numbersOf (w : Nat) : Nat → List (BitVec 8) → List Nat
  | 0, _ => []
  | n + 1, bs => leNat (bs.take w) :: numbersOf w n (bs.drop w)

/-- Little-endian bytes of numbers of `w` bytes each, filled up with zeros to `n` of them (R455). -/
def packNumbers (w n : Nat) (l : List Nat) : List (BitVec 8) := ((l ++ List.replicate (n - l.length) 0).map (leBytes w)).flatten

/-- A map object as it is read: header and arrays up to their counts (R455, R456). -/
structure MgMap where
  header : Nat
  pos : List Nat
  size : List Nat
  last : List (Nat × Nat)
  deriving DecidableEq, Repr

/-- Fields of the header (R456). -/
def MgMap.n0 (m : MgMap) : Nat := bitsOf m.header 12 0
def MgMap.nc (m : MgMap) : Nat := bitsOf m.header 28 16
def MgMap.oldn (m : MgMap) : Nat := bitsOf m.header 44 32
def MgMap.layers (m : MgMap) : Nat := bitsOf m.header 55 48

/-- Bytes from a line of a core's scratchpad. -/
def State.bytesAt (s : State) (g line n : Nat) : List (BitVec 8) := s.scratchRead g (line * 128) n

/-- The map object at a physical line of a core (R455). -/
def readMap (s : State) (g line : Nat) : MgMap :=
  let h := leNat (s.bytesAt g line 8)
  let n0 := bitsOf h 12 0
  { header := h
    pos := numbersOf 2 n0 (s.bytesAt g (line + 1) (2 * n0))
    size := numbersOf 2 (bitsOf h 28 16) (s.bytesAt g (line + 65) (2 * bitsOf h 28 16))
    last := (numbersOf 4 (bitsOf h 44 32) (s.bytesAt g (line + 129) (4 * bitsOf h 44 32))).map (fun v => (v % 65536, v / 65536)) }

/-- The header of a map object is valid (R456). -/
def MgMap.headerOk (m : MgMap) : Bool :=
  bitsOf m.header 63 56 == 0 && bitsOf m.header 47 45 == 0 && bitsOf m.header 31 29 == 0 && bitsOf m.header 15 13 == 0 &&
    decide (2 ≤ m.n0) && decide (m.n0 ≤ 4096) && decide (1 ≤ m.nc) && decide (m.nc ≤ m.oldn) && decide (m.oldn ≤ m.n0)

/-- The arrays are valid over their counts (R456). -/
def MgMap.posOk (m : MgMap) : Bool := m.pos.all (fun p => p < m.nc)
def MgMap.sizeOk (m : MgMap) : Bool := m.size.all (fun z => 1 ≤ z && z ≤ m.n0)
def MgMap.lastOk (m : MgMap) : Bool :=
  m.last.all (fun e => e.1 < m.nc && 1 ≤ e.2 && e.2 ≤ m.n0) && (List.range m.nc).all (fun k => m.last.any (fun e => e.1 == k))

/-- The 257 lines of a map object (R455). -/
def MgMap.lines (m : MgMap) : List LineData :=
  let bytes := leBytes 128 m.header ++ packNumbers 2 4096 m.pos ++ packNumbers 2 4096 m.size ++
    packNumbers 4 4096 (m.last.map (fun e => e.1 + e.2 * 65536))
  (chunks 128 257 bytes).map (fun b => BitVec.ofNat 1024 (leNat b))

-- Scores

/-- One score is larger than another, or equal to it, as FP32 values (R454). -/
def scoreGt (a b : BitVec 32) : Bool := ltF (decodeF 24 b.toNat) (decodeF 24 a.toNat)
def scoreEq (a b : BitVec 32) : Bool := eqF (decodeF 24 a.toNat) (decodeF 24 b.toNat)

/-- One score of a tile entered in the match state (R454). -/
def enterScore (e : Tab (BitVec 32 × Nat)) (a b : Nat) (v : BitVec 32) : Tab (BitVec 32 × Nat) :=
  if (decodeF 24 v.toNat).isNan then e
  else
    match tabGet e a with
    | none => tabSet e a (v, b)
    | some (w, b0) => if scoreGt v w || (scoreEq v w && b < b0) then tabSet e a (v, b) else e

/-- MGMATCH's update of the match state by rows of scores (R454). -/
def enterTile (e : Tab (BitVec 32 × Nat)) (rows : List (Nat × List (Nat × BitVec 32))) : Tab (BitVec 32 × Nat) :=
  rows.foldl (fun e r => r.2.foldl (fun e c => enterScore e r.1 c.1 c.2) e) e

/-- An entry placed among entries ordered by score, larger first, equal ones by smaller index (R458). -/
def placeEntry (x : Nat × BitVec 32 × Nat) : List (Nat × BitVec 32 × Nat) → List (Nat × BitVec 32 × Nat)
  | [] => [x]
  | y :: rest => if scoreGt y.2.1 x.2.1 || (scoreEq y.2.1 x.2.1 && y.1 < x.1) then y :: placeEntry x rest else x :: y :: rest

/-- The first `m` valid entries in the order of R458. -/
def selectEntries (e : Tab (BitVec 32 × Nat)) (m : Nat) : List (Nat × BitVec 32 × Nat) := (e.foldl (fun l x => placeEntry x l) []).take m

/-- The positions of the kept tokens below `n`, counted from `r`; a dropped token has none. -/
def ranks (gone : List Nat) : Nat → List Nat → List (Option Nat)
  | _, [] => []
  | r, j :: rest => if gone.contains j then none :: ranks gone r rest else some r :: ranks gone (r + 1) rest

/-- MGSEL's new map (R458). -/
def selectMap (old : MgMap) (e : Tab (BitVec 32 × Nat)) (m n : Nat) (init : Bool) : MgMap :=
  let n0 := if init then n else old.n0
  let layers := if init then 0 else old.layers
  let pos := if init then List.range n else old.pos
  let size := if init then List.replicate n 1 else old.size
  let sel := selectEntries e m
  let rank := ranks (sel.map (fun x => 2 * x.1)) 0 (List.range n)
  let new_ := (List.range n).map (fun j => match rank.getD j none with
    | some r => r
    | none => match sel.find? (fun x => 2 * x.1 = j) with
      | some x => (rank.getD (2 * x.2.2 + 1) none).getD 0
      | none => 0)
  let last := new_.zip size
  { header := packFields [(n0, 0), (n - m, 16), (n, 32), (layers + 1, 48)]
    pos := pos.map (fun p => new_.getD p 0)
    size := (List.range (n - m)).map (fun k => ((last.filter (fun x => x.1 == k)).map Prod.snd).foldl (· + ·) 0)
    last := last }

-- Rows

/-- The BF16 elements of `rows` rows of `rl` lines from a physical line on (R457). -/
def readRows (s : State) (g line rl rows : Nat) : List (List Nat) :=
  (List.range rows).map (fun k => numbersOf 2 (64 * rl) (s.bytesAt g (line + k * rl) (128 * rl)))

/-- A size times an element, rounded to FP32 (R459). -/
def sizedElement (size elem : Nat) : BitVec 32 :=
  BitVec.ofNat 32 (deliver 24 0 false (mulF (decodeF 8 elem) (.fin false size 0))).1

/-- A sum divided by a size: the exact quotient rounded once to BF16 (R459). -/
def sizedQuotient (acc : BitVec 32) (size : Nat) : Nat :=
  match decodeF 24 acc.toNat with
  | .nan _ => canonNaN 8
  | .inf neg => infBits 8 neg
  | .fin neg m e => (roundF 8 0 false neg (m * 2 ^ 32 / size) (e - 32) (m * 2 ^ 32 % size != 0)).1

/-- The sum of rows of terms, row by row (R459). -/
def addRows : List (List (BitVec 32)) → List (BitVec 32)
  | [] => []
  | r :: rest => rest.foldl (fun acc t => List.zipWith add32 acc t) r

/-- MGMERGE's rows (R459). -/
def mergeRows (m : MgMap) (src : List (List Nat)) : List (List Nat) :=
  (List.range m.nc).map (fun k =>
    let terms := ((m.last.zip src).filter (fun x => x.1.1 == k)).map (fun x => x.2.map (sizedElement x.1.2))
    (addRows terms).map (fun a => sizedQuotient a (m.size.getD k 1)))

/-- MGUNM's rows (R460). -/
def expandRows (m : MgMap) (src : List (List Nat)) : List (List Nat) := m.pos.map (fun p => src.getD p [])

/-- 2^64 × 2 artanh(p / q), from 32 terms of its series. -/
def atanhSeries (p q : Nat) : Nat → Nat → Nat → Nat
  | 0, _, _ => 0
  | n + 1, i, t => t / (2 * i + 1) + atanhSeries p q n (i + 1) (t * p * p / (q * q))
def atanh2 (p q : Nat) : Nat := 2 * atanhSeries p q 32 0 (2 ^ 80 * p / q)

/-- The natural logarithm of a size, times 2^80 (R461). -/
def lnFixed (n : Nat) : Nat :=
  let k := Nat.log2 n
  k * atanh2 1 3 + atanh2 (n - 2 ^ k) (n + 2 ^ k)

/-- lnS: the logarithm of a size of 1 to 4096 rounded to BF16 (R461). No such logarithm but that of 1 lies within 2^-18 of a
midpoint of BF16 values, so the series decides every rounding. -/
def lnSize (n : Nat) : Nat := (roundF 8 0 false false (lnFixed n) (-80) (n != 1)).1

-- Lines and faults at issue

/-- ILLEGAL in slot 6 (R462). -/
def mgIllegal (b : Bool) : Option Trap := trapIf b (slotTrap .illegal 6)

/-- The form fault of lines that are full, with the slot and the line (R193, R462). -/
def mgFormTrap (s : State) (c : Ctx) (ls : List Nat) : Option Trap :=
  firstTrap (ls.map (fun l =>
    let m := s.metaAt (relKey s c l)
    let info := BitVec.ofNat 64 (6 + l % 2 ^ 24 * 256)
    if !m.full then none
    else
      match m.form with
      | .plain => none
      | .poison => some { code := Code.integrity.num, trapi := info }
      | .cipher => some { code := Code.form.num, trapi := info }))

/-- The 257 relative lines of a map object. -/
def mapLines (m : Nat) : List Nat := (List.range 257).map (m + ·)

/-- Lines that hold `n` rows of `rl` lines. -/
def rowLines (line rl n : Nat) : List Nat := (List.range (n * rl)).map (line + ·)

/-- Every line is full. -/
def linesFull (s : State) (c : Ctx) (ls : List Nat) : Bool := ls.all (fun l => (s.metaAt (relKey s c l)).full)

/-- The engine wait until a line that an MG command checks is full; one that a scrub step holds is a short one (R462, R196). -/
def mgLineHold (s : State) (c : Ctx) (l : Nat) : Option Hold :=
  if (s.metaAt (relKey s c l)).full then holdIf (s.scrubHolds (physLine c l)) .short else some .engine

/-- A test that fails on a register's value, once the register is full (R29). -/
def badValue (c : Ctx) (r : BitVec 6) (bad : Bool) : Bool := !c.xEmpty r && bad

/-- Tests of a map object, each with the lines it reads and made once these are full (R29, R456, R462 step 7): some test fails. -/
def mapFails (s : State) (c : Ctx) (map : MgMap) (tests : List (List Nat × (MgMap → Bool))) : Bool :=
  tests.any (fun t => linesFull s c t.1 && !t.2 map)

/-- The lines of the map object at line `m` that hold its header, and with it POS, SIZE or LAST (R455). -/
def headLines (m : Nat) : List Nat := [m]
def posLines (m : Nat) : List Nat := m :: (List.range 64).map (m + 1 + ·)
def sizeLines (m : Nat) : List Nat := m :: (List.range 64).map (m + 65 + ·)
def lastLines (m : Nat) : List Nat := m :: (List.range 128).map (m + 129 + ·)

/-- A cluster's merge unit. -/
def State.mergeAt (s : State) (cl : Nat) : MergeUnit := (tabGet s.merge cl).getD {}

/-- A cluster's merge unit changed. -/
def State.modMerge (s : State) (cl : Nat) (f : MergeUnit → MergeUnit) : State := { s with merge := tabSet s.merge cl (f (s.mergeAt cl)) }

/-- Commands of a context that have not completed (R463). -/
def MergeUnit.count (u : MergeUnit) (g : Nat) (k : BitVec 2) : Nat := (u.queue.filter (fun m => m.g == g && m.k == k)).length

/-- A context has an uncompleted command that uses the match state. -/
def MergeUnit.matching (u : MergeUnit) (g : Nat) (k : BitVec 2) : Bool :=
  u.queue.any (fun m => m.g == g && m.k == k && (match m.kind with | .match_ .. => true | .sel .. => true | _ => false))

/-- A context has an uncompleted MGSEL. -/
def MergeUnit.selecting (u : MergeUnit) (g : Nat) (k : BitVec 2) : Bool :=
  u.queue.any (fun m => m.g == g && m.k == k && (match m.kind with | .sel .. => true | _ => false))

/-- A command joins the queue: its written lines empty, the unit's start noted where it is idle (R463). -/
def startMerge (kind : MgKind) (cycles : Nat) (reads fills : List Nat) (s : State) : State :=
  let c := s.ctx
  let k := s.cr.cur
  let cl := clusterOf s.g
  let id := s.nextId
  let s := fills.foldl (fun s l => s.setFull (relKey s c l) false) { s with nextId := id + 1 }
  s.modMerge cl (fun u =>
    let m : MgCmd := { id := id, g := s.g, k := k, base := c.sys.allocBase.toNat, kind := kind, cycles := cycles
                       started := if u.queue.isEmpty then some s.tnow else none
                       reads := reads.map (physLine c), fills := fills.map (physLine c) }
    { u with queue := u.queue ++ [m], ownerCmd := if u.owner == some (s.g, k) then s.tnow else u.ownerCmd })

/-- The claims of other contexts. -/
def MergeUnit.claimsBut (u : MergeUnit) (g : Nat) (k : BitVec 2) : List (Nat × BitVec 2 × Nat × Word) :=
  u.claims.filter (fun c => !(c.1 == g && c.2.1 == k))

/-- One claim stands before another: made in an earlier cycle, or in the same one by a lower core, or a lower context of the core (R450). -/
def claimBefore (a b : Nat × BitVec 2 × Nat × Word) : Bool :=
  a.2.2.2.toNat < b.2.2.2.toNat || (a.2.2.2 == b.2.2.2 && (a.1 < b.1 || (a.1 == b.1 && a.2.1.ult b.2.1)))

/-- The first attempt of a bundle on the unit noted: it gives the claim its place (R450). -/
def claimMerge (s : State) : State :=
  s.modMerge (clusterOf s.g) (fun u =>
    let n := (s.g, s.cr.cur, s.ctx.pc.toNat, s.tnow)
    let others := u.claimsBut s.g s.cr.cur
    if u.claims.any (fun c => c.1 == s.g && c.2.1 == s.cr.cur && c.2.2.1 == s.ctx.pc.toNat) then u
    else { u with claims := others.filter (fun c => claimBefore c n) ++ n :: others.filter (fun c => !claimBefore c n) })

/-- The wait of a context that has four uncompleted commands (R463). -/
def mgQueueHold (s : State) : Option Hold := holdIf (4 ≤ (s.mergeAt (clusterOf s.g)).count s.g s.cr.cur) .engine

-- MGMATCH

/-- MGMATCH (R453, R454, R462). -/
def slotMgmatch (t a b : BitVec 6) (s : State) : SlotRes :=
  let c := s.ctx
  let xa := c.xVal a
  let xb := c.xVal b
  let row0 := wordBits xa 10 0
  let nrows := wordBits xa 22 16
  let new_ := wordBits xa 23 23 = 1
  let col0 := wordBits xb 10 0
  let ncols := wordBits xb 22 16
  let badA := wordBits xa 15 11 != 0 || wordBits xa 63 24 != 0 || nrows = 0 || 64 < nrows || 2048 < row0 + nrows
  let badB := wordBits xb 15 11 != 0 || wordBits xb 63 23 != 0 || ncols = 0 || 64 < ncols || 2048 < col0 + ncols
  let u := s.mergeAt (clusterOf s.g)
  let mine := u.owner == some (s.g, s.cr.cur)
  let waits := !mine && u.owner.isSome
  let selecting := u.selecting s.g s.cr.cur
  let trap := firstTrap [xPoisonTrap c a, xPoisonTrap c b, mgIllegal (badValue c a badA || badValue c b badB),
    trapIf (c.sys.tilesCount.toNat ≤ t.toNat) { code := Code.tileRange.num, trapi := BitVec.ofNat 64 (6 + t.toNat * 256) },
    trapIf (badValue c a (!new_) && !c.sys.mgMatch && !selecting)
      { code := Code.mergeStateLost.num, trapi := if c.sys.mgLost then 1 else 0 }]
  { slot := .y, draw := 2
    trap := trap
    hold := joinHolds [xHold c a, xHold c b, mgQueueHold s, tileHold s (physTile c t) false, holdIf (waits || selecting) .engine]
    onHold := if trap.isNone && !mine then claimMerge else id
    effect := fun s =>
      let s := s.modMerge (clusterOf s.g) (fun u => { u with owner := some (s.g, s.cr.cur), claims := u.claimsBut s.g s.cr.cur })
      let s := s.modCtx (fun c => { c with sys := { c.sys with mgOwn := true, mgMatch := true, mgLost := false } })
      startMerge (.match_ (physTile c t) row0 nrows col0 ncols new_) (nrows + 4) [] [] s }
/-- MGMATCH, issued alone. -/
def execMgmatch (t a b : BitVec 6) (s : State) : Host.Outcome State Fault Refusal := runAlone (.mgmatch t a b) (slotMgmatch t a b s) s

-- MGSEL

/-- The match state does not fit `n` tokens, or a merge count is out of range (R458). -/
def MergeUnit.misfits (u : MergeUnit) (n : Nat) : Bool := u.entries.any (fun e => (n + 1) / 2 ≤ e.1 || n / 2 ≤ e.2.2)
def MergeUnit.badCount (u : MergeUnit) (count : Nat) : Bool := count = 0 || u.entries.length < count

/-- What MGSEL checks of the map and the match state (R458, R462 step 7). -/
def mgselBad (m : MgMap) (u : MergeUnit) (count n : Nat) (init : Bool) : Bool :=
  (if init then n < 2 || 4096 < n else !m.headerOk || !m.posOk || !m.sizeOk || m.layers == 255) ||
    u.misfits (if init then n else m.nc) || u.badCount count

/-- MGSEL (R457, R458, R462). -/
def slotMgsel (a b x : BitVec 6) (s : State) : SlotRes :=
  let c := s.ctx
  let xa := c.xVal a
  let xc := c.xVal x
  let m := wordBits xa 14 0
  let count := (c.xVal b).toNat
  let init := wordBits xc 13 13 = 1
  let n := wordBits xc 12 0
  let badA := wordBits xa 63 15 != 0
  let badX := wordBits xc 63 14 != 0 || (!init && n != 0)
  let ls := if c.xEmpty a || badA then [] else mapLines m
  let u := s.mergeAt (clusterOf s.g)
  let busy := u.matching s.g s.cr.cur
  let range := lineRangeTrap .y c ls
  let map := readMap s s.g (physLine c m)
  let old := map.n0
  let mapped := ls ≠ [] && range.isNone
  let bySelf := badValue c x init && (n < 2 || 4096 < n || u.misfits n)
  let byMap := badValue c x (!init) && mapped && mapFails s c map
    [(headLines m, fun p => p.headerOk && p.layers != 255 && !u.misfits p.nc), (posLines m, MgMap.posOk), (sizeLines m, MgMap.sizeOk)]
  let lw := lineWriteWait s (ls.map (physLine c))
  let own := firstTrap [xPoisonTrap c a, xPoisonTrap c b, xPoisonTrap c x, mgIllegal (badValue c a badA || badValue c x badX), range,
    mgFormTrap s c ls, trapIf (!busy && !c.sys.mgMatch) { code := Code.mergeStateLost.num, trapi := if c.sys.mgLost then 3 else 2 },
    mgIllegal (!busy && (bySelf || byMap || badValue c b (u.badCount count)))]
  { slot := .y, draw := 2
    lineDests := ls.map (physLine c)
    trap := match own with | some t => some t | none => lw.1
    onTrap := if own.isSome then id else lw.2.1
    hold := joinHolds ([xHold c a, xHold c b, xHold c x, mgQueueHold s, holdIf busy .engine, lw.2.2] ++ ls.map (mgLineHold s c))
    effect := fun s =>
      let n' := if init then n else map.nc
      startMerge (.sel m count n' init) (n' + 2 * (if init then n else old) + 16) [] ls s }
/-- MGSEL, issued alone. -/
def execMgsel (a b c : BitVec 6) (s : State) : Host.Outcome State Fault Refusal := runAlone (.mgsel a b c) (slotMgsel a b c s) s

-- MGMERGE, MGUNM, MGLOGS

/-- A command that reads the map at line `m` and rows, and writes rows (R462): its registers with whether each breaks its field limits, the tests
of the map, and its source and destination rows, which are known once the header and their registers are. -/
def slotMgRows (regs : List (BitVec 6 × Bool)) (m : Nat) (head : MgMap → Bool) (tests : List (List Nat × (MgMap → Bool)))
    (src dst : List (BitVec 6) × (MgMap → List Nat)) (kind : MgKind) (cycles : MgMap → Nat) (s : State) : SlotRes :=
  let c := s.ctx
  let good := fun (r : BitVec 6) => regs.all (fun e => e.1 != r || (!c.xEmpty r && !e.2))
  let ls := if (regs.head?).all (fun e => good e.1) then mapLines m else []
  let range := lineRangeTrap .y c ls
  let map := readMap s s.g (physLine c m)
  let mapped := ls ≠ [] && range.isNone
  let known := mapped && linesFull s c (headLines m) && head map
  let rows := fun (e : List (BitVec 6) × (MgMap → List Nat)) => if known && e.1.all good then e.2 map else []
  let ss := rows src
  let ds := rows dst
  let lw := lineWriteWait s (ds.map (physLine c))
  let own := firstTrap (regs.map (fun e => xPoisonTrap c e.1) ++ [mgIllegal (regs.any (fun e => badValue c e.1 e.2)), range, mgFormTrap s c ls,
    mgIllegal (mapped && mapFails s c map ((headLines m, head) :: tests)), lineRangeTrap .y c (ss ++ ds), mgFormTrap s c ss])
  { slot := .y, draw := 2
    lineDests := ds.map (physLine c)
    trap := match own with | some t => some t | none => lw.1
    onTrap := if own.isSome then id else lw.2.1
    hold := joinHolds (regs.map (fun e => xHold c e.1) ++ [mgQueueHold s, lw.2.2] ++ (ls ++ ss).map (mgLineHold s c) ++ ds.map (lineHold s c))
    effect := startMerge kind (cycles map) (ls ++ ss) ds }

/-- The destination line and RL of a row command break their limits (R457). -/
def badRowField (v : Word) : Bool :=
  let rl := wordBits v 22 16
  wordBits v 15 15 != 0 || wordBits v 63 23 != 0 || rl = 0 || 64 < rl

/-- MGMERGE (R457, R459). -/
def slotMgmerge (a b x : BitVec 6) (s : State) : SlotRes :=
  let c := s.ctx
  let m := wordBits (c.xVal a) 14 0
  let sl := wordBits (c.xVal b) 14 0
  let dl := wordBits (c.xVal x) 14 0
  let rl := wordBits (c.xVal x) 22 16
  slotMgRows [(a, wordBits (c.xVal a) 63 15 != 0), (b, wordBits (c.xVal b) 63 15 != 0), (x, badRowField (c.xVal x))] m
    (fun p => p.headerOk && p.layers != 0) [(sizeLines m, MgMap.sizeOk), (lastLines m, MgMap.lastOk)]
    ([b, x], fun p => rowLines sl rl p.oldn) ([x], fun p => rowLines dl rl p.nc) (.merge m sl dl rl) (fun p => p.oldn * rl + p.nc + 16) s
/-- MGMERGE, issued alone. -/
def execMgmerge (a b c : BitVec 6) (s : State) : Host.Outcome State Fault Refusal := runAlone (.mgmerge a b c) (slotMgmerge a b c s) s

/-- MGUNM (R457, R460). -/
def slotMgunm (a b x : BitVec 6) (s : State) : SlotRes :=
  let c := s.ctx
  let m := wordBits (c.xVal a) 14 0
  let sl := wordBits (c.xVal b) 14 0
  let dl := wordBits (c.xVal x) 14 0
  let rl := wordBits (c.xVal x) 22 16
  slotMgRows [(a, wordBits (c.xVal a) 63 15 != 0), (b, wordBits (c.xVal b) 63 15 != 0), (x, badRowField (c.xVal x))] m
    MgMap.headerOk [(posLines m, MgMap.posOk)]
    ([b, x], fun p => rowLines sl rl p.nc) ([x], fun p => rowLines dl rl p.n0) (.unmerge m sl dl rl) (fun p => p.n0 * rl + 8) s
/-- MGUNM, issued alone. -/
def execMgunm (a b c : BitVec 6) (s : State) : Host.Outcome State Fault Refusal := runAlone (.mgunm a b c) (slotMgunm a b c s) s

/-- MGLOGS (R457, R461). -/
def slotMglogs (a b : BitVec 6) (s : State) : SlotRes :=
  let c := s.ctx
  let m := wordBits (c.xVal a) 14 0
  let dl := wordBits (c.xVal b) 14 0
  slotMgRows [(a, wordBits (c.xVal a) 63 15 != 0), (b, wordBits (c.xVal b) 63 15 != 0)] m MgMap.headerOk [(sizeLines m, MgMap.sizeOk)]
    ([], fun _ => []) ([b], fun p => rowLines dl 1 ((2 * p.nc + 127) / 128)) (.logs m dl) (fun p => (p.nc + 63) / 64 + 8) s
/-- MGLOGS, issued alone. -/
def execMglogs (a b : BitVec 6) (s : State) : Host.Outcome State Fault Refusal := runAlone (.mglogs a b) (slotMglogs a b s) s

-- Completion

/-- Lines of a core filled whole and plain, from a physical line on (R463). -/
def fillLines (g line : Nat) (ds : List LineData) (s : State) : State :=
  ds.zipIdx.foldl (fun s d => (s.writeLine (lineKey g (line + d.2)) d.1 (BitVec.allOnes 128) .plain).setFull (lineKey g (line + d.2)) true) s

/-- Rows of BF16 elements as lines. -/
def rowData (rows : List (List Nat)) : List LineData :=
  let bytes := (rows.map (fun r => packNumbers 2 r.length r)).flatten
  (chunks 128 (bytes.length / 128 + 1) bytes).map (fun b => BitVec.ofNat 1024 (leNat b))

/-- A context of any core changed. -/
def State.modCtxOf (s : State) (g : Nat) (k : BitVec 2) (f : Ctx → Ctx) : State :=
  let c := s.coreAt g
  s.setCoreAt g { c with ctxs := c.ctxs.set k.toNat (f c.ctxs[k.toNat]) }

/-- The bytes of MGLOGS's last line beyond the logarithms, which the spec does not give. -/
def openBytes (s : State) (n : Nat) : List (BitVec 8) := (List.range n).map (fun i => (Config.freeWord (s.tick + i)).setWidth 8)

/-- The scores that MGMATCH reads from its tile (R454). -/
def tileScores (s : State) (g t row0 nrows col0 ncols : Nat) : List (Nat × List (Nat × BitVec 32)) :=
  (List.range nrows).map (fun r =>
    let v := s.tileRow g t r
    (row0 + r, (List.range ncols).map (fun c => (col0 + c, (v >>> (32 * c)).setWidth 32))))

/-- The effect of a command (R454, R458 to R461). -/
def runMerge (m : MgCmd) (s : State) : State :=
  let cl := clusterOf m.g
  let mapAt := fun (l : Nat) => readMap s m.g (m.base + l)
  match m.kind with
  | .match_ tile row0 nrows col0 ncols new_ =>
    s.modMerge cl (fun u => { u with entries := enterTile (if new_ then [] else u.entries) (tileScores s m.g tile row0 nrows col0 ncols) })
  | .sel l count n init =>
    let p := selectMap (mapAt l) (s.mergeAt cl).entries count n init
    let s := fillLines m.g (m.base + l) p.lines s
    let s := s.modMerge cl (fun u => { u with entries := [], owner := if u.owner == some (m.g, m.k) then none else u.owner })
    s.modCtxOf m.g m.k (fun c => { c with sys := { c.sys with mgMatch := false, mgOwn := false } })
  | .merge l src dst rl =>
    let p := mapAt l
    fillLines m.g (m.base + dst) (rowData (mergeRows p (readRows s m.g (m.base + src) rl p.oldn))) s
  | .unmerge l src dst rl =>
    let p := mapAt l
    fillLines m.g (m.base + dst) (rowData (expandRows p (readRows s m.g (m.base + src) rl p.nc))) s
  | .logs l dst =>
    let p := mapAt l
    let bytes := packNumbers 2 p.nc (p.size.map lnSize)
    let rest := (128 - bytes.length % 128) % 128
    let ds := (chunks 128 (bytes.length / 128 + 1) (bytes ++ openBytes s rest)).map (fun b => BitVec.ofNat 1024 (leNat b))
    { fillLines m.g (m.base + dst) ds s with tick := s.tick + rest }

/-- The next command starts as the one before it ends. -/
def startNext (t : Word) : List MgCmd → List MgCmd
  | [] => []
  | m :: rest => { m with started := some t } :: rest

/-- MG_COMMAND_COMPLETE: the unit's first command has had its cycles (R463). -/
def doMgCommandComplete (cl : Nat) (s : State) : Option State :=
  match (s.mergeAt cl).queue with
  | [] => none
  | m :: rest =>
    match m.started with
    | none => none
    | some t =>
      let done := t + BitVec.ofNat 64 m.cycles
      if done.toNat ≤ s.tnow.toNat then some (runMerge m (s.modMerge cl (fun u => { u with queue := startNext done rest }))) else none
/-- MG_COMMAND_COMPLETE (R463). -/
def execMgCommandComplete (s : State) : Host.Outcome State Fault Refusal :=
  match s.event with
  | some (.mgCommandComplete cl) => onEvent (doMgCommandComplete cl s) s
  | _ => .next s

-- Claims

/-- The owner loses the unit; uncommitted match state is lost with it (R451). -/
def State.stripOwner (s : State) (cl : Nat) : State :=
  let u := s.mergeAt cl
  match u.owner with
  | none => s
  | some (g, k) =>
    let s := s.modMerge cl (fun u => { u with owner := none, entries := [] })
    s.modCtxOf g k (fun c => if c.sys.mgMatch then { c with sys := { c.sys with mgOwn := false, mgMatch := false, mgLost := true } } else c)

/-- A context's claims and commands go with it; the command that is then first starts (R449, R450). -/
def State.dropMerge (s : State) (g : Nat) (k : BitVec 2) : State :=
  s.modMerge (clusterOf g) (fun u =>
    let rest := u.queue.filter (fun m => !(m.g == g && m.k == k))
    { u with claims := u.claimsBut g k
             queue := if (rest.head?).any (fun m => m.started.isNone) then startNext s.tnow rest else rest })

/-- A context that drains or is evicted releases the unit; an eviction loses uncommitted match state (R87, R106, R451). -/
def State.releaseMerge (s : State) (g : Nat) (k : BitVec 2) (evicted : Bool) : State :=
  let cl := clusterOf g
  let s := s.dropMerge g k
  if (s.mergeAt cl).owner != some (g, k) then s
  else if evicted then s.stripOwner cl
  else s.modMerge cl (fun u => { u with owner := none, entries := [] })

end Sys2Proof.Machine
end

