-- ==== Sys2Proof/Machine/Gangs.lean ====
section
/-! DEFINITION. Gangs on the cores (R65 to R73, R84 to R87, R106 to R109, R185 to R188, R401): where a gang is placed, how its
tasks leave, the images of an eviction and their restoring, and the end of a launch (R500). -/

namespace Sys2Proof.Machine

-- Fields of a launch

/-- Fields of a launch header (R491). -/
def Launch.gangs (l : Launch) : Nat := l.f 31 16
def Launch.tasks (l : Launch) : Nat := l.f 37 32 + 1
def Launch.stages (l : Launch) : Nat := l.f 41 38 + 1
def Launch.lines (l : Launch) : Nat := l.f 51 44 * 256
def Launch.tiles (l : Launch) : Nat := l.f 57 52
def Launch.cosched (l : Launch) : Bool := l.f 4 4 = 1

/-- The number that names a gang among all gangs of the package. -/
def gangKey (tenant : BitVec 4) (launch : BitVec 32) (gang : BitVec 16) : Nat :=
  tenant.toNat * 2 ^ 48 + launch.toNat * 2 ^ 16 + gang.toNat

/-- The gang of a context, and of an image. -/
def Ctx.gangKey (c : Ctx) : Nat := Sys2Proof.Machine.gangKey c.sys.tenant c.sys.launch c.sys.gang
def GangImage.key (i : GangImage) : Nat := Sys2Proof.Machine.gangKey i.tenant i.launch i.gang

/-- The resident contexts of a gang. -/
def State.gangCtxs (s : State) (key : Nat) : List (Nat × BitVec 2 × Ctx) := s.resident.filter (fun c => c.2.2.gangKey == key)

-- Where a gang fits

/-- What a gang needs: its world and program, lines and tiles of a task, tasks of a stage, stages, and the tasks that are to
be placed, as (stage, task). -/
structure Demand where
  world : BitVec 4
  image : Nat × Nat × Nat × Nat
  lines : Nat
  tiles : Nat
  tasks : Nat
  stages : Nat
  alive : List (Nat × Nat)
  /-- Entries of the copy buffer that a restored task brings: stage, task and number (R86, R317). -/
  entries : List (Nat × Nat × Nat) := []
  deriving DecidableEq, Repr

/-- A core chosen for a logical core: the two, the first line, and the first tile of each of its tasks. -/
structure Spot where
  lcore : Nat
  g : Nat
  base : Nat
  tiles : List Nat
  deriving DecidableEq, Repr

/-- The lowest start of a free run of `len` units below `limit` beside runs in use (R187). -/
def findRun (used : List (Nat × Nat)) (len limit : Nat) : Option Nat :=
  let starts := (0 :: used.map (fun u => u.1 + u.2)).filter (fun a => a + len ≤ limit && used.all (fun u => a + len ≤ u.1 || u.1 + u.2 ≤ a || u.2 = 0))
  match starts with
  | [] => none
  | a :: rest => some (rest.foldl min a)

/-- A run of `len` tiles for each of `n` tasks, each the lowest free one (R283). -/
def findRuns (len : Nat) : Nat → List (Nat × Nat) → Option (List Nat)
  | 0, _ => some []
  | n + 1, used =>
    match findRun used len 48 with
    | none => none
    | some a => (findRuns len n (used ++ [(a, len)])).map (a :: ·)

/-- The contexts in use on a core. -/
def Core.busyCtxs (c : Core) : List Ctx := c.ctxs.toList.filter (fun k => k.state != .free)

/-- A core may take contexts of a gang: it belongs to the gang's world, and its instruction memory holds the program or, in world 0, can be
given it (R17, R466, R468). -/
def Core.mayTake (c : Core) (d : Demand) : Bool :=
  !c.clearing && c.world == d.world && (if d.world == 0 then c.takes d.image else c.holds d.image)

/-- The tasks of a stage on a logical core that are to be placed (R68). -/
def Demand.on (d : Demand) (stage lcore : Nat) : List Nat := (d.alive.filter (fun t => t.1 == stage && t.2 % 16 == lcore)).map Prod.snd

/-- Entries of the copy buffer that the tasks of a stage on a logical core bring (R86). -/
def Demand.entriesOn (d : Demand) (stage lcore : Nat) : Nat :=
  ((d.entries.filter (fun e => e.1 == stage && e.2.1 % 16 == lcore)).map (fun e => e.2.2)).foldl (· + ·) 0

/-- Tasks of a whole gang and stage on a logical core (R149). -/
def Demand.width (d : Demand) (lcore : Nat) : Nat := (d.tasks + 15 - lcore) / 16

/-- A core's run of lines and runs of tiles for the tasks of a stage and logical core, where it has room, in its copy buffer too for what they
bring (R72, R185, R283, R317). -/
def State.fitCore (s : State) (d : Demand) (stage lcore g : Nat) : Option Spot :=
  let c := s.coreAt g
  let n := (d.on stage lcore).length
  if !c.mayTake d || 4 < c.busyCtxs.length + n || 64 < (c.copies.filter (fun m => !m.hasFailed)).length + d.entriesOn stage lcore then none
  else
    match findRun (c.busyCtxs.map (fun k => (k.sys.allocBase.toNat, k.sys.allocSize.toNat))) (d.width lcore * d.lines) 32768,
      findRuns d.tiles n (c.busyCtxs.map (fun k => (k.sys.tilesFirst.toNat, k.sys.tilesCount.toNat))) with
    | some b, some t => some { lcore := lcore, g := g, base := b, tiles := t }
    | _, _ => none

-- Every place that can be found

/-- One more vertex matched along an augmenting path: the matching as pairs, and the places already tried. -/
def augment (adj : Nat → List Nat) : Nat → List (Nat × Nat) → List Nat → Nat → Option (List (Nat × Nat)) × List Nat
  | 0, _, seen, _ => (none, seen)
  | n + 1, m, seen, u =>
    let taken := fun (v : Nat) => m.any (fun e => e.2 == v)
    (((adj u).filter (fun v => !taken v)) ++ (adj u).filter taken).foldl (fun acc v =>
      match acc with
      | (some m', seen) => (some m', seen)
      | (none, seen) =>
        if seen.contains v then (none, seen)
        else
          match m.find? (fun e => e.2 == v) with
          | none => (some ((u, v) :: m), v :: seen)
          | some (w, _) =>
            match augment adj n (m.filter (fun e => e.2 != v)) (v :: seen) w with
            | (some m', seen) => (some ((u, v) :: m'), seen)
            | (none, seen) => (none, seen)) (none, seen)

/-- A place of its own for each of some vertices, where there is one for all of them. -/
def matchAll (adj : Nat → List Nat) (us : List Nat) : Option (List (Nat × Nat)) :=
  us.foldl (fun m u => m.bind (fun m => (augment adj (us.length + 1) m [] u).1)) (some [])

/-- Numbers in ascending order of a load, equal ones in their order. -/
def byLoad (load : Nat → Nat) (l : List Nat) : List Nat :=
  l.foldl (fun acc x => acc.filter (fun y => load y ≤ load x) ++ x :: acc.filter (fun y => load x < load y)) []

/-- A cluster's cores for a stage: every logical core gets a physical core with room, where the cores allow it; the least occupied come first
(R68, R72). -/
def State.fitCluster (s : State) (d : Demand) (stage cl : Nat) : Option (List Spot) :=
  let cores := byLoad (fun g => (s.coreAt g).busyCtxs.length) ((List.range 16).map (cl * 16 + ·))
  let need := (List.range (min 16 d.tasks)).filter (fun l => !(d.on stage l).isEmpty)
  (matchAll (fun l => cores.filter (fun g => (s.fitCore d stage l g).isSome)) need).map (fun m =>
    need.filterMap (fun l => (m.find? (fun e => e.1 == l)).bind (fun e => s.fitCore d stage l e.2)))

/-- A die's clusters for the stages, each on a cluster of its own, where they allow it; the least occupied come first (R70, R72). -/
def State.fitDie (s : State) (d : Demand) (die : Nat) : Option (List (Nat × Nat × List Spot)) :=
  let load := fun (cl : Nat) => ((List.range 16).map (fun i => (s.coreAt (cl * 16 + i)).busyCtxs.length)).foldl (· + ·) 0
  let clusters := byLoad load ((List.range 12).map (die * 12 + ·))
  (matchAll (fun st => clusters.filter (fun cl => (s.fitCluster d st cl).isSome)) (List.range d.stages)).map (fun m =>
    (List.range d.stages).filterMap (fun st => (m.find? (fun e => e.1 == st)).bind (fun e =>
      (s.fitCluster d st e.2).map (fun p => (st, e.2, p)))))

/-- Where a gang goes: on the first die whose clusters have room for every stage (R70). -/
def State.fitGang (s : State) (d : Demand) : Option (List (Nat × Nat × List Spot)) :=
  (List.range 8).findSome? (fun die => if s.deadDies.contains die then none else s.fitDie d die)

/-- The lowest free context of a core. -/
def Core.freeK (c : Core) : Option (BitVec 2) := ([0, 1, 2, 3] : List (BitVec 2)).find? (fun k => (c.ctxs[k.toNat]).state == .free)

-- Declared ranges

/-- An extent table as it is built: entries, and the frames of pages beyond the 64th run (R401). -/
def addRun (acc : List Extent × List Nat) (p : Space × Nat × Nat × Nat) : List Extent × List Nat :=
  let (sp, obj, page, f) := p
  match acc.1.getLast? with
  | some e =>
    if e.space == sp && e.obj == obj && e.page + e.count == page && e.frame + e.count == f && f / 2 ^ 21 == e.frame / 2 ^ 21 && e.count < 65535 then
      (acc.1.dropLast ++ [{ e with count := e.count + 1 }], acc.2)
    else if acc.1.length < 64 then (acc.1 ++ [{ space := sp, obj := obj, page := page, count := 1, frame := f }], acc.2)
    else (acc.1, acc.2 ++ [f])
  | none => ([{ space := sp, obj := obj, page := page, count := 1, frame := f }], acc.2)

/-- The pages of a launch's declared ranges and argument buffer, each once: object and page (R401). -/
def State.declared (l : Launch) : List (Nat × Nat) :=
  let ranges := ((l.operands.filter (fun o => o.space = 2 || o.space = 3)).map (fun o => (o.obj, pageSpan o.off.toNat o.len.toNat))) ++
    (if l.argObj = 0 then [] else [(l.argObj, (0, 1))])
  (ranges.map (fun r => (List.range r.2.2).map (fun i => (r.1, r.2.1 + i)))).flatten.eraseDups

/-- The pages of a launch's declared ranges and argument buffer with their frames: space, object, page, frame (R401). -/
def State.declaredPages (s : State) (l : Launch) : List (Space × Nat × Nat × Nat) :=
  (State.declared l).filterMap (fun p =>
    let lf := s.leafOf p.1 p.2
    match tabGet s.objects p.1 with
    | some o => if lf.state = .resident then some (if o.pool then .pool else .local, p.1, p.2, lf.frame) else none
    | none => none)

/-- Every declared range is resident (R401, R402). -/
def State.declaredResident (s : State) (l : Launch) : Bool := (State.declared l).all (fun p => (s.leafOf p.1 p.2).state == .resident)

/-- A context given its extent table, its frames pinned (R401). -/
def State.pinDeclared (s : State) (l : Launch) (c : Ctx) : State × Ctx :=
  let ps := s.declaredPages l
  let (es, rest) := ps.foldl addRun ([], [])
  let fs := ps.map (fun p => p.2.2.2)
  ({ s with frames := s.frames.map (fun e => if fs.contains e.1 then (e.1, { e.2 with extentPins := e.2.extentPins + 1 }) else e) },
   { c with extents := es, pins := rest })

/-- The pins of a context that leaves its core dropped. -/
def State.unpinDeclared (s : State) (c : Ctx) : State :=
  let pinned := fun (f : Nat) => c.pins.contains f || c.extents.any (fun e => e.frame ≤ f && f < e.frame + e.count)
  { s with frames := s.frames.map (fun e => if pinned e.1 then (e.1, { e.2 with extentPins := e.2.extentPins - 1 }) else e) }

-- Allotments

/-- The metadata of a run of lines as they are given out: owned by a context (R183, R188). -/
def ownedLines (key n : Nat) (k : BitVec 2) : Tab LineMeta := if k = 0 then [] else (List.range n).map (fun i => (key + i, { owner := k }))

/-- A run of lines and tiles of a core zeroed, full, plain, untagged and owned by a context (R73, R188). -/
def State.giveLines (s : State) (g : Nat) (k : BitVec 2) (base n tbase tiles : Nat) : State :=
  let key := lineKey g base
  { s with
    scratch := memClear s.scratch (key * 128) ((key + n) * 128)
    lineMeta := s.lineMeta.filter (fun e => e.1 < key) ++ (ownedLines key n k ++ s.lineMeta.filter (fun e => key + n ≤ e.1))
    tiles := tabEraseRange s.tiles (tileKey g tbase 0) (tileKey g (tbase + tiles) 0)
    released := s.released.filter (fun t => !(g * 48 + tbase ≤ t && t < g * 48 + tbase + tiles)) }

/-- A context's lines and tiles returned: zero with reset metadata (R188). -/
def State.clearAllotment (s : State) (g : Nat) (c : Ctx) : State :=
  s.giveLines g 0 c.sys.allocBase.toNat c.sys.allocSize.toNat c.sys.tilesFirst.toNat c.sys.tilesCount.toNat

/-- Every line of a context made full as it stands (R188). -/
def State.fillAllotment (s : State) (g : Nat) (c : Ctx) : State :=
  let key := lineKey g c.sys.allocBase.toNat
  { s with lineMeta := s.lineMeta.map (fun e => if key ≤ e.1 && e.1 < key + c.sys.allocSize.toNat then (e.1, { e.2 with full := true }) else e) }

/-- An operation that has not been applied refers to lines [lo, hi) of a core. -/
def MemKind.refers (m : MemKind) (g lo hi : Nat) : Bool :=
  m.spots.any (fun p => p.1.space == .scratch && p.1.obj == g && lo * 128 ≤ p.1.off && p.1.off < hi * 128) ||
    (match m with
     | .ainit r _ => r.g == g && lo * 128 ≤ r.byte && r.byte < hi * 128
     | .arrive r .. => r.g == g && lo * 128 ≤ r.byte && r.byte < hi * 128
     | _ => false)

/-- Something outstanding still refers to a context's lines (R188). -/
def State.linesWanted (s : State) (g : Nat) (c : Ctx) : Bool :=
  let lo := c.sys.allocBase.toNat
  let hi := lo + c.sys.allocSize.toNat
  s.resident.any (fun o => o.2.2.mq.any (fun m => m.kind.refers g lo hi)) ||
    s.updates.any (fun u => u.ref.g == g && lo * 128 ≤ u.ref.byte && u.ref.byte < hi * 128)

-- The end of a launch

/-- An object exists and belongs to a tenant (R485). -/
def State.ownsObject (s : State) (t : BitVec 4) (obj : Nat) : Bool :=
  match tabGet s.objects obj with
  | some o => o.stands && o.tenant == t
  | none => false

/-- Bytes of an object as the command processor reads them. -/
def State.objectBytes (s : State) (obj off n : Nat) : List (BitVec 8) :=
  s.homeRead (match tabGet s.objects obj with | some o => o.pool | none => false) obj off n

/-- STATUS and DETAIL of a launch at its end (R500, R540). -/
def Launch.result (l : Launch) : BitVec 8 × BitVec 8 :=
  match l.status with
  | some x => x
  | none => match l.firstFault with
    | some c => (2, c)
    | none => (0, 0)

/-- A launch's completion object is one that can be signalled. -/
def State.completionOk (s : State) (l : Launch) : Bool :=
  match tabGet s.objects (l.f 343 320) with
  | some o => o.stands && o.tenant == l.tenant && !o.pool && l.f 383 344 / 65536 < o.pages
  | none => false

/-- The completion object written: VALUE the larger of itself and CSEQ, STATUS and DETAIL (R493, R500). Its page is placed where none is; none
while the page is on the move, has no frame to go to, or a cluster holds the line pinned, whose timer then starts (R386, R398). -/
def State.writeCompletion (s : State) (l : Launch) : Option State :=
  let obj := l.f 343 320
  let off := l.f 383 344
  let write := fun (s : State) =>
    let v := max (leNat (s.objectBytes obj off 8)) (l.f 447 384)
    s.homeWrite false obj off (leBytes 8 v ++ [l.result.1, l.result.2] ++ leBytes 6 0)
  if !s.completionOk l then some s
  else
    match (s.leafOf obj (off / 65536)).state with
    | .moving => none
    | .lost => some s
    | .invalid => (s.placePage obj (off / 65536) 0).map write
    | .resident => if (s.pinnedElsewhere noCluster (s.homeAddr false obj off)).isSome then none else some (write s)

/-- An object made for a launch deleted (R154). -/
def State.dropObject (s : State) (obj : Nat) : State :=
  match tabGet s.objects obj with
  | none => s
  | some o => { s.eraseObject obj o with version := s.version + 1 }

/-- A queue goes on to its next entry (R497). -/
def State.advanceQueue (s : State) (q : Option Nat) : State :=
  match q with
  | none => s
  | some key => { s with queues := s.queues.map (fun x => if x.tenant.toNat * 256 + x.q = key then { x with ci := x.ci + 1, idleSince := s.tnow } else x) }

/-- An armed tag whose launch is over is free again, or gone if its disarm came meanwhile (R505). -/
def State.freeTag (s : State) (t : Option Nat) : State :=
  match t with
  | none => s
  | some tag => match tabGet s.armed tag with
    | some a => { s with armed := if a.disarm then tabErase s.armed tag else tabSet s.armed tag { a with busy := false } }
    | none => s

/-- A launch completes: its completion object, its record, its leases, and what it held (R107, R432, R500). It stays until its completion
object can be written. -/
def State.finishLaunch (s : State) (l : Launch) : State :=
  match s.writeCompletion l with
  | none => (s.noteRetry noCluster (s.homeAddr false (l.f 343 320) (l.f 383 344))).getD s
  | some s =>
  let s := s.postRecord l.tenant (.completion l.tenant l.number l.result.1 l.asyncCount l.asyncFirst)
  let s := s.releaseOwned l.tenant l.number
  let s := if l.argObj = 0 then s else s.dropObject l.argObj
  let s := (s.advanceQueue l.queue).freeTag l.armed
  { s with
    opportunity := true
    launches := s.launches.filter (fun x => x.key != l.key)
    bulks := s.bulks.filter (fun b => !(b.tenant == l.tenant && b.launch == l.number))
    passed := s.passed.filter (fun e => e.1 / 2 ^ 16 != l.key)
    reserved := match s.reserved with | some r => if r / 2 ^ 16 = l.key then none else some r | none => none }

/-- A launch is over but for its completion object (R107). -/
def Launch.over (l : Launch) : Bool := l.tasksLeft = 0 && (l.stopping || (l.gangs ≤ l.nextGang && l.nsteps ≤ l.step + 1))

/-- A launch none of whose tasks is left goes to its next step or completes (R107, R496). -/
def State.settle (s : State) (key : Nat) : State :=
  match s.launch key with
  | none => s
  | some l =>
    if l.tasksLeft ≠ 0 then s
    else if l.stopping then s.finishLaunch l
    else if l.nextGang < l.gangs then s
    else if l.step + 1 < l.nsteps then
      let l := { l with step := l.step + 1, nextGang := 0 }
      ((s.modLaunch l.tenant l.number (fun _ => l)).writeHeader l).opportune
    else s.finishLaunch l

/-- A fault that is entered in a launch's completion record and not delivered (R538). -/
def Launch.enter (l : Launch) (code : BitVec 8) : Launch :=
  { l with asyncCount := l.asyncCount + 1, asyncFirst := match l.asyncFirst with | some e => some e | none => some code }

/-- A task has left its core: the core's world and its gang's place go with the last one (R107, R466). -/
def State.leaveCore (s : State) (g : Nat) (c : Ctx) : State :=
  let core := s.coreAt g
  let s := if core.world != 0 && core.busyCtxs.isEmpty then s.setCoreAt g { core with clearing := true } else s
  let here := s.resident.any (fun o => o.2.2.gangKey == c.gangKey && o.2.2.sys.stage == c.sys.stage)
  { s with
    opportunity := true
    placements := if here then s.placements else s.placements.filter (fun p =>
      !(p.tenant == c.sys.tenant && p.launch == c.sys.launch && p.gang == c.sys.gang && p.stage == c.sys.stage))
    evicting := s.evicting.filter (fun e => s.resident.any (fun o => o.2.2.gangKey == e && o.2.2.state == .evicting)) }

/-- Nothing of a context of the core at hand is in its queues or engines. -/
def State.quietCtx (s : State) (k : BitVec 2) : Bool :=
  (s.ctxAt k).mq.isEmpty && !s.cr.flights.any (fun f => f.k == k) && s.cr.cipherOf k = 0 && (s.mergeAt (clusterOf s.g)).count s.g k = 0

/-- Writes of a context that are not acknowledged everywhere. -/
def State.writesOf (s : State) (k : BitVec 2) : Bool := s.writes.any (fun w => w.g == s.g && w.k == k)

/-- DRAIN_COMPLETE (R106): once the copy buffer and the queues hold nothing of the context, its pins end and its lines are made
full; once every write is acknowledged and nothing waits for its lines, it leaves and becomes FREE. DEDUCED: a failed copy that no wait
delivered is entered in the completion record. -/
def doDrainComplete (k : BitVec 2) (s : State) : Option State :=
  let c := s.ctxAt k
  if c.state != .drain || !s.quietCtx k || s.cr.copies.any (fun m => m.k == k && !m.hasFailed) then none
  else if !c.drainRel then some (((s.endPins (clusterOf s.g)).fillAllotment s.g c).modCtxAt k (fun c => { c with drainRel := true }))
  else if s.writesOf k || s.linesWanted s.g c then none
  else
    let late := (s.cr.copies.filter (fun m => m.k == k)).map (fun _ => Code.copyFault.num) ++ c.due.map DueFault.code
    let s := s.flushDA (fun _ _ => false) (fun g _ => g == s.g)
    let s := ((s.releaseMerge s.g k false).unpinDeclared c).clearAllotment s.g c
    let s : State := { s with cr := { s.cr with copies := s.cr.copies.filter (fun m => m.k != k) } }
    let s := (s.setCtxAt k {}).leaveCore s.g c
    let s := s.modLaunch c.sys.tenant c.sys.launch (fun l =>
      late.foldl Launch.enter { l with tasksLeft := l.tasksLeft - 1 })
    some (s.settle (c.sys.tenant.toNat * 2 ^ 32 + c.sys.launch.toNat))
/-- DRAIN_COMPLETE (R106). -/
def execDrainComplete (s : State) : Host.Outcome State Fault Refusal :=
  match s.event with
  | some (.drainComplete k) => onEvent (doDrainComplete k s) s
  | _ => .next s

-- Resume and end of a halted context

/-- CONTEXT_RESUME: the tenant's function resumes a halted context, whose in-flight work has drained (R105, R538). -/
def doContextResume (g : Nat) (k : BitVec 2) (s : State) : Option State :=
  if ((s.coreAt g).ctxs[k.toNat]).state = .halt && (s.focus g).pageDrained k then some (s.within g (fun s => s.resumeCtx k)) else none
/-- CONTEXT_RESUME (R105). -/
def execContextResume (s : State) : Host.Outcome State Fault Refusal :=
  match s.event with
  | some (.contextResume g k) => onEvent (doContextResume g k s) s
  | _ => .next s

/-- CONTEXT_END: the tenant's function ends a halted context, which counts as ended by its fault (R539, R540). -/
def doContextEnd (g : Nat) (k : BitVec 2) (s : State) : Option State :=
  let c := (s.coreAt g).ctxs[k.toNat]
  if c.state = .halt then some (s.within g (fun s => (s.setCtxAt k c.enterDrain).noteFault c (c.sys.trapc.setWidth 8))) else none
/-- CONTEXT_END (R539). -/
def execContextEnd (s : State) : Host.Outcome State Fault Refusal :=
  match s.event with
  | some (.contextEnd g k) => onEvent (doContextEnd g k s) s
  | _ => .next s

-- Eviction

/-- A context that an eviction takes (R84, R109). -/
def Ctx.evictable (c : Ctx) : Bool := c.live && c.state != .evicting

/-- GANG_EVICT: every context of the gang but those in DRAIN stops issuing and enters EVICTING (R84, R109). -/
def doGangEvict (key : Nat) (s : State) : Option State :=
  if !(s.gangCtxs key).any (fun c => c.2.2.evictable) then none
  else
    let s := s.mapCtxs (fun c => if c.gangKey == key && c.evictable then
      { c with was := if c.state == .page || c.state == .halt then c.state else .ready, state := .evicting } else c)
    some { s with evicting := s.evicting.filter (· != key) ++ [key] }
/-- GANG_EVICT (R84). -/
def execGangEvict (s : State) : Host.Outcome State Fault Refusal :=
  match s.event with
  | some (.gangEvict key) => onEvent (doGangEvict key s) s
  | _ => .next s

/-- A copy that an image takes: a timed command not yet released, or one that has failed (R83, R84). -/
def Copy.imaged (m : Copy) : Bool := m.phase == .timed || m.hasFailed

/-- Copies of a gang that run to completion before its images are written (R84). -/
def State.gangCopies (s : State) (key : Nat) : Bool :=
  (s.gangCtxs key).any (fun c => (s.coreAt c.1).copies.any (fun m => m.k == c.2.1 && !m.imaged))

/-- The lines of a context that are not zero, full and plain, by relative line (R85). -/
def State.imageLines (s : State) (g : Nat) (c : Ctx) : List (Nat × LineData × LineMeta) :=
  let key := lineKey g c.sys.allocBase.toNat
  let n := c.sys.allocSize.toNat
  let data := ((s.scratch.filter (fun b => key * 128 ≤ b.1 && b.1 < (key + n) * 128)).map (fun b => b.1 / 128)).eraseReps
  let marks := ((s.lineMeta.filter (fun e => key ≤ e.1 && e.1 < key + n)).map Prod.fst).filter (fun l => !data.contains l)
  (data ++ marks).map (fun l => (l - key, s.lineAt l, s.metaAt l))

/-- The rows of a context's tiles, by relative tile × 64 + row (R85). -/
def State.imageTiles (s : State) (g : Nat) (c : Ctx) : List (Nat × VReg) :=
  let lo := tileKey g c.sys.tilesFirst.toNat 0
  (s.tiles.filter (fun e => lo ≤ e.1 && e.1 < lo + 64 * c.sys.tilesCount.toNat && !s.released.contains (e.1 / 64))).map (fun e => (e.1 - lo, e.2))

/-- A context's tiles that are marked released, relative to its run (R307, R313). -/
def State.imageReleased (s : State) (g : Nat) (c : Ctx) : List Nat :=
  let lo := g * 48 + c.sys.tilesFirst.toNat
  (s.released.filter (fun t => lo ≤ t && t < lo + c.sys.tilesCount.toNat)).map (· - lo)

/-- The tags of sealed pieces: none for an open world's image (R483). -/
def GangImage.tagsOf {w : Nat} (i : GangImage) (ps : List (Nat × BitVec w)) : Tab (BitVec 128) :=
  match i.onyx with
  | some key => ps.map (fun p => (p.1, Config.imageTag key i.counter p.1 (p.2.setWidth 2048)))
  | none => []

/-- The pieces of an image as its tags number them. -/
def linePieces (lines : Tab (LineData × LineMeta)) : List (Nat × LineData) := lines.map (fun l => (2 * l.1, l.2.1))
def rowPieces (rows : Tab VReg) : List (Nat × VReg) := rows.map (fun r => (2 * r.1 + 1, r.2))

/-- Lines and tile rows encrypted, or decrypted, by their number in the image. -/
def GangImage.cryptLines (i : GangImage) (lines : Tab (LineData × LineMeta)) : Tab (LineData × LineMeta) :=
  lines.map (fun l => (l.1, i.crypt (2 * l.1) l.2.1, l.2.2))
def GangImage.cryptRows (i : GangImage) (rows : Tab VReg) : Tab VReg := rows.map (fun r => (r.1, i.crypt (2 * r.1 + 1) r.2))

/-- A context's image added to its gang's: for a protected world its lines and tile rows are encrypted and tagged (R85, R483). -/
def GangImage.add (i : GangImage) (c : Ctx) (lines : List (Nat × LineData × LineMeta)) (rows : List (Nat × VReg)) (released : List Nat)
    (copies : List Copy) : GangImage :=
  let n := i.ctxs.length
  let ls := i.cryptLines (lines.map (fun l => (n * 32768 + l.1, l.2)))
  let rs := i.cryptRows (rows.map (fun r => (n * 3072 + r.1, r.2)))
  { i with
    ctxs := i.ctxs ++ [c]
    lines := i.lines ++ ls
    tileRows := i.tileRows ++ rs
    tags := i.tags ++ i.tagsOf (linePieces ls) ++ i.tagsOf (rowPieces rs)
    released := i.released ++ released.map (n * 48 + ·)
    copies := i.copies ++ copies.map (fun m => (n, m)) }

/-- An image passes its check: it was sealed under its world's key, and every tag agrees (R483). -/
def State.genuine (s : State) (i : GangImage) : Bool :=
  !i.bad && match i.onyx with
    | none => true
    | some key =>
      (match i.ctxs with
        | c :: _ => (tabGet s.worlds c.sys.world.toNat).map World.key == some key
        | [] => true) &&
      (i.tagsOf (linePieces i.lines) ++ i.tagsOf (rowPieces i.tileRows)).all i.tags.contains

/-- What an image holds, decrypted (R483). -/
def GangImage.opened (i : GangImage) : GangImage := { i with onyx := none, lines := i.cryptLines i.lines, tileRows := i.cryptRows i.tileRows }

/-- A tracker entry as an image holds it: its range, and counts that are zero (R85). -/
def TrackEntry.imaged (e : TrackEntry) : TrackEntry := { range := e.range, age := e.age }

/-- The image of a context of the core at hand written, under a value of its world's image counter that no gang has had (R84, R85, R483). -/
def State.writeImage (s : State) (k : BitVec 2) : State :=
  let c := s.ctxAt k
  let c := { c with extents := [], pins := [], answers := [], track := c.track.map TrackEntry.imaged, catchAll := c.catchAll.imaged }
  let old := s.images.find? (fun i => i.key == c.gangKey)
  let s := if old.isNone && c.sys.world != 0 then s.modWorld c.sys.world.toNat (fun w => { w with imageCtr := w.imageCtr + 1 }) else s
  let world := if c.sys.world = 0 then none else tabGet s.worlds c.sys.world.toNat
  let fresh : GangImage := { tenant := c.sys.tenant, launch := c.sys.launch, gang := c.sys.gang, ctxs := [], lines := [], tileRows := [], copies := []
                             onyx := world.map World.key, counter := (world.map World.imageCtr).getD 0 }
  let image : GangImage := (old.getD fresh).add c (s.imageLines s.g c) (s.imageTiles s.g c) (s.imageReleased s.g c)
    (s.cr.copies.filter (fun m => m.k == k))
  { s with images := if old.isSome then s.images.map (fun i => if i.key == image.key then image else i) else s.images ++ [image] }

/-- EVICTION_COMPLETE: once a context's in-flight work has landed and been acknowledged, its image is written and its lines are made full;
once nothing waits for its lines, they and its tiles are released (R84, R85, R188). -/
def doEvictionComplete (k : BitVec 2) (s : State) : Option State :=
  let c := s.ctxAt k
  if c.state != .evicting || !s.quietCtx k || s.gangCopies c.gangKey then none
  else if s.writesOf k then
    if (s.clusterAt (clusterOf s.g)).cache.any CLine.pin then some (s.endPins (clusterOf s.g)) else none
  else if !c.drainRel then
    let s := (s.flushDA (fun _ _ => false) (fun g _ => g == s.g)).releaseMerge s.g k true
    some (((s.writeImage k).fillAllotment s.g c).modCtxAt k (fun c => { c with drainRel := true }))
  else if s.linesWanted s.g c then none
  else
    let s := (s.unpinDeclared c).clearAllotment s.g c
    let s : State := { s with cr := { s.cr with copies := s.cr.copies.filter (fun m => m.k != k) } }
    some ((s.setCtxAt k {}).leaveCore s.g c)
/-- EVICTION_COMPLETE (R84). -/
def execEvictionComplete (s : State) : Host.Outcome State Fault Refusal :=
  match s.event with
  | some (.evictionComplete k) => onEvent (doEvictionComplete k s) s
  | _ => .next s

-- Restoring

/-- The contexts of an image that are to come back, with their places in the image (R109). -/
def GangImage.alive (i : GangImage) : List (Nat × Ctx) := (i.ctxs.zipIdx.filter (fun c => c.1.live)).map (fun c => (c.2, c.1))

/-- What an image needs to be placed. -/
def GangImage.demand (i : GangImage) (l : Launch) : Demand :=
  { world := l.world, image := l.image, lines := l.lines, tiles := l.tiles, tasks := l.tasks, stages := l.stages
    alive := i.alive.map (fun c => (c.2.sys.stage.toNat, c.2.sys.task.toNat))
    entries := i.alive.map (fun c =>
      (c.2.sys.stage.toNat, c.2.sys.task.toNat, (i.copies.filter (fun m => m.1 == c.1 && !m.2.hasFailed)).length)) }

/-- Every line and attachment that a copy names moved with its context's allotment; its object found again (R86). -/
def Copy.rebase (m : Copy) (s : State) (c : Ctx) (k : BitVec 2) (old new_ : Nat) : Copy :=
  { m with
    k := k
    lines := m.lines.map (fun l => l - old + new_)
    unfilled := m.unfilled.map (fun key => lineKey s.g (key % 32768 - old + new_))
    ref := match m.ref with
      | none => none
      | some r => match copyRefPlace s c m.op m.desc r.ref with
        | .at q => some q
        | _ => some r }

/-- A pending wait's object found again (R86). -/
def Pending.rebase (s : State) (c : Ctx) : Pending → Pending
  | .phase xd r ph dl => match resolveRef s c (s.placementOf c) r.ref with
    | .at q => .phase xd q ph dl
    | .bad => .phase xd r ph dl
    | .outside _ => .phase xd r ph dl
  | w => w

/-- One context restored on the core at hand (R86): its wait counter at 0 (R78; DEDUCED), and the ranges of its tracker of one age (R368). A
context whose page has become resident meanwhile leaves PAGE at once. -/
def restoreCtx (i : GangImage) (l : Launch) (place : Nat) (c : Ctx) (spot : Spot) (tile : Nat) (s : State) : State :=
  match s.cr.freeK with
  | none => s
  | some k =>
    let base := spot.base + c.sys.task.toNat / 16 * l.lines
    let old := c.sys.allocBase.toNat
    let s := s.giveLines s.g k base l.lines tile l.tiles
    let s := (i.lines.filter (fun e => e.1 / 32768 == place)).foldl (fun s e =>
      let key := lineKey s.g (base + e.1 % 32768)
      { s with scratch := memWrite s.scratch (key * 128) (leBytes 128 e.2.1.toNat)
               lineMeta := tabSet s.lineMeta key { e.2.2 with owner := k } }) s
    let s := (i.tileRows.filter (fun e => e.1 / 3072 == place)).foldl (fun s e => s.setTileRow s.g (tile + e.1 % 3072 / 64) (e.1 % 64) e.2) s
    let s : State := { s with released := s.released ++ (i.released.filter (fun t => t / 48 == place)).map (fun t => s.g * 48 + tile + t % 48) }
    let c' := { c with
      state := c.was
      pageWait := match c.pageWait with
        | some (sp, obj, page) => if c.was == .page && (s.leafOf obj page).state != .resident then some (sp, obj, page) else none
        | none => none
      waitCnt := 0, yielded := false, drainRel := false
      track := c.track.map (fun e => { e with age := 0 })
      sys := { c.sys with
        die := BitVec.ofNat 3 (s.g / 192), cluster := BitVec.ofNat 4 (s.g / 16 % 12), core := BitVec.ofNat 4 s.g, kself := k
        allocBase := BitVec.ofNat 15 base, tilesFirst := BitVec.ofNat 6 tile, mgOwn := false, mgMatch := false } }
    let (s, c') := s.pinDeclared l c'
    let s := s.setCtxAt k c'
    let c' := { c' with waits := c'.waits.map (Pending.rebase s c') }
    let back := ((i.copies.filter (fun m => m.1 == place)).map Prod.snd).map (fun m => m.rebase s c' k old base)
    { s with cr := { s.cr with copies := s.cr.copies ++ back, ctxs := s.cr.ctxs.set k.toNat c' } }

/-- The placement of a stage (R68, R69). -/
def spotPlacement (l : Launch) (gang : BitVec 16) (stage cl : Nat) (d : Demand) (spots : List Spot) : Placement :=
  { tenant := l.tenant, launch := l.number, gang := gang, stage := BitVec.ofNat 4 stage, cluster := cl
    cores := spots.foldl (fun t p => tabSet t p.lcore (p.g, p.base, d.width p.lcore * d.lines)) [] }

/-- A core of world 0 whose instruction memory does not hold the launch's program takes it (R17, R73). -/
def State.readyCore (s : State) (l : Launch) (g : Nat) : State :=
  let c := s.coreAt g
  if l.world != 0 || c.holds l.image then s
  else
    let (obj, off, n) := l.program
    s.setProgram g l.image (s.objectBytes obj off (32 * n))

/-- The bulk gets that the dispatch of a launch's next step waits for: its declared ranges and the entries of the step (R401, R446). -/
def Launch.needs (l : Launch) : List (Nat × Nat × Nat × Nat × Nat) :=
  l.gets.filter (fun g => 2 ^ 20 ≤ g.1 || (match l.steps[g.1]? with | some e => e.step == l.next | none => false))

/-- Every bulk get that the step to be dispatched needs is served, its leases live, its declared ranges resident (R401, R446). -/
def State.stepServed (s : State) (l : Launch) : Bool :=
  s.declaredResident l && l.needs.all (fun g =>
    (s.bulks.any (fun b => b.serves l g && !b.open_)) && (g.2.1 = 0 || s.holdsLease l.tenant g.2.2.1 g.2.2.2.1 g.2.2.2.2 (g.2.1 == 2)) &&
    (List.range g.2.2.2.2).all (fun i => (s.leafOf g.2.2.1 (g.2.2.2.1 + i)).state == .resident))

/-- A gang of a launch is resident (R71). -/
def State.launchResident (s : State) (l : Launch) : Bool :=
  s.resident.any (fun c => c.2.2.sys.tenant == l.tenant && c.2.2.sys.launch == l.number)

/-- At least one eighth of each die's page frames is free of extent pins (R402). -/
def State.pinsFit (s : State) : Bool :=
  (List.range 8).all (fun d => (s.frames.filter (fun e => e.2.extentPins != 0 && frameDie e.1 == d)).length * 8 ≤ 7 * 2864150)

/-- Every context of an evicted gang ends with a fault that its restoring has met: no line of its image becomes plain (R483, R540). -/
def State.endImage (s : State) (l : Launch) (i : GangImage) (code : BitVec 8) : State :=
  let s : State := { s with images := s.images.filter (fun x => x.key != i.key) }
  (s.modLaunch l.tenant l.number (fun l =>
    { l with tasksLeft := l.tasksLeft - i.ctxs.length, firstFault := match l.firstFault with | some e => some e | none => some code })).settle l.key

/-- An evicted gang restored once no context of it is resident, those in DRAIN among them (a DESIGN CHOICE of the log: R109 leaves the moment
open), where it fits and its declared ranges are resident, beside no other gang of a launch that is not COSCHED (R71,
R86, R402); one whose tasks have all been ended is gone, and one whose image fails its check ends (R483). -/
def restoreGang (key : Nat) (s : State) : Option State :=
  match s.images.find? (fun i => i.key == key) with
  | none => none
  | some i =>
    match s.launches.find? (fun l => l.tenant == i.tenant && l.number == i.launch) with
    | none => some { s with images := s.images.filter (fun x => x.key != key) }
    | some l =>
      if !(s.gangCtxs key).isEmpty then none
      else
        let gone := i.ctxs.length - i.alive.length
        let d := i.demand l
        let drop := fun (s : State) =>
          ({ s with images := s.images.filter (fun x => x.key != key) }).modLaunch l.tenant l.number (fun l => { l with tasksLeft := l.tasksLeft - gone })
        if i.alive.isEmpty then some ((drop s).settle l.key)
        else if !s.genuine i then some (s.endImage l i Code.integrity.num)
        else
          match if s.declaredResident l && (l.cosched || !s.launchResident l) then s.fitGang d else none with
          | none => none
          | some plan =>
            let s := plan.foldl (fun s st => st.2.2.foldl (fun s p => s.readyCore l p.g) s) (drop s)
            let s : State := { s with placements := s.placements ++ plan.map (fun st => spotPlacement l i.gang st.1 st.2.1 d st.2.2) }
            let s := (plan.foldl (fun s st => st.2.2.foldl (fun s p =>
              ((i.alive.filter (fun c => c.2.sys.stage.toNat == st.1 && c.2.sys.task.toNat % 16 == p.lcore)).zipIdx).foldl (fun s c =>
                s.within p.g (restoreCtx i.opened l c.1.1 c.1.2 p (p.tiles.getD c.2 0))) s) s) s)
            if s.pinsFit then some s else none

end Sys2Proof.Machine
end

