-- ==== Sys2Proof/Machine/Launches.lean ====
section
/-! DEFINITION. Launch records and their checks (R491 to R495), queues (R489, R490, R502, R503), the dispatcher (R496 to R499)
and what a context holds at dispatch (R73). -/

namespace Sys2Proof.Machine

-- Launch records

/-- The fields of a header that must be zero, VER, and the ranges of its values (R491, R494, R495). -/
def headerBad (l : Launch) : Bool :=
  l.f 1023 509 != 0 || l.f 319 317 != 0 || l.f 231 228 != 0 || l.f 151 149 != 0 || l.f 63 63 != 0 || l.f 15 12 != 0 || l.f 3 0 != 1 ||
    8 < l.f 67 64 || 24 < l.f 62 58 || l.gangs = 0 || l.f 51 44 = 0 || 128 < l.f 51 44 || 48 < l.tiles || 2 ^ 20 < l.nsteps ||
    2 ^ 20 < l.f 508 488 || 8 < l.f 71 68 || l.f 383 344 % 16 != 0 || l.f 215 176 % 16 != 0 || l.f 135 96 % 32 != 0

/-- A wait entry (R493). -/
def waitEntry (b : List (BitVec 8)) : WaitEntry :=
  let v := leNat b
  { obj := bitsOf v 127 104, off := bitsOf v 103 64, target := BitVec.ofNat 64 v }

/-- An operand entry, and whether it is malformed (R492, R494). -/
def operandEntry (b : List (BitVec 8)) : OperandEntry :=
  let v := leNat b
  { off := BitVec.ofNat 64 v, len := BitVec.ofNat 64 (bitsOf v 127 64), obj := bitsOf v 151 128, space := bitsOf v 154 152
    acc := bitsOf v 156 155, lease := bitsOf v 158 157, bounce := bitsOf v 159 159 = 1, chan := bitsOf v 163 160 }
def operandBad (b : List (BitVec 8)) : Bool :=
  let o := operandEntry b
  bitsOf (leNat b) 255 164 != 0 || o.space < 2 || 4 < o.space || o.acc = 0 || o.lease = 3 || (o.bounce && o.space != 4)

/-- A step entry, and whether its reserved bits are set (R444). -/
def stepEntry (b : List (BitVec 8)) : StepEntry :=
  let v := leNat b
  { len := bitsOf v 255 192, off := bitsOf v 191 128, step := bitsOf v 127 64, kind := bitsOf v 9 8, opnd := bitsOf v 4 0 }
def stepReserved (b : List (BitVec 8)) : Bool := bitsOf (leNat b) 63 10 != 0 || bitsOf (leNat b) 7 5 != 0

/-- `n` pieces of `w` bytes of an object. -/
def State.pieces (s : State) (obj off w n : Nat) : List (List (BitVec 8)) := chunks w n (s.objectBytes obj off (w * n))

/-- A range of an object lies within its pages, and the object is the tenant's (R494). -/
def State.ownsRange (s : State) (t : BitVec 4) (obj off len : Nat) : Bool :=
  s.ownsObject t obj && (match tabGet s.objects obj with | some o => off + len ≤ o.pages * 65536 | none => false)

/-- A range of a local object of the tenant (R491). -/
def State.ownsLocal (s : State) (t : BitVec 4) (obj off len : Nat) : Bool :=
  s.ownsRange t obj off len && (match tabGet s.objects obj with | some o => !o.pool | none => false)

/-- The range of an operand lies in an object of the tenant that is of the operand's space (R492, R494). -/
def State.ownsOperand (s : State) (t : BitVec 4) (o : OperandEntry) : Bool :=
  s.ownsRange t o.obj o.off.toNat o.len.toNat && (match tabGet s.objects o.obj with | some m => m.pool == (o.space == 3) | none => false)

/-- The permissions of an operand (R492). -/
def OperandEntry.perms (o : OperandEntry) : Nat :=
  let base := if o.acc = 1 then 0x825 else if o.acc = 2 then 0x84A else 0x87F
  let base := if o.space = 4 then base - base / 4 % 4 * 4 else base
  if o.lease = 0 then base else base + 0x080

/-- The capability of an operand (R154, R492). -/
def State.operandCap (s : State) (o : OperandEntry) : Option Cap :=
  let base := if o.space = 4 then o.off.toNat else o.obj * 2 ^ 40 + o.off.toNat
  let gen := if o.space = 4 then 0 else (s.genOf o.obj).getD 0
  exactCap gen (BitVec.ofNat 3 o.space) (BitVec.ofNat 12 o.perms) base o.len.toNat

/-- A step entry is invalid for its launch: KIND 3, an operand that is not declared, or a range that is empty or leaves its operand (R444). The
order of the entries is no ground. -/
def stepBad (l : Launch) (e : StepEntry) : Bool :=
  match l.operands[e.opnd]? with
  | none => true
  | some o => e.kind = 3 || e.len = 0 || o.len.toNat < e.off + e.len

/-- A record read from its object: its launch, not yet numbered (R491). -/
def State.readLaunch (s : State) (t : BitVec 4) (obj off : Nat) : Launch :=
  let l : Launch := { tenant := t, number := 0, header := BitVec.ofNat 1024 (leNat (s.objectBytes obj off 128)) }
  let nw := min 8 (l.f 67 64)
  let no := min 24 (l.f 62 58)
  { l with
    waits := (s.pieces obj (off + 128) 16 nw).map waitEntry
    operands := (s.pieces obj (off + 128 + 16 * nw) 32 no).map operandEntry
    steps := if l.f 508 488 = 0 || 2 ^ 20 < l.f 508 488 then [] else sortSteps ((s.pieces obj (l.f 487 448) 32 (l.f 508 488)).map stepEntry) }

/-- Stages' shares of one cluster that R68 to R72 let it hold at once: each puts `tasks / 16` contexts on every core and one more on
`tasks % 16` of them, chosen freely, and a core holds `w` contexts of the launch. -/
def stagesPerCluster (tasks w : Nat) : Nat :=
  let q := tasks / 16
  let r := tasks % 16
  (List.range 65).foldl (fun best m => if m * q ≤ w && m * r ≤ 16 * min m (w - m * q) then m else best) 0

/-- The largest number of a COSCHED launch's gangs that are placed at once on a package whose clusters hold no other work: a core holds four
contexts, 32768 lines and 48 tiles, and the stages of a gang stand on distinct clusters of a die (R70, R71, R72). -/
def coscheduled (l : Launch) : Nat :=
  let w := min 4 (min (32768 / l.lines) (if l.tiles = 0 then 4 else 48 / l.tiles))
  8 * (12 * stagesPerCluster l.tasks w / l.stages)

/-- What a gang of a launch needs. -/
def Launch.demand (l : Launch) : Demand :=
  { world := l.world, image := l.image, lines := l.lines, tiles := l.tiles, tasks := l.tasks, stages := l.stages
    alive := ((List.range l.stages).map (fun st => (List.range l.tasks).map (fun t => (st, t)))).flatten }

/-- NSENT and NSTEPS disagree, or a step entry of the record is invalid (R444, R494). -/
def State.badSteps (s : State) (l : Launch) (obj : Nat) : Bool :=
  let steps := if 2 ^ 20 < l.f 508 488 then [] else s.pieces obj (l.f 487 448) 32 (l.f 508 488)
  (l.f 508 488 = 0) != (l.nsteps = 0) || steps.any stepReserved || l.steps.any (stepBad l)

/-- DETAIL of the first check that a record fails (R494). `length` is the length in its ring entry. -/
def State.recordFault (s : State) (l : Launch) (obj off length : Nat) (armed : Bool) : Option (BitVec 8) :=
  let nw := l.f 67 64
  let no := l.f 62 58
  let ops := s.pieces obj (off + 128 + 16 * min 8 nw) 32 (min 24 no)
  let perCore := (l.tasks + 15) / 16
  if headerBad l || length != 128 + 16 * nw + 32 * no || l.waits.any (fun w => w.off % 16 != 0) || ops.any operandBad then some 1
  else if !armed && l.f 5 5 = 1 then some 2
  else if 12 < l.stages || 32768 < perCore * l.lines || 48 < perCore * l.tiles then some 3
  else if l.cosched && coscheduled l < l.gangs then some 3
  else if 16 * (l.f 43 42 + 1) < l.tasks then some 4
  else if !s.ownsRange l.tenant (l.f 95 72) (l.f 135 96) (32 * (l.f 148 136 + 1)) || !s.ownsLocal l.tenant (l.f 343 320) (l.f 383 344) 16 ||
      (l.f 227 216 != 0 && !s.ownsLocal l.tenant (l.f 175 152) (l.f 215 176) (16 * l.f 227 216)) ||
      l.waits.any (fun w => !s.ownsRange l.tenant w.obj w.off 16) ||
      l.operands.any (fun o => o.space != 4 && !s.ownsOperand l.tenant o) ||
      (l.f 508 488 != 0 && !s.ownsRange l.tenant obj (l.f 487 448) (32 * l.f 508 488)) then some 5
  else if l.operands.any (fun o => (s.operandCap o).isNone || (o.lease != 0 && o.space != 3)) then some 6
  else if l.world != 0 && (match tabGet s.worlds l.world.toNat with | some w => w.tenant != l.tenant | none => true) then some 7
  else if s.badSteps l obj then some 8
  else none

/-- A launch entered under the next number of its tenant (R88); the step table of one whose record is good is published (R443). -/
def State.addLaunch (s : State) (l : Launch) : State :=
  let l := { l with number := (s.tenant l.tenant).nextLaunch }
  let (s, l) := if l.checked then s.publishTable l else (s, l)
  ({ s with launches := s.launches ++ [l] }).modTenant l.tenant (fun te => { te with nextLaunch := te.nextLaunch + 1 })

/-- A record that a queue supplies, checked as it becomes the head: a bad one completes at once with STATUS 0x01 (R494). -/
def State.submit (s : State) (l : Launch) (fault : Option (BitVec 8)) : State :=
  match fault with
  | none => (s.addLaunch { l with checked := true }).opportune
  | some d =>
    let n := (s.tenant l.tenant).nextLaunch
    (s.addLaunch { l with stopping := true, status := some (1, d) }).settle (l.tenant.toNat * 2 ^ 32 + n.toNat)

-- Queues

/-- The number of a queue among all queues. -/
def Queue.key (q : Queue) : Nat := q.tenant.toNat * 256 + q.q

/-- A queue changed. -/
def State.modQueue (s : State) (key : Nat) (f : Queue → Queue) : State :=
  { s with queues := s.queues.map (fun q => if q.key = key then f q else q) }

/-- A queue, as it stands. -/
def State.queue (s : State) (key : Nat) : Option Queue := s.queues.find? (fun q => q.key == key)

/-- A queue disabled, with an event (R490). -/
def State.disableQueue (s : State) (q : Queue) : State :=
  (s.modQueue q.key (fun q => { q with disabled := true, rewritten := false, mapped := false, slot := 0 })).postRecord q.tenant (.queueDisabled q.q)

/-- A notify applied to a mapped queue: too far ahead disables it, backward is ignored (R490). -/
def State.applyNotify (s : State) (q : Queue) (v : BitVec 32) : State :=
  if 2 ^ q.log2size.toNat < (v - q.ci).toNat then s.disableQueue q
  else if (v - q.pi).toNat < 2 ^ 31 then (s.modQueue q.key (fun q => { q with pi := v })).opportune
  else s

/-- A notify that arrives in the cycle in which its queue has been unmapped is latched: it goes to PEND where it exceeds PI (R502). -/
def Queue.latch (q : Queue) (v : BitVec 32) : Queue :=
  if v != q.pi && (v - q.pi).toNat < 2 ^ 31 then { q with pend := v, pv := true } else q

/-- DOORBELL_NOTIFY: to a mapped queue; latched in the cycle of an unmap; or into the unmapped-notify page, with an event when its record becomes
valid (R490, R502, R503). -/
def doDoorbellNotify (t : BitVec 4) (n : Nat) (v : BitVec 32) (s : State) : Option State :=
  let key := t.toNat * 256 + n
  let note := Record.unmappedNotify n
  match s.queue key with
  | some q =>
    some (if q.mapped && !q.disabled then s.applyNotify q v
      else if q.unmappedAt == some s.tnow then s.modQueue key (fun q => q.latch v)
      else
        let s' := s.modQueue key (fun q => { q with unmapped := some v })
        if q.unmapped.isSome then s' else s'.postRecord t note)
  | none => some (({ s with queues := s.queues ++ [{ tenant := t, q := n, unmapped := some v }] } : State).postRecord t note)
/-- DOORBELL_NOTIFY (R490). -/
def execDoorbellNotify (s : State) : Host.Outcome State Fault Refusal :=
  match s.event with
  | some (.doorbellNotify t q v) => onEvent (doDoorbellNotify t q.toNat v s) s
  | _ => .next s

/-- The lowest hardware slot that is free. -/
def State.freeSlot (s : State) : Option Nat := (List.range 64).find? (fun n => !s.queues.any (fun q => q.mapped && q.slot = n))

/-- A queue descriptor's fields that must be zero, or its LOG2SIZE, are bad (R489, R495). -/
def descBad (v : BitVec 512) : Bool :=
  bitsOf v.toNat 511 202 != 0 || bitsOf v.toNat 95 69 != 0 || bitsOf v.toNat 68 64 < 4 || 16 < bitsOf v.toNat 68 64

/-- A wait entry is satisfied by what its completion object holds (R493). -/
def State.waitMet (s : State) (w : WaitEntry) : Bool := w.target.toNat ≤ leNat (s.objectBytes w.obj w.off 8)

/-- A queue's head launch, while gangs of it are still to be dispatched. -/
def State.headOf (s : State) (key : Nat) : Option Launch := s.launches.find? (fun l => l.queue == some key)

/-- A mapped queue whose ring has been empty, or whose head has not been ready, for 2^20 cycles (R502). -/
def State.idleQueue (s : State) (q : Queue) : Bool :=
  let quiet := match s.headOf q.key with
    | some l => l.nextGang = 0 && l.step = 0 && !l.waits.all s.waitMet
    | none => q.pi == q.ci
  q.mapped && quiet && q.idleSince.toNat + 2 ^ 20 ≤ s.tnow.toNat

/-- BASE of a descriptor names a ring in a local object of the tenant (R489). -/
def State.ringSound (s : State) (t : BitVec 4) (v : BitVec 512) : Bool :=
  s.ownsLocal t (bitsOf v.toNat 63 40) (bitsOf v.toNat 39 0) (16 * 2 ^ bitsOf v.toNat 68 64)

/-- The tenant's function writes a queue's descriptor; what is read-only in it is the part's own and stays (R489, R495). -/
def State.writeDesc (s : State) (t : BitVec 4) (n : Nat) (d : BitVec 512) : State :=
  let set := fun (q : Queue) => { q with desc := d, rewritten := true, pend := BitVec.ofNat 32 (bitsOf d.toNat 191 160), pv := d.getLsbD 192 }
  match s.queue (t.toNat * 256 + n) with
  | some q => s.modQueue q.key set
  | none => { s with queues := s.queues ++ [set { tenant := t, q := n }] }

/-- A queue has a notify pending (R502). -/
def Queue.pending (q : Queue) : Bool := q.unmapped.isSome || q.pv

/-- QUEUE_MAP: a queue with a notify pending gets a free slot while no slot of its tenant is idle; its descriptor is checked, one whose BASE names
no ring of a local object of the tenant like one with a bad field (DESIGN CHOICE); a disabled queue waits until its descriptor has been rewritten;
PI comes from the unmapped-notify record, else from PEND, and both are cleared (R489, R495, R502). With a descriptor, the event is its writing by
the tenant's function. -/
def doQueueMap (t : BitVec 4) (n : Nat) (desc : Option (BitVec 512)) (s : State) : Option State :=
  let key := t.toNat * 256 + n
  match desc with
  | some d => some (s.writeDesc t n d)
  | none =>
    match s.queue key, s.freeSlot with
    | some q, some slot =>
      let f := bitsOf q.desc.toNat
      if q.mapped || !q.pending || (q.disabled && !q.rewritten) || s.queues.any (fun o => o.tenant == t && s.idleQueue o) then none
      else
        let s := s.modQueue key (fun q => { q with unmapped := none, pv := false, pend := 0, unmappedAt := none })
        if descBad q.desc || !s.ringSound t q.desc then some ((s.disableQueue q).postRecord t (.queueError n 0))
        else
          let pi : BitVec 32 := match q.unmapped with
            | some v => v
            | none => q.pend
          let q' : Queue := { q with
            slot := slot, mapped := true, disabled := false, unmapped := none, pv := false, pend := 0, unmappedAt := none
            pri := BitVec.ofNat 2 (f 194 193), log2size := BitVec.ofNat 5 (f 68 64), base := BitVec.ofNat 64 (f 63 0), idleSince := s.tnow }
          some ((s.modQueue key (fun _ => q')).applyNotify q' pi)
    | _, _ => none
/-- QUEUE_MAP (R502). -/
def execQueueMap (s : State) : Host.Outcome State Fault Refusal :=
  match s.event with
  | some (.queueMap t q d) => onEvent (doQueueMap t q.toNat d s) s
  | _ => .next s

/-- QUEUE_UNMAP: an idle slot is given up in favour of another queue with a notify pending; what has arrived before this cycle has been applied,
and what arrives in it is latched (R502). -/
def doQueueUnmap (slot : Nat) (s : State) : Option State :=
  match s.queues.find? (fun q => q.mapped && q.slot = slot) with
  | none => none
  | some q =>
    if s.idleQueue q && s.queues.any (fun o => !o.mapped && o.pending) then
      let s := s.modQueue q.key (fun q => { q with mapped := false, slot := 0, unmappedAt := some s.tnow })
      some { s with launches := s.launches.filter (fun l => l.queue != some q.key) }
    else none
/-- QUEUE_UNMAP (R502). -/
def execQueueUnmap (s : State) : Host.Outcome State Fault Refusal :=
  match s.event with
  | some (.queueUnmap slot) => onEvent (doQueueUnmap slot.toNat s) s
  | _ => .next s

/-- The place of the entry at the head of a queue's ring (R489). -/
def Queue.head (q : Queue) : Nat × Nat × Nat :=
  (bitsOf q.base.toNat 63 40, bitsOf q.base.toNat 39 0 + 16 * (q.ci.toNat % 2 ^ q.log2size.toNat), 16)

/-- The bytes that the command processor reads to take a queue's head: its ring entry, its record and the record's step entries (R489, R491). -/
def State.headReads (s : State) (q : Queue) : List (Nat × Nat × Nat) :=
  let (ring, at_, n) := q.head
  let e := leNat (s.objectBytes ring at_ n)
  let l := s.readLaunch q.tenant (bitsOf e 23 0) (bitsOf e 63 24)
  [q.head, (bitsOf e 23 0, bitsOf e 63 24, bitsOf e 79 64)] ++ (if l.steps.isEmpty then [] else [(bitsOf e 23 0, l.f 487 448, 32 * l.steps.length)])

/-- The entry at the head of a ring read: a bad one is consumed with an error record; a record is read and checked (R489,
R494, R495). A ring whose object is gone disables its queue, as a bad descriptor does (DESIGN CHOICE). -/
def State.fetchHead (s : State) (q : Queue) : State :=
  let (ring, at_, n) := q.head
  let e := leNat (s.objectBytes ring at_ n)
  let obj := bitsOf e 23 0
  let off := bitsOf e 63 24
  if !s.ownsLocal q.tenant ring at_ n then (s.disableQueue q).postRecord q.tenant (.queueError q.q q.ci)
  else if bitsOf e 127 80 != 0 || off % 16 != 0 || !s.ownsObject q.tenant obj then
    (s.modQueue q.key (fun q => { q with ci := q.ci + 1 })).postRecord q.tenant (.queueError q.q q.ci)
  else
    let l := { s.readLaunch q.tenant obj off with queue := some q.key, origin := some q.key, prio := q.pri }
    s.submit l (s.recordFault l obj off (bitsOf e 79 64) false)

-- The argument buffer

/-- The highest object number up to a number, above 0, that can be used. -/
def State.highestFree (s : State) : Nat → Option Nat
  | 0 => none
  | n + 1 => if s.numberFree (n + 1) then some (n + 1) else s.highestFree n

/-- The object number that an argument buffer takes (R154; which one is a DESIGN CHOICE of the log). -/
def State.freshObject (s : State) : Option Nat := s.highestFree (2 ^ 24 - 1)

/-- Granules of a range of a local object, counted from its start, that a mark list of the frames holds. -/
def State.granuleMarks (s : State) (marks : List Nat) (obj off n : Nat) : List Nat :=
  (List.range n).filter (fun i =>
    let o := off + 16 * i
    s.inFrame obj o && marks.contains ((s.leafOf obj (o / 65536)).frame * 4096 + o % 65536 / 16))

/-- A local object of one page made for a tenant's launch: granules with their tags and poison, and the scratchpad root behind them (R154). -/
def State.makeArgs (s : State) (t : BitVec 4) (bytes : List (BitVec 8)) (tags poison : List Nat) (die : Nat) : Option (Nat × State) :=
  match s.freshObject with
  | none => none
  | some obj =>
    match (s.makeMap t false obj 1 []).placePage obj 0 die with
    | none => none
    | some s =>
      let f := (s.leafOf obj 0).frame
      let s := s.modLeaf obj 0 (fun l => { l with t := true })
      let n := bytes.length / 16
      some (obj, { s with
        hbm := memWrite s.hbm (f * 65536) (bytes ++ leBytes 16 scratchRoot.bits.toNat)
        hbmTags := moveNums (tags.filter (· < n) ++ [n]) s.hbmTags 0 4096 (f * 4096)
        hbmPoison := moveNums (poison.filter (· < n)) s.hbmPoison 0 4096 (f * 4096) })

/-- A launch's argument buffer filled before its first gang: the granules of its argument block, or its message's payload (R154, R505). -/
def State.giveArgs (s : State) (l : Launch) (die : Nat) : Option State :=
  if l.argObj ≠ 0 then some s
  else
    let payload := match l.armed with
      | some tag => (tabGet s.armed tag).map ArmedTag.payload
      | none => none
    let obj := l.f 175 152
    let off := l.f 215 176
    let g := l.f 227 216
    let (bytes, tags, poison) := match payload with
      | some p => (p, [], [])
      | none => (s.objectBytes obj off (16 * g), s.granuleMarks s.hbmTags obj off g, s.granuleMarks s.hbmPoison obj off g)
    let n := bytes.length
    match s.makeArgs l.tenant (bytes ++ List.replicate ((n + 15) / 16 * 16 - n) 0) tags poison die with
    | none => none
    | some (obj, s) => some (s.modLaunch l.tenant l.number (fun l => { l with argObj := obj, argLen := n }))

-- Dispatch

/-- An argument word: zero past the end of the arguments (R73, R154). -/
def State.argWord (s : State) (l : Launch) (i : Nat) : Word :=
  let n := l.argLen - 8 * i
  BitVec.ofNat 64 (leNat ((s.objectBytes l.argObj (8 * i) 8).take n))

/-- Registers of a capability file set in order from c1 (R73). -/
def dispatchCaps (caps : List (Option Cap)) : Vector CReg 32 :=
  caps.zipIdx.foldl (fun v c => match c.1 with | some cap => v.setIfInBounds (c.2 + 1) { cap := cap } | none => v) (Vector.replicate 32 {})

/-- A task's context at dispatch (R73, R88). -/
def State.newCtx (s : State) (l : Launch) (gang stage task : Nat) (g : Nat) (k : BitVec 2) (base tile : Nat) : Ctx :=
  let step : Word := if l.nsteps = 0 then 0 else BitVec.ofNat 64 l.next
  let xs : List Word := [BitVec.ofNat 64 task, BitVec.ofNat 64 gang, BitVec.ofNat 64 stage, step, s.argWord l 0, s.argWord l 1, s.argWord l 2]
  let args := exactCap ((s.genOf l.argObj).getD 0) 2 5 (l.argObj * 2 ^ 40) ((l.argLen + 15) / 16 * 16 + 16)
  { state := .ready
    prio := l.prio
    x := xs.zipIdx.foldl (fun v x => v.setIfInBounds (x.2 + 1) { val := x.1 }) (Vector.replicate 64 {})
    c := dispatchCaps (args :: l.operands.map s.operandCap)
    sys := {
      lcore := BitVec.ofNat 4 task, die := BitVec.ofNat 3 (g / 192), cluster := BitVec.ofNat 4 (g / 16 % 12), core := BitVec.ofNat 4 g, kself := k
      task := BitVec.ofNat 6 task, gang := BitVec.ofNat 16 gang, stage := BitVec.ofNat 4 stage, step := step
      launch := l.number, world := l.world, tenant := l.tenant
      allocSize := BitVec.ofNat 16 l.lines, allocBase := BitVec.ofNat 15 base
      tilesCount := BitVec.ofNat 6 l.tiles, tilesFirst := BitVec.ofNat 6 tile } }

/-- One task placed on a core, its tiles at its own run (R73, R283). -/
def placeTask (l : Launch) (gang stage : Nat) (p : Spot) (s : State) (task tile : Nat) : State :=
  let core := s.coreAt p.g
  match core.freeK with
  | none => s
  | some k =>
    let base := p.base + task / 16 * l.lines
    let s := s.giveLines p.g k base l.lines tile l.tiles
    let (s, c) := s.pinDeclared l (s.newCtx l gang stage task p.g k base tile)
    let core := s.coreAt p.g
    s.setCoreAt p.g { core with ctxs := core.ctxs.set k.toNat c }

/-- The next gang of a launch placed by a plan (R68 to R73). -/
def State.placeGang (s : State) (l : Launch) (plan : List (Nat × Nat × List Spot)) : State :=
  let gang := l.nextGang
  let d := l.demand
  let s := plan.foldl (fun s st => st.2.2.foldl (fun s p => s.readyCore l p.g) s) s
  let s : State := { s with placements := s.placements ++ plan.map (fun st => spotPlacement l (BitVec.ofNat 16 gang) st.1 st.2.1 d st.2.2) }
  let s := plan.foldl (fun s st => st.2.2.foldl (fun s p => ((d.on st.1 p.lcore).zipIdx).foldl (fun s t =>
    placeTask l gang st.1 p s t.1 (p.tiles.getD t.2 0)) s) s) s
  s.modLaunch l.tenant l.number (fun l => { l with nextGang := l.nextGang + 1, tasksLeft := l.tasksLeft + l.tasks * l.stages })

/-- The gangs of a launch placed one after the other, all or none, up to `n` (R71). -/
def State.placeGangs (s : State) (key : Nat) : Nat → Option State
  | 0 => some s
  | n + 1 =>
    match s.launch key with
    | none => none
    | some l =>
      match s.fitGang l.demand with
      | none => none
      | some plan => (s.placeGang l plan).placeGangs key n

/-- The bytes that the command processor reads for a launch's next gang: its wait entries' objects, its argument block and its program. -/
def Launch.reads (l : Launch) : List (Nat × Nat × Nat) :=
  let (obj, off, n) := l.program
  l.waits.map (fun w => (w.obj, w.off, 16)) ++ (if l.argObj != 0 || l.f 227 216 = 0 then [] else [(l.f 175 152, l.f 215 176, 16 * l.f 227 216)]) ++
    (if l.world = 0 then [(obj, off, 32 * n)] else [])

/-- Nothing that is to be read stands in a line that a cluster holds pinned (R386). -/
def State.readable (s : State) (l : List (Nat × Nat × Nat)) : Bool :=
  l.all (fun r => !s.pinnedLines r.1 (r.2.1 / 128) ((r.2.1 + r.2.2 + 127) / 128))

/-- A launch whose next gang may be dispatched now: one of a launch that is not COSCHED only while none of it is resident (R71, R493, R494,
R496, R501). -/
def State.candidate (s : State) (l : Launch) : Bool :=
  l.running && l.nextGang < l.gangs && (l.cosched || !s.launchResident l) && s.readable l.reads && l.waits.all s.waitMet && s.stepServed l &&
    (s.tenant l.tenant).ring.overflow.length < 256

/-- The next gang of a launch, or all of them for COSCHED, dispatched where it fits; none where it does not (R71, R72). -/
def State.tryDispatch (s : State) (l : Launch) : Option State :=
  match s.fitGang l.demand with
  | none => none
  | some plan =>
    match s.giveArgs l (match plan with | (_, cl, _) :: _ => cl / 12 | [] => 0) with
    | none => none
    | some s =>
      match s.placeGangs l.key (if l.cosched then l.gangs - l.nextGang else 1) with
      | none => none
      | some s =>
        if !s.pinsFit then none
        else match s.launch l.key with
        | none => some s
        | some l =>
          if l.gangs ≤ l.nextGang && l.nsteps ≤ l.step + 1 && l.queue.isSome then
            some ((s.advanceQueue l.queue).modLaunch l.tenant l.number (fun l => { l with queue := none }))
          else some s

/-- A list from the first element after one that satisfies a condition, round to that element. -/
def rotate {α : Type} (p : α → Bool) (l : List α) : List α := l.filter p ++ l.filter (fun x => !p x)

/-- The dispatcher may take a candidate of a tenant that a queue supplied: in host-assisted scheduling, of the slot that the host names alone
(R487). -/
def State.slotNamed (s : State) (t : BitVec 4) (origin : Option Nat) : Bool :=
  let te := s.tenant t
  !te.qsmode || (match origin.bind s.queue with | some q => q.mapped && q.slot = te.dispatchReg.toNat % 64 | none => false)

/-- The launches of a tenant at a level in the order in which the dispatcher takes them: its queues by slot after the slot last
served, then what no queue supplies; in host-assisted scheduling only what the slot that the host names supplies (R487, R497). -/
def State.tenantOrder (s : State) (t : BitVec 4) (level : BitVec 2) : List Launch :=
  let te := s.tenant t
  let mine := s.launches.filter (fun l => l.tenant == t && l.prio == level)
  let slots := rotate (te.lastSlot[level.toNat] < ·) (List.range 64)
  let bySlot := slots.filterMap (fun n =>
    match s.queues.find? (fun q => q.mapped && !q.disabled && q.slot = n && q.tenant == t) with
    | some q => mine.find? (fun l => l.queue == some q.key)
    | none => none)
  (bySlot ++ mine.filter (fun l => l.queue.isNone)).filter (fun l => s.slotNamed t l.origin)

/-- The tenants in ascending order from the one after the tenant last served at a level (R498). -/
def State.tenantRound (s : State) (level : BitVec 2) : List (BitVec 4) :=
  (rotate (fun n => s.lastTenant[level.toNat] < n) (List.range 16)).map (BitVec.ofNat 4)

/-- The gang of a launch that is next. -/
def Launch.nextKey (l : Launch) : Nat := Sys2Proof.Machine.gangKey l.tenant l.number (BitVec.ofNat 16 l.nextGang)

/-- The priority of a gang that is to be placed. -/
def State.gangLevel (s : State) (key : Nat) : Option (BitVec 2) :=
  match s.images.find? (fun i => i.key == key) with
  | some i => (i.ctxs.head?).map Ctx.prio
  | none => (s.launches.find? (fun l => l.nextKey == key)).map Launch.prio

/-- The priority of the reserved gang (R499). -/
def State.reservedLevel (s : State) : Option (BitVec 2) := s.reserved.bind s.gangLevel

/-- A gang may be dispatched beside a reserved one: it is that one, or of higher priority (R499). -/
def State.mayPass (s : State) (key : Nat) (level : BitVec 2) : Bool :=
  match s.reservedLevel with
  | none => true
  | some p => s.reserved == some key || p.toNat < level.toNat

/-- A gang dispatched costs its tenant a credit, and the round goes on from its tenant and slot (R497, R498). -/
def State.charge (s : State) (l : Launch) : State :=
  let i := l.prio.toNat
  let n := if l.cosched then l.gangs - l.nextGang else 1
  let slot := (l.queue.bind s.queue).map Queue.slot
  let s := s.modTenant l.tenant (fun te => { te with
    credits := te.credits.setIfInBounds i ((te.credits.toList.getD i 0) - n)
    lastSlot := match slot with | some n => te.lastSlot.setIfInBounds i n | none => te.lastSlot })
  { s with
    lastTenant := s.lastTenant.setIfInBounds i l.tenant.toNat
    reserved := if s.reserved == some l.nextKey then none else s.reserved
    passed := tabErase s.passed l.nextKey }

/-- One tenant's turn at a level: its first candidate that can be placed. -/
def State.serveTenant (s : State) (level : BitVec 2) (t : BitVec 4) : Option State :=
  if ((s.tenant t).credits.toList.getD level.toNat 0) = 0 then none
  else (s.tenantOrder t level).findSome? (fun l =>
    if s.candidate l && s.mayPass l.nextKey level then (s.tryDispatch l).map (fun s' => s'.charge l) else none)

/-- Credits of a level refilled to WEIGHT where no tenant with a candidate has any (R498). -/
def State.refillCredits (s : State) (level : BitVec 2) : State :=
  let i := level.toNat
  let want := (List.range 16).filter (fun n => s.launches.any (fun l => l.tenant.toNat == n && l.prio == level && s.candidate l))
  if want.isEmpty || want.any (fun n => (s.tenant (BitVec.ofNat 4 n)).credits.toList.getD i 0 != 0) then s
  else (List.range 16).foldl (fun s n =>
    if (tabGet s.tenants n).isSome || want.contains n then
      s.modTenant (BitVec.ofNat 4 n) (fun te => { te with credits := te.credits.setIfInBounds i te.weight.toNat })
    else s) s

/-- The dispatcher may take an evicted gang now: its tenant's overflow has room (R501), and in host-assisted scheduling the slot that the host names
supplied its launch (R487). -/
def State.restorable (s : State) (i : GangImage) : Bool :=
  (s.tenant i.tenant).ring.overflow.length < 256 &&
    s.slotNamed i.tenant ((s.launches.find? (fun l => l.tenant == i.tenant && l.number == i.launch)).bind Launch.origin)

/-- One level's turn: the evicted gang to be restored, oldest first, or the state with the next gang dispatched (R497). -/
def State.serveLevel (s : State) (level : BitVec 2) : Option (Nat ⊕ State) :=
  match s.images.find? (fun i => (i.ctxs.head?).map Ctx.prio == some level && s.restorable i && s.mayPass i.key level &&
      (restoreGang i.key s).isSome) with
  | some i => some (.inl i.key)
  | none =>
    let s := s.refillCredits level
    ((s.tenantRound level).findSome? (s.serveTenant level)).map .inr

/-- What the dispatcher does at an opportunity, by priority (R497, R549). -/
def State.turn (s : State) : Option (Nat ⊕ State) :=
  if s.power != .run || s.stopped then none else ([3, 2, 1, 0] : List (BitVec 2)).findSome? s.serveLevel

/-- Gangs that are candidates and cannot be placed keep the cycle since which they have been passed over (R72, R499). -/
def State.notePassed (s : State) : State :=
  let keys := (s.launches.filter (fun l => s.candidate l && (s.tryDispatch l).isNone)).map Launch.nextKey ++
    (s.images.filter (fun i => s.restorable i && (s.gangCtxs i.key).isEmpty && (restoreGang i.key s).isNone)).map GangImage.key
  { s with passed := keys.foldl (fun t k => tabSet t k ((tabGet s.passed k).getD s.tnow)) [] }

/-- None of an image's contexts is to come back. -/
def State.imageOver (s : State) (i : GangImage) : Bool :=
  i.alive.isEmpty || !s.launches.any (fun l => l.tenant == i.tenant && l.number == i.launch)

/-- GANG_RESTORE: the evicted gang whose turn it is comes back (R86, R497). -/
def doGangRestore (key : Nat) (s : State) : Option State :=
  let over_ := match s.images.find? (fun i => i.key == key) with
    | some i => s.imageOver i
    | none => false
  let mine := match s.turn with
    | some (.inl k) => k == key
    | _ => false
  if over_ || mine then
    (restoreGang key s).map (fun s => { s with reserved := if s.reserved == some key then none else s.reserved, passed := tabErase s.passed key })
  else none
/-- GANG_RESTORE (R86). -/
def execGangRestore (s : State) : Host.Outcome State Fault Refusal :=
  match s.event with
  | some (.gangRestore key) => onEvent (doGangRestore key s) s
  | _ => .next s

/-- A queue whose next entry is to be read: it is mapped, its ring is not empty and it has no head. -/
def State.wantsHead (s : State) (q : Queue) : Bool := q.mapped && !q.disabled && q.pi != q.ci && (s.headOf q.key).isNone

/-- Lines that a cluster holds pinned and that the command processor has to read answer RETRY, and the timers of their pins start (R386). -/
def State.askPins (s : State) : Option State :=
  let reads := ((s.queues.filter s.wantsHead).map s.headReads).flatten ++
    ((s.launches.filter (fun l => l.running && l.nextGang < l.gangs)).map Launch.reads).flatten
  reads.findSome? (fun r => s.retryLines r.1 (r.2.1 / 128) ((r.2.1 + r.2.2 + 127) / 128))

/-- A dispatch opportunity is over; the next arises with a change of what is ready or free, and at the latest 1024 cycles later (R497). -/
def State.closeOpportunity (s : State) : State := { s with opportunity := false, dispatchAt := s.tnow }

/-- There is an opportunity now (R497). -/
def State.opportunityNow (s : State) : Bool :=
  s.opportunity || (s.dispatchAt.toNat + 1024 ≤ s.tnow.toNat && (!s.launches.isEmpty || s.queues.any Queue.mapped || !s.images.isEmpty))

/-- DISPATCH_OPPORTUNITY: a launch that waits for its completion object alone completes once that can be written (R107); the heads of mapped
queues are read and checked; then the first candidate that can be placed, by priority, tenant and slot, has its next gang dispatched; the
opportunity is over when none of this is left to do (R494, R497, R498). -/
def doDispatchOpportunity (s : State) : Option State :=
  match s.launches.find? (fun l => l.over && (s.writeCompletion l).isSome) with
  | some l => some (s.finishLaunch l)
  | none =>
    if s.power != .run || s.stopped then some s.closeOpportunity
    else match s.askPins with
    | some s => some s
    | none =>
    match s.queues.find? (fun q => s.wantsHead q && s.readable (s.headReads q)) with
    | some q => some (s.fetchHead q)
    | none =>
      match s.turn with
      | some (.inl _) => none
      | some (.inr s) => some s
      | none => some s.notePassed.closeOpportunity
/-- DISPATCH_OPPORTUNITY (R497). -/
def execDispatchOpportunity (s : State) : Host.Outcome State Fault Refusal :=
  match s.event with
  | some .dispatchOpportunity => onEvent (doDispatchOpportunity s) s
  | _ => .next s

/-- A gang's reservation comes before the one that stands: there is none, or it is for a gang of lower priority, which is reserved again once
this one is placed (R499). -/
def State.outranks (s : State) (key : Nat) : Bool :=
  match s.reservedLevel, s.gangLevel key with
  | some p, some q => p.toNat < q.toNat
  | none, some _ => s.reserved.isNone
  | _, none => false

/-- GANG_RESERVE: a gang passed over for 2^16 cycles is reserved (R499). -/
def doGangReserve (key : Nat) (s : State) : Option State :=
  match tabGet s.passed key with
  | some t => if s.outranks key && t.toNat + 2 ^ 16 ≤ s.tnow.toNat then some { s with reserved := some key } else none
  | none => none
/-- GANG_RESERVE (R499). -/
def execGangReserve (s : State) : Host.Outcome State Fault Refusal :=
  match s.event with
  | some (.gangReserve key) => onEvent (doGangReserve key s) s
  | _ => .next s

/-- What the reserved gang needs. -/
def State.reservedDemand (s : State) : Option (BitVec 2 × Demand) :=
  match s.reserved with
  | none => none
  | some key => match s.images.find? (fun i => i.key == key) with
    | some i => (s.launches.find? (fun l => l.tenant == i.tenant && l.number == i.launch)).bind (fun l =>
        (i.ctxs.head?).map (fun c => (c.prio, i.demand l)))
    | none => (s.launches.find? (fun l => l.nextKey == key)).map (fun l => (l.prio, l.demand))

/-- The gang that makes room for the reserved one next: of lower priority, lowest first, the latest dispatched first, and of the
same protected world or of none; none while an eviction is under way or none would help (R87, R499). -/
def State.nextVictim (s : State) : Option Nat :=
  match s.reservedDemand with
  | none => none
  | some (p, d) =>
    let may := fun (c : Ctx) => c.evictable && c.prio.toNat < p.toNat && (c.sys.world == 0 || c.sys.world == d.world)
    let empty := s.mapCtxs (fun c => if may c then {} else c)
    if !s.evicting.isEmpty || (s.fitGang d).isSome || (empty.fitGang d).isNone then none
    else
      let order := s.placements.reverse
      ([0, 1, 2] : List (BitVec 2)).findSome? (fun level => order.findSome? (fun pl =>
        let key := Sys2Proof.Machine.gangKey pl.tenant pl.launch pl.gang
        if (s.gangCtxs key).any (fun c => may c.2.2 && c.2.2.prio == level) then some key else none))

end Sys2Proof.Machine
end

