-- ==== Sys2Proof/Machine/Host.lean ====
section
/-! DEFINITION. The host's side (R485 to R488, R501, R504 to R514): tenant modes and resets, event-ring indices, armed tags,
host windows with HWIN, bounce channels and plain registers. -/

namespace Sys2Proof.Machine

-- Registers

/-- TMODE_WRITE (R486): a WEIGHT of 0 is taken as 1 and an LLEN of 0 as 16. -/
def doTmodeWrite (t : BitVec 4) (v : BitVec 64) (s : State) : Option State :=
  let w : BitVec 8 := v.extractLsb' 40 8
  let l : BitVec 12 := v.extractLsb' 16 12
  some (s.modTenant t (fun te => { te with
    weight := if w = 0 then 1 else w, llen := if l = 0 then 16 else l
    rvmode := v.getLsbD 4, qsmode := v.getLsbD 3, otmode := v.getLsbD 2, rnmode := v.getLsbD 1, pfmode := v.getLsbD 0 }))
/-- TMODE_WRITE (R486). -/
def execTmodeWrite (s : State) : Host.Outcome State Fault Refusal :=
  match s.event with
  | some (.tmodeWrite t v) => onEvent (doTmodeWrite t v s) s
  | _ => .next s

/-- DISPATCH_WRITE: the slot that the host names (R487). -/
def doDispatchWrite (t : BitVec 4) (v : BitVec 64) (s : State) : Option State := some (s.modTenant t (fun te => { te with dispatchReg := v }))
/-- DISPATCH_WRITE (R487). -/
def execDispatchWrite (s : State) : Host.Outcome State Fault Refusal :=
  match s.event with
  | some (.dispatchWrite t v) => onEvent (doDispatchWrite t v s) s
  | _ => .next s

/-- Records of the overflow posted in order while the ring has slots (R501). -/
def EvRing.spill (r : EvRing) : Nat → EvRing
  | 0 => r
  | n + 1 =>
    match r.overflow with
    | [] => r
    | rec :: rest => if r.isFull then r else EvRing.spill ({ r with overflow := rest }.put rec) n

/-- EVOVF: the number of records in the overflow (R501). -/
def EvRing.evovf (r : EvRing) : Nat := r.overflow.length

/-- EVCI_WRITE: the tenant's function advances its index over records that are written, and overflow records take the slots that
this frees (R501). A value that is no advance is ignored. -/
def doEvciWrite (t : BitVec 4) (v : BitVec 32) (s : State) : Option State :=
  let r := (s.tenant t).ring
  if (r.evpi - r.ci).toNat < (v - r.ci).toNat then none
  else some (s.modTenant t (fun te => { te with ring := EvRing.spill { r with ci := v } r.overflow.length }))
/-- EVCI_WRITE (R501). -/
def execEvciWrite (s : State) : Host.Outcome State Fault Refusal :=
  match s.event with
  | some (.evciWrite t v) => onEvent (doEvciWrite t v s) s
  | _ => .next s

/-- A channel register: channel and field of an offset in the upper half of a tenant function's BAR0 (R506, R512; the offsets are
a DESIGN CHOICE of the log). -/
def channelField (off : Nat) : Option (Nat × Nat) :=
  if 0x180000 ≤ off && off < 0x180400 then some ((off - 0x180000) / 64, (off - 0x180000) % 64 / 8) else none

/-- A ring size that R512 allows. -/
def ringSize (n : Nat) : Bool := ((List.range 15).map (fun i => 4096 * 2 ^ i)).contains n

/-- A channel's field written: its counters have events of their own. -/
def Channel.write (c : Channel) (field : Nat) (v : Word) : Channel :=
  match field with
  | 0 => { c with base := v }
  | 1 => if ringSize v.toNat then { c with size := v.toNat } else c
  | 2 => { c with dir := v.getLsbD 0 }
  | 5 => { c with resyncAddr := v }
  | _ => c

/-- Offsets of PF0's boot mailbox, which keeps what is written (R506, R550; the offsets are a DESIGN CHOICE of the log). -/
def mailboxAt (off : Nat) : Bool := 0x180000 ≤ off && off < 0x200000

/-- REGISTER_WRITE: the channel fields of BAR0's upper half are the tenant's channels, and PF0's boot mailbox keeps the value; doorbells,
tenant modes, DISPATCH and the ring's indices have events of their own; every other offset is reserved, and what is written there is
ignored (R12, R486, R490, R506, R512). -/
def doRegisterWrite (fn off : Nat) (v : Word) (s : State) : Option State :=
  if off < 0x100000 || 16 < fn || (fn = 0 && off < 0x100400) then none
  else
    match if fn = 0 then none else channelField off with
    | some (ch, field) => some (s.modChannel (BitVec.ofNat 4 (fn - 1)) ch (fun c => c.write field v))
    | none => some (if fn = 0 && mailboxAt off then { s with registers := tabSet s.registers (fn * 2 ^ 21 + off) v } else s)
/-- REGISTER_WRITE (R506). -/
def execRegisterWrite (s : State) : Host.Outcome State Fault Refusal :=
  match s.event with
  | some (.registerWrite fn off v) => onEvent (doRegisterWrite fn.toNat off.toNat v s) s
  | _ => .next s

-- Bounce channels

/-- A channel halted, with an event to its tenant (R513, R514). -/
def State.haltChannel (s : State) (t : BitVec 4) (ch : Nat) : State :=
  if ((s.tenant t).channel ch).halted then s
  else (s.modChannel t ch (fun c => { c with halted := true })).postRecord t (.channelHalted ch)

/-- CHANNEL_UPDATE: the host writes its counter with SEEN; a mismatch halts the channel and leaves the counters (R513). The
counters count modulo 2^64. -/
def doChannelUpdate (t ch : BitVec 4) (v seen : Word) (s : State) : Option State :=
  let c := (s.tenant t).channel ch.toNat
  let c' : Channel := if c.dir then { c with prod := v } else { c with cons := v }
  if c.halted then none
  else if 2 ^ 63 ≤ (seen - c.resync).toNat || c.size < (c'.prod - c'.cons).toNat then some (s.haltChannel t ch.toNat)
  else some (s.modChannel t ch.toNat (fun _ => c'))
/-- CHANNEL_UPDATE (R513). -/
def execChannelUpdate (s : State) : Host.Outcome State Fault Refusal :=
  match s.event with
  | some (.channelUpdate t ch v seen) => onEvent (doChannelUpdate t ch v seen s) s
  | _ => .next s

/-- CHANNEL_RESET: both counters become the device counter, and HALTED is left (R514). -/
def doChannelReset (t ch : BitVec 4) (s : State) : Option State :=
  some (s.modChannel t ch.toNat (fun c => { c with prod := c.device, cons := c.device, halted := false }))
/-- CHANNEL_RESET (R514). -/
def execChannelReset (s : State) : Host.Outcome State Fault Refusal :=
  match s.event with
  | some (.channelReset t ch) => onEvent (doChannelReset t ch s) s
  | _ => .next s

-- Armed launches

/-- ARM_TAG: a tag of a record with ARMONLY = 1 and ARGLEN = 0 of the tenant; a protected world's is refused, and so is a tag that
is armed, and a record with an invalid step entry (R444, R504). The other checks of R494 come when a message fires the launch. -/
def doArmTag (tag : BitVec 12) (t : BitVec 4) (prio : BitVec 2) (obj off : Nat) (s : State) : Option State :=
  let l := s.readLaunch t obj off
  if (tabGet s.armed tag.toNat).isSome || !s.ownsObject t obj || l.f 5 5 != 1 || l.f 227 216 != 0 || l.world != 0 ||
      s.badSteps l obj then none
  else some { s with armed := tabSet s.armed tag.toNat { tenant := t, prio := prio, obj := obj, off := off } }
/-- ARM_TAG (R504). -/
def execArmTag (s : State) : Host.Outcome State Fault Refusal :=
  match s.event with
  | some (.armTag tag t prio obj off) => onEvent (doArmTag tag t prio obj.toNat off.toNat s) s
  | _ => .next s

/-- DISARM_TAG through the function of the entry's tenant: at once, or at completion while the tag is busy (R504, R505). -/
def doDisarmTag (tag : BitVec 12) (t : BitVec 4) (s : State) : Option State :=
  match tabGet s.armed tag.toNat with
  | none => none
  | some a => if a.tenant != t then none else some { s with armed := if a.busy then tabSet s.armed tag.toNat { a with disarm := true } else tabErase s.armed tag.toNat }
/-- DISARM_TAG (R504). -/
def execDisarmTag (s : State) : Host.Outcome State Fault Refusal :=
  match s.event with
  | some (.disarmTag tag t) => onEvent (doDisarmTag tag t s) s
  | _ => .next s

/-- ARMED_MESSAGE: refused where the tag is not armed, its last launch has not completed or the payload's length is out of range;
else the payload lands and the launch becomes a candidate at the entry's priority (R505). -/
def doArmedMessage (src tag : BitVec 12) (payload : List (BitVec 8)) (s : State) : Option State :=
  let refuse := fun (busy : Bool) =>
    some (s.issueFlit 2 0 src.toNat 0 (0 :: leBytes 2 tag.toNat ++ [if busy then 1 else 0]) s.nextId).fresh
  match tabGet s.armed tag.toNat with
  | none => refuse false
  | some a =>
    if payload.isEmpty || 4096 < payload.length then refuse false
    else if a.busy then refuse true
    else
      let s : State := { s with armed := tabSet s.armed tag.toNat { a with payload := payload, busy := true } }
      let l := { s.readLaunch a.tenant a.obj a.off with armed := some tag.toNat, prio := a.prio }
      some (s.submit l (s.recordFault l a.obj a.off (128 + 16 * l.f 67 64 + 32 * l.f 62 58) true))
/-- ARMED_MESSAGE (R505). -/
def execArmedMessage (s : State) : Host.Outcome State Fault Refusal :=
  match s.event with
  | some (.armedMessage src tag p) => onEvent (doArmedMessage src tag p s) s
  | _ => .next s

-- Host windows

/-- The pages that a window maps. -/
def HostWindow.span (w : HostWindow) : List Nat := (List.range ((w.off + w.size - 1) / 65536 + 1 - w.off / 65536)).map (w.off / 65536 + ·)

/-- The frames of a window's pages gain or lose a pin (R408, R507). -/
def State.pinWindow (s : State) (w : HostWindow) (up : Bool) : State :=
  let fs := w.span.map (fun p => (s.leafOf w.obj p).frame)
  { s with frames := s.frames.map (fun e =>
      if fs.contains e.1 then (e.1, { e.2 with extentPins := if up then e.2.extentPins + 1 else e.2.extentPins - 1 }) else e) }

/-- WINDOW_OPEN: a window onto a resident range of a local object of the tenant, a multiple of 64 KiB and at most 16 MiB; its
frames are pinned (R507). -/
def doWindowOpen (t : BitVec 4) (n : Nat) (obj off size : Nat) (s : State) : Option State :=
  let w : HostWindow := { obj := obj, off := off, size := size }
  if (tabGet (s.tenant t).windows n).isSome || size = 0 || size % 65536 != 0 || 2 ^ 24 < size || !s.ownsLocal t obj off size ||
      !w.span.all (fun p => (s.leafOf obj p).state == .resident) then none
  else some ((s.pinWindow w true).modTenant t (fun te => { te with windows := tabSet te.windows n w }))
/-- WINDOW_OPEN (R507). -/
def execWindowOpen (s : State) : Host.Outcome State Fault Refusal :=
  match s.event with
  | some (.windowOpen t w obj off size) => onEvent (doWindowOpen t w.toNat obj.toNat off.toNat size.toNat s) s
  | _ => .next s

/-- An HWIN of a window has not completed, of those with a smaller number when one is given (R510). -/
def State.hwinPending (s : State) (t : BitVec 4) (w : Nat) (upto : Option Nat) : Bool :=
  s.resident.any (fun c => c.2.2.sys.tenant == t && c.2.2.mq.any (fun o => match o.kind with
    | .hwin _ v _ => v == w && (match upto with | some n => o.id < n | none => true)
    | _ => false))

/-- WINDOW_CLOSE: once no HWIN of the window is under way, its frames are unpinned and its writes not applied are dropped
(R507). -/
def doWindowClose (t : BitVec 4) (n : Nat) (s : State) : Option State :=
  match tabGet (s.tenant t).windows n with
  | none => none
  | some w =>
    if s.hwinPending t n none then none
    else some ((s.pinWindow w false).modTenant t (fun te => { te with windows := tabErase te.windows n, ingress := te.ingress.filter (fun e => e.window != n) }))
/-- WINDOW_CLOSE (R507). -/
def execWindowClose (s : State) : Host.Outcome State Fault Refusal :=
  match s.event with
  | some (.windowClose t w) => onEvent (doWindowClose t w.toNat s) s
  | _ => .next s

/-- A posted write cut at 64-byte boundaries: (BAR2 offset, bytes where they are enabled) (R508). -/
def cut64 : Nat → Nat → List (Option (BitVec 8)) → List (Nat × List (Option (BitVec 8)))
  | 0, _, _ => []
  | n + 1, a, bs =>
    if bs.isEmpty then []
    else
      let m := 64 - a % 64
      (a, bs.take m) :: cut64 n (a + m) (bs.drop m)

/-- The window that a piece falls into, where it is open there (R507, R508). -/
def Tenant.windowAt (t : Tenant) (a : Nat) : Option Nat :=
  match tabGet t.windows (a / 2 ^ 24) with
  | some w => if a % 2 ^ 24 < w.size then some (a / 2 ^ 24) else none
  | none => none

/-- The part withholds credits: the buffer has no room for a write's pieces (R508). -/
def State.noCredit (s : State) (t : BitVec 4) (a : Nat) (bytes : List (Option (BitVec 8))) (poisoned : Bool) : Bool :=
  let te := s.tenant t
  let need := if poisoned then 0 else ((cut64 (bytes.length / 64 + 2) a bytes).filter (fun p => (te.windowAt p.1).isSome)).length
  1024 < te.ingress.length + need

/-- HOST_WINDOW_WRITE: each piece takes an entry of the ingress buffer with its byte enables, or is dropped and sets a DROP mark
(R508). -/
def doHostWindowWrite (t : BitVec 4) (a : Nat) (bytes : List (Option (BitVec 8))) (poisoned : Bool) (s : State) : Option State :=
  if s.noCredit t a bytes poisoned then none
  else
    some ((cut64 (bytes.length / 64 + 2) a bytes).foldl (fun s p =>
      let te := s.tenant t
      match te.windowAt p.1 with
      | some w =>
        if poisoned then s.modTenant t (fun te => { te with drops := w :: te.drops.filter (· != w) })
        else
          let e : Ingress := { id := s.nextId, at_ := s.tnow, window := w, off := p.1 % 2 ^ 24, bytes := p.2 }
          s.fresh.modTenant t (fun te => { te with ingress := te.ingress ++ [e] })
      | none => s.modTenant t (fun te => { te with drops := 0 :: te.drops.filter (· != 0) })) s)
/-- HOST_WINDOW_WRITE (R508). -/
def execHostWindowWrite (s : State) : Host.Outcome State Fault Refusal :=
  match s.event with
  | some (.hostWindowWrite t a bytes p) => onEvent (doHostWindowWrite t a.toNat bytes p s) s
  | _ => .next s

-- Host memory

/-- The host's processors touch host memory: stores, and `cas128`, which is one step for the part's accesses too (R358, R559). -/
def State.hostDo (s : State) : HostAct → State
  | .store a bytes => { s with host := memWrite s.host a.toNat bytes }
  | .cas a old new_ =>
    let hit := a.toNat % 16 = 0 && leNat (memRead s.host a.toNat 16) = old.toNat
    { s with host := if hit then memWrite s.host a.toNat (leBytes 16 new_.toNat) else s.host, sent := s.sent ++ [.casDone hit] }

-- HWIN

/-- The open window of a tenant that holds a capability's bounds (R510). -/
def State.windowOf (s : State) (t : BitVec 4) (cap : Cap) : Option Nat :=
  let (base, top) := boundsOf cap
  ((s.tenant t).windows.find? (fun e =>
    let lo := e.2.obj * 2 ^ 40 + e.2.off
    lo ≤ base && top ≤ lo + e.2.size)).map Prod.fst

/-- HWIN (R509, R510). -/
def slotHwin (d : BitVec 6) (r : BitVec 5) (s : State) : SlotRes :=
  let c := s.ctx
  let cap := c.cVal r
  let a := cap.cursor
  let ok := !c.cEmpty r
  let w := s.windowOf c.sys.tenant cap
  { slot := .y, draw := 2, dests := [.x d]
    trap := firstTrap [cPoisonTrap c r,
      addrTrap (ok && c.sys.world != 0) .world a,
      addrTrap (ok && !cap.tag) .capTag a,
      addrTrap (ok && cap.otype != 0) .capSealed a,
      addrTrap (ok && !cap.has .st) .capPerm a,
      addrTrap (ok && cap.space != 2) .capSpace a,
      addrTrap (ok && w.isNone) .capBounds a,
      addrTrap (ok && stale s cap (objOf a)) .capStale a]
    hold := joinHolds [cHold c r, xHold c d]
    effect := fun t => enqueue (.hwin d (w.getD 0) t.tnow.toNat) true (t.modCtx (fun o => o.emptyX d)) }
/-- HWIN, issued alone. -/
def execHwin (d : BitVec 6) (c : BitVec 5) (s : State) : Host.Outcome State Fault Refusal := runAlone (.hwin d c) (slotHwin d c s) s

/-- One entry of the ingress buffer applied at the frames' homes: its enabled bytes, tags cleared, D set (R510). -/
def applyIngress (w : HostWindow) (e : Ingress) (s : State) : State :=
  let off := w.off + e.off
  let s := e.bytes.zipIdx.foldl (fun s b => match b.1 with
    | some v => s.homeWrite false w.obj (off + b.2) [v]
    | none => s) s
  [off / 65536, (off + e.bytes.length - 1) / 65536].foldl (fun s p => s.modLeaf w.obj p (fun l => { l with d := true })) s

/-- The completion of an HWIN: behind the context's earlier loads and acquires and the window's earlier HWINs, its writes are
applied in order of arrival and an acquire at PACKAGE scope is performed (R393, R510). A line that a cluster holds pinned answers RETRY, and
the HWIN waits until its pin has ended (R386). -/
def doHwinComplete (k : BitVec 2) (id : Nat) (s : State) : Option State :=
  match s.queued k id with
  | some (⟨_, .hwin d n upto, _, _⟩, pre) =>
    let t := (s.ctxAt k).sys.tenant
    if !pre.all (fun o => !o.kind.binds && !o.kind.isAcquire) || s.hwinPending t n (some id) ||
        s.tnow.toNat < (s.clusterAt (clusterOf s.g)).flash then none
    else
      let te := s.tenant t
      let mine := te.ingress.filter (fun e => e.window == n && e.at_.toNat < upto)
      let lines : List (Nat × Nat × Nat) := match tabGet te.windows n with
        | some w => mine.map (fun e => (w.obj, (w.off + e.off) / 128, (w.off + e.off + e.bytes.length + 127) / 128))
        | none => []
      if lines.any (fun l => s.pinnedLines l.1 l.2.1 l.2.2) then lines.findSome? (fun l => s.retryLines l.1 l.2.1 l.2.2)
      else
      let s := match tabGet te.windows n with
        | some w => mine.foldl (fun s e => applyIngress w e s) s
        | none => s
      let s := s.modTenant t (fun te => { te with
        ingress := te.ingress.filter (fun e => !(e.window == n && e.at_.toNat < upto)), drops := te.drops.filter (· != n) })
      let (s, wrapped) := s.refresh 3
      let v := BitVec.ofNat 64 ((if te.drops.contains n then 2 ^ 63 else 0) + mine.length)
      some (s.modCtxAt k (fun c => if wrapped then (c.setX d v).rekind id (.acquire 0 none) else (c.setX d v).unqueue id))
  | _ => none

/-- ACQUIRE_COMPLETE: of an acquire of the queue, of a copy's, or of an HWIN (R333, R374, R393). -/
def execAcquireComplete (s : State) : Host.Outcome State Fault Refusal :=
  match s.event with
  | some (.acquireComplete k id) =>
    onEvent (match doAcquireComplete k id s with
      | some t => some t
      | none => match doCopyAcquire k id s with
        | some t => some t
        | none => doHwinComplete k id s) s
  | _ => .next s

-- Tenant reset

/-- The updates of arrival objects that wait for a context's lines applied in their order, the lines being full (R188, R349). -/
def State.applyWaiting (s : State) (g : Nat) (c : Ctx) : State :=
  let lo := c.sys.allocBase.toNat
  (s.updates.filter (fun u => u.ref.g == g && lo ≤ u.ref.byte / 128 && u.ref.byte / 128 < lo + c.sys.allocSize.toNat)).foldl (fun s u =>
    (applyUpdate u s).getD s) s

/-- A context's writes, MMAs and queued operations are discarded, its copies cancelled, and every line of it made full: what other contexts
wait for there is applied, and its lines and tiles are cleared; it is FREE (R188, R488). -/
def discardCtx (k : BitVec 2) (s : State) : State :=
  let c := s.ctxAt k
  let mine := s.cr.copies.filter (fun m => m.k == k)
  let s := mine.foldl (fun s m => unpinAll m (resyncRecord m (firstUndelivered m) s)) s
  let s := mine.foldl (fun s m => if m.op = .xfer then s.refill m.unfilled else s) s
  let s := (s.writes.filter (fun w => w.g == s.g && w.k == k)).foldl (fun s w => if w.a.space == .host then
      { s with writes := s.writes.filter (fun v => v.id != w.id) } else (s.dropWrite w).dropCopies w.a) s
  let fills := fun (u : VUnit) => s.cr.flights.any (fun f => f.k == k && (match f.what with | .bypass v _ => v == u | .gather _ _ f => f && u == .a | _ => false))
  let s := (s.fillAllotment s.g c).applyWaiting s.g c
  let s : State := { s with
    walks := s.walks.filter (fun w => !(w.g == s.g && w.k == k))
    cr := { s.cr with
      flights := s.cr.flights.filter (fun f => f.k != k)
      copies := s.cr.copies.filter (fun m => m.k != k)
      cipher := s.cr.cipher.filter (fun j => j.k != k)
      bp0 := if fills .a then { s.cr.bp0 with full := true } else s.cr.bp0
      bp1 := if fills .b then { s.cr.bp1 with full := true } else s.cr.bp1 } }
  let s := s.flushDA (fun _ _ => false) (fun g _ => g == s.g)
  let s := ((s.releaseMerge s.g k false).unpinDeclared c).clearAllotment s.g c
  (s.setCtxAt k {}).leaveCore s.g c

/-- A core holds a program that a launch of a tenant has loaded in world 0, whether or not a context of the tenant is still there. -/
def Core.runs (c : Core) (t : BitVec 4) : Bool :=
  match c.program with
  | some p => p.2.2.2 != 0 && (p.2.2.2 - 1) / 2 ^ 32 == t.toNat
  | none => false

/-- The program of a core of world 0 that no context runs any more is cleared (R488). -/
def State.clearProgram (s : State) (g : Nat) : State :=
  let c := s.coreAt g
  if c.world != 0 || !c.busyCtxs.isEmpty then s
  else ({ s with imem := memClear s.imem (g * 2 ^ 18) ((g + 1) * 2 ^ 18) } : State).setCoreAt g { c with program := none }

/-- The frames of a tenant's local objects zeroed with their tags, and every copy of their lines dropped (R488). -/
def State.zeroLocals (s : State) (t : BitVec 4) : State :=
  let mine := fun (obj : Nat) => match tabGet s.objects obj with | some o => !o.pool && o.tenant == t | none => false
  let fs := (s.frames.filter (fun e => mine e.2.obj)).map Prod.fst
  { s with
    hbm := s.hbm.filter (fun b => !fs.contains (b.1 / 65536))
    hbmTags := s.hbmTags.filter (fun n => !fs.contains (n / 4096))
    hbmPoison := s.hbmPoison.filter (fun n => !fs.contains (n / 4096))
    clusters := s.clusters.map (fun e => (e.1, { e.2 with cache := e.2.cache.filter (fun l => !mine l.obj) }))
    rdc := s.rdc.filter (fun r => !mine r.obj) }

/-- TENANT_RESET (R488): queues unmapped, contexts ended and their work discarded, tags disarmed, the ingress buffer emptied and
every channel halted, lines, tiles, programs and local frames cleared, leases abandoned, launches completed with STATUS 0x07.
Between two bundles of any core, all of it stands at a bundle boundary. -/
def doTenantReset (t : BitVec 4) (s : State) : Option State :=
  let s : State := { s with queues := s.queues.map (fun q => if q.tenant == t && q.mapped then
    { q with mapped := false, slot := 0, unmappedAt := some s.tnow } else q) }
  let mine := s.resident.filter (fun c => c.2.2.sys.tenant == t)
  let s := mine.foldl (fun s c => s.within c.1 (discardCtx c.2.1)) s
  let s := (s.cores.filter (fun c => c.2.runs t)).foldl (fun s c => s.clearProgram c.1) s
  let s : State := { s with
    images := s.images.filter (fun i => i.tenant != t)
    armed := s.armed.filter (fun e => e.2.tenant != t)
    bulks := s.bulks.filter (fun b => b.tenant != t)
    jobs := s.jobs.filter (fun j => j.tenant != t) }
  let s := (List.range 16).foldl (fun s ch => s.haltChannel t ch) (s.modTenant t (fun te => { te with ingress := [] }))
  let s := s.zeroLocals t
  let s := (s.leases.filter (fun l => l.tenant == t)).foldl (fun s l => s.forgetLease l) s
  let s : State := { s with
    renewals := s.renewals.filter (fun r => r.tenant != t)
    launches := s.launches.map (fun l => if l.tenant == t then { l with status := some (7, 0), stopping := true, tasksLeft := 0 } else l) }
  some ((s.launches.filter (fun l => l.tenant == t)).foldl State.finishLaunch s)
/-- TENANT_RESET (R488). -/
def execTenantReset (s : State) : Host.Outcome State Fault Refusal :=
  match s.event with
  | some (.tenantReset t) => onEvent (doTenantReset t s) s
  | _ => .next s

end Sys2Proof.Machine
end

