-- ==== Sys2Proof/Machine/LoadStore.lean ====
section
/-! DEFINITION. Scalar loads and stores, LDC, STC and CTEST (R123 to R132, R166, R168 to R171). -/

namespace Sys2Proof.Machine

/-- The address of a scalar access (R124). -/
def scalarAddr (c : Ctx) (r : BitVec 5) (o : BitVec 13) (n : Nat) : Word :=
  BitVec.ofInt 64 ((c.cVal r).cursor.toNat + o.toInt * n)

/-- The granule of a line that an offset lies in, as the line's tag bits, where `tag` is set (R172). -/
def granuleTag (off : Nat) (tag : Bool) : BitVec 8 := if tag then BitVec.ofNat 8 (2 ^ (off % 128 / 16)) else 0

/-- A load's accesses count in no tracker entry; its request enters the load queue (R126, R131). A load waits for xd to
be free before its checks are made (R124). -/
def slotLoad (n : Nat) (signed : Bool) (x : BitVec 6) (r : BitVec 5) (o : BitVec 13) (s : State) : SlotRes :=
  let c := s.ctx
  let cap := c.cVal r
  let a := scalarAddr c r o n
  let acc := accessChecks s c cap a n .ld allSpaces false
  let ready := !c.xEmpty x && !c.cEmpty r
  accessRes .s 1 [.x x] [cPoisonTrap c r] (joinHolds [xHold c x, cHold c r]) ready acc (none, id, none) 1
    (fun t => enqueue (.load acc.addr n (.x x signed)) false (acc.mark (t.modCtx (fun c => c.emptyX x))))

/-- A store writes the low `n` bytes of xs and clears the tags of the granules it writes (R127). It waits for xs to be
full before its checks are made (R124). -/
def slotStore (n : Nat) (x : BitVec 6) (r : BitVec 5) (o : BitVec 13) (s : State) : SlotRes :=
  let c := s.ctx
  let cap := c.cVal r
  let a := scalarAddr c r o n
  let acc := accessChecks s c cap a n .st allSpaces true
  let ready := !c.xEmpty x && !c.cEmpty r
  accessRes .s 1 [] [xPoisonTrap c x, cPoisonTrap c r] (joinHolds [xHold c x, cHold c r]) ready acc (storeWait s acc.addr)
    1
    (fun t => enqueueTracked (.store acc.addr (leBytes n (c.xVal x).toNat) 0) .store (capRange cap) (acc.mark t))

/-- LDC (R169). -/
def slotLdc (d r : BitVec 5) (o : BitVec 13) (s : State) : SlotRes :=
  let c := s.ctx
  let cap := c.cVal r
  let a := scalarAddr c r o 16
  let acc := accessChecks s c cap a 16 .ld allSpaces false
  let ready := !c.cEmpty d && !c.cEmpty r
  accessRes .s 1 [.c d] [cPoisonTrap c r] (joinHolds [cHold c d, cHold c r]) ready acc (none, id, none) 1
    (fun t => enqueue (.load acc.addr 16 (.cap d (cap.has .ldcap))) false (acc.mark (t.modCtx (fun c => c.emptyC d))))
/-- LDC, issued alone. -/
def execLdc (d c : BitVec 5) (o : BitVec 13) (s : State) : Host.Outcome State Fault Refusal :=
  runAlone (.ldc d c o) (slotLdc d c o s) s

/-- STC and its three further checks on a tagged value (R169, R170). -/
def slotStc (d r : BitVec 5) (o : BitVec 13) (s : State) : SlotRes :=
  let c := s.ctx
  let v := c.cVal d
  let cap := c.cVal r
  let a := scalarAddr c r o 16
  let acc := accessChecks s c cap a 16 .st allSpaces true
  let further := [
    addrTrap (v.tag && cap.space == 4) .capSpace a,
    addrTrap (v.tag && !cap.has .stcap) .capPerm a,
    addrTrap (v.tag && !v.has .global && cap.space != 1) .capPerm a]
  let acc := { acc with traps := acc.traps ++ (if acc.hold.isNone then further else []) }
  let ready := !c.cEmpty d && !c.cEmpty r
  accessRes .s 1 [] [cPoisonTrap c d, cPoisonTrap c r] (joinHolds [cHold c d, cHold c r]) ready acc (storeWait s acc.addr)
    1
    (fun t => enqueueTracked (.store acc.addr (leBytes 16 v.bits.toNat) (granuleTag acc.addr.off v.tag)) .store (capRange cap) (acc.mark t))
/-- STC, issued alone. -/
def execStc (d c : BitVec 5) (o : BitVec 13) (s : State) : Host.Outcome State Fault Refusal :=
  runAlone (.stc d c o) (slotStc d c o s) s

/-- The generation of an object as CTEST finds it: through the task's extents, the cluster's TLB or a walk's answer
(R166). A page that is not resident still gives its header's generation, since the walk reads the header first
(R400). -/
def generationKnown (s : State) (c : Ctx) (cap : Cap) : Bool :=
  match spaceOf cap.space with
  | some .local => translate s c .local (objOf cap.cursor) (pageOf cap.cursor) != .walk
  | some .pool => translate s c .pool (objOf cap.cursor) (pageOf cap.cursor) != .walk
  | _ => true

/-- The conditions of CTEST (R166). -/
def ctestValue (s : State) (cap : Cap) (v : Word) (cond : Nat) : Bool :=
  let (b, t) := boundsOf cap
  match cond with
  | 0 => cap.tag
  | 1 => cap.tag && cap.otype == 0 && b ≤ cap.cursor.toNat && cap.cursor.toNat + v.toNat ≤ t
  | 2 => cap.tag && (cap.perms &&& v.setWidth 12) == v.setWidth 12
  | 3 => cap.tag && cap.otype != 0
  | _ => cap.tag && ((cap.space != 2 && cap.space != 3) || !stale s cap (objOf cap.cursor))

/-- CTEST (R166). -/
def slotCtest (p : BitVec 4) (a : BitVec 5) (b : BitVec 6) (cond : BitVec 8) (s : State) : SlotRes :=
  let c := s.ctx
  let cap := c.cVal a
  let walk := cond == 4 && !c.cEmpty a && cap.tag && !generationKnown s c cap
  let sp := if cap.space = 3 then Space.pool else Space.local
  { slot := .s, draw := 1, dests := [.p p], trap := firstTrap [cPoisonTrap c a, xPoisonTrap c b]
    hold := joinHolds [cHold c a, xHold c b, holdIf walk .engine]
    onHold := if walk then startWalk sp (objOf cap.cursor) (pageOf cap.cursor) cap.gen else id
    effect := fun t => t.modCtx (fun o => o.setP p (ctestValue s cap (c.xVal b) cond.toNat)) }
/-- CTEST, issued alone. -/
def execCtest (p : BitVec 4) (a : BitVec 5) (b : BitVec 6) (c : BitVec 8) (s : State) : Host.Outcome State Fault Refusal :=
  runAlone (.ctest p a b c) (slotCtest p a b c s) s

/-- LD.i8 (R123). -/
def slotLdI8 (x : BitVec 6) (c : BitVec 5) (o : BitVec 13) (s : State) : SlotRes := slotLoad 1 true x c o s
/-- The same, issued alone. -/
def execLdI8 (x : BitVec 6) (c : BitVec 5) (o : BitVec 13) (s : State) : Host.Outcome State Fault Refusal :=
  runAlone (.ldI8 x c o) (slotLdI8 x c o s) s

/-- LD.n8 (R123). -/
def slotLdN8 (x : BitVec 6) (c : BitVec 5) (o : BitVec 13) (s : State) : SlotRes := slotLoad 1 false x c o s
/-- The same, issued alone. -/
def execLdN8 (x : BitVec 6) (c : BitVec 5) (o : BitVec 13) (s : State) : Host.Outcome State Fault Refusal :=
  runAlone (.ldN8 x c o) (slotLdN8 x c o s) s

/-- LD.i16 (R123). -/
def slotLdI16 (x : BitVec 6) (c : BitVec 5) (o : BitVec 13) (s : State) : SlotRes := slotLoad 2 true x c o s
/-- The same, issued alone. -/
def execLdI16 (x : BitVec 6) (c : BitVec 5) (o : BitVec 13) (s : State) : Host.Outcome State Fault Refusal :=
  runAlone (.ldI16 x c o) (slotLdI16 x c o s) s

/-- LD.n16 (R123). -/
def slotLdN16 (x : BitVec 6) (c : BitVec 5) (o : BitVec 13) (s : State) : SlotRes := slotLoad 2 false x c o s
/-- The same, issued alone. -/
def execLdN16 (x : BitVec 6) (c : BitVec 5) (o : BitVec 13) (s : State) : Host.Outcome State Fault Refusal :=
  runAlone (.ldN16 x c o) (slotLdN16 x c o s) s

/-- LD.i32 (R123). -/
def slotLdI32 (x : BitVec 6) (c : BitVec 5) (o : BitVec 13) (s : State) : SlotRes := slotLoad 4 true x c o s
/-- The same, issued alone. -/
def execLdI32 (x : BitVec 6) (c : BitVec 5) (o : BitVec 13) (s : State) : Host.Outcome State Fault Refusal :=
  runAlone (.ldI32 x c o) (slotLdI32 x c o s) s

/-- LD.n32 (R123). -/
def slotLdN32 (x : BitVec 6) (c : BitVec 5) (o : BitVec 13) (s : State) : SlotRes := slotLoad 4 false x c o s
/-- The same, issued alone. -/
def execLdN32 (x : BitVec 6) (c : BitVec 5) (o : BitVec 13) (s : State) : Host.Outcome State Fault Refusal :=
  runAlone (.ldN32 x c o) (slotLdN32 x c o s) s

/-- LD.i64 (R123). -/
def slotLdI64 (x : BitVec 6) (c : BitVec 5) (o : BitVec 13) (s : State) : SlotRes := slotLoad 8 true x c o s
/-- The same, issued alone. -/
def execLdI64 (x : BitVec 6) (c : BitVec 5) (o : BitVec 13) (s : State) : Host.Outcome State Fault Refusal :=
  runAlone (.ldI64 x c o) (slotLdI64 x c o s) s

/-- ST.8 (R123). -/
def slotSt8 (x : BitVec 6) (c : BitVec 5) (o : BitVec 13) (s : State) : SlotRes := slotStore 1 x c o s
/-- The same, issued alone. -/
def execSt8 (x : BitVec 6) (c : BitVec 5) (o : BitVec 13) (s : State) : Host.Outcome State Fault Refusal :=
  runAlone (.st8 x c o) (slotSt8 x c o s) s

/-- ST.16 (R123). -/
def slotSt16 (x : BitVec 6) (c : BitVec 5) (o : BitVec 13) (s : State) : SlotRes := slotStore 2 x c o s
/-- The same, issued alone. -/
def execSt16 (x : BitVec 6) (c : BitVec 5) (o : BitVec 13) (s : State) : Host.Outcome State Fault Refusal :=
  runAlone (.st16 x c o) (slotSt16 x c o s) s

/-- ST.32 (R123). -/
def slotSt32 (x : BitVec 6) (c : BitVec 5) (o : BitVec 13) (s : State) : SlotRes := slotStore 4 x c o s
/-- The same, issued alone. -/
def execSt32 (x : BitVec 6) (c : BitVec 5) (o : BitVec 13) (s : State) : Host.Outcome State Fault Refusal :=
  runAlone (.st32 x c o) (slotSt32 x c o s) s

/-- ST.64 (R123). -/
def slotSt64 (x : BitVec 6) (c : BitVec 5) (o : BitVec 13) (s : State) : SlotRes := slotStore 8 x c o s
/-- The same, issued alone. -/
def execSt64 (x : BitVec 6) (c : BitVec 5) (o : BitVec 13) (s : State) : Host.Outcome State Fault Refusal :=
  runAlone (.st64 x c o) (slotSt64 x c o s) s

end Sys2Proof.Machine
end

