-- ==== Sys2Proof/Machine/Scalar.lean ====
section
/-! DEFINITION. The S slot's integer, compare, predicate, clock, system-register, descriptor and stream instructions
(R95 to R99, R111 to R122, R291, R324). -/

namespace Sys2Proof.Machine

/-- A scalar instruction that writes `xd` at the end of its issue cycle (R111). -/
def scalarRes (c : Ctx) (srcs : List (BitVec 6)) (d : BitVec 6) (v : Word) : SlotRes :=
  { slot := .s, dests := [.x d], trap := firstTrap (srcs.map (xPoisonTrap c))
    hold := joinHolds ((d :: srcs).map (xHold c)), draw := 1
    effect := fun t => t.modCtx (fun c => c.setX d v) }

/-- A three-register instruction (R116). -/
def slotR3 (f : Word → Word → Word) (d a b : BitVec 6) (s : State) : SlotRes :=
  scalarRes s.ctx [a, b] d (f (s.ctx.xVal a) (s.ctx.xVal b))

/-- A one-source instruction (R116, R118). -/
def slotR2 (f : Word → Word) (d a : BitVec 6) (s : State) : SlotRes := scalarRes s.ctx [a] d (f (s.ctx.xVal a))

/-- A division: xd is empty until c + 18 (R117). -/
def slotDivide (f : Word → Word → Word) (d a b : BitVec 6) (s : State) : SlotRes :=
  let c := s.ctx
  let v := f (c.xVal a) (c.xVal b)
  { scalarRes c [a, b] d v with
    effect := fun t => if d = 0 then t else (t.modCtx (fun c => c.emptyX d)).addFlight .s s.cr.cur (s.cr.cyc + 18) (.xreg d v) }

/-- An instruction that writes a predicate (R114). -/
def predRes (c : Ctx) (srcs : List (BitVec 6)) (d : BitVec 4) (v : Bool) : SlotRes :=
  { slot := .s, dests := [.p d], trap := firstTrap (srcs.map (xPoisonTrap c)), hold := joinHolds (srcs.map (xHold c))
    draw := 1, effect := fun t => t.modCtx (fun c => c.setP d v) }

/-- A register compare (R120). -/
def slotCmp (f : Word → Word → Bool) (d : BitVec 4) (a b : BitVec 6) (s : State) : SlotRes :=
  predRes s.ctx [a, b] d (f (s.ctx.xVal a) (s.ctx.xVal b))

/-- An immediate compare: the immediate is sign-extended and the comparison signed (R121). -/
def slotCmpi (f : Int → Int → Bool) (d : BitVec 4) (a : BitVec 6) (i : BitVec 12) (s : State) : SlotRes :=
  predRes s.ctx [a] d (f (s.ctx.xVal a).toInt i.toInt)

-- The functions of R116 and R117

/-- High half of the signed product (R116). -/
def mulHigh (a b : Word) : Word := BitVec.ofInt 64 (a.toInt * b.toInt / 2 ^ 64)

/-- High half of the unsigned product (R116). -/
def mulHighU (a b : Word) : Word := BitVec.ofNat 64 (a.toNat * b.toNat / 2 ^ 64)

/-- Shifts by xb[5:0] (R116). -/
def shiftLeft (a b : Word) : Word := a <<< (b.toNat % 64)
def shiftRight (a b : Word) : Word := a >>> (b.toNat % 64)
def shiftArith (a b : Word) : Word := a.sshiftRight (b.toNat % 64)

/-- The smaller and the larger, signed and unsigned (R116). -/
def minS (a b : Word) : Word := if a.slt b then a else b
def maxS (a b : Word) : Word := if a.slt b then b else a
def minU (a b : Word) : Word := if a.ult b then a else b
def maxU (a b : Word) : Word := if a.ult b then b else a

/-- Leading zero bits, 64 for zero (R116). -/
def leadingZeros (a : Word) : Word := if a = 0 then 64 else BitVec.ofNat 64 (63 - Nat.log2 a.toNat)

/-- One bits (R116). -/
def popCount (a : Word) : Word := BitVec.ofNat 64 ((List.range 64).countP (fun i => a.getLsbD i))

/-- Quotient towards zero (R117). -/
def tdivInt (a b : Int) : Int :=
  let q : Int := (a.natAbs / b.natAbs : Nat)
  if (a < 0) != (b < 0) && a.natAbs ≥ b.natAbs then -q else q

/-- DIV (R117). -/
def divS (a b : Word) : Word :=
  if b = 0 then BitVec.ofInt 64 (-1)
  else if a.toInt = -(2 ^ 63) ∧ b.toInt = -1 then a
  else BitVec.ofInt 64 (tdivInt a.toInt b.toInt)

/-- DIVN (R117). -/
def divU (a b : Word) : Word := if b = 0 then BitVec.allOnes 64 else BitVec.ofNat 64 (a.toNat / b.toNat)

/-- REM (R117). -/
def remS (a b : Word) : Word :=
  if b = 0 then a
  else if a.toInt = -(2 ^ 63) ∧ b.toInt = -1 then 0
  else BitVec.ofInt 64 (a.toInt - b.toInt * tdivInt a.toInt b.toInt)

/-- REMN (R117). -/
def remU (a b : Word) : Word := if b = 0 then a else BitVec.ofNat 64 (a.toNat % b.toNat)

/-- ADD (R116). -/
def slotAdd (d a b : BitVec 6) (s : State) : SlotRes :=
  slotR3 (· + ·) d a b s
/-- ADD, issued alone. -/
def execAdd (d a b : BitVec 6) (s : State) : Host.Outcome State Fault Refusal :=
  runAlone (.add d a b) (slotAdd d a b s) s

/-- SUB (R116). -/
def slotSub (d a b : BitVec 6) (s : State) : SlotRes :=
  slotR3 (· - ·) d a b s
/-- SUB, issued alone. -/
def execSub (d a b : BitVec 6) (s : State) : Host.Outcome State Fault Refusal :=
  runAlone (.sub d a b) (slotSub d a b s) s

/-- MUL (R116). -/
def slotMul (d a b : BitVec 6) (s : State) : SlotRes :=
  slotR3 (· * ·) d a b s
/-- MUL, issued alone. -/
def execMul (d a b : BitVec 6) (s : State) : Host.Outcome State Fault Refusal :=
  runAlone (.mul d a b) (slotMul d a b s) s

/-- MULH (R116). -/
def slotMulh (d a b : BitVec 6) (s : State) : SlotRes :=
  slotR3 mulHigh d a b s
/-- MULH, issued alone. -/
def execMulh (d a b : BitVec 6) (s : State) : Host.Outcome State Fault Refusal :=
  runAlone (.mulh d a b) (slotMulh d a b s) s

/-- MULHN (R116). -/
def slotMulhn (d a b : BitVec 6) (s : State) : SlotRes :=
  slotR3 mulHighU d a b s
/-- MULHN, issued alone. -/
def execMulhn (d a b : BitVec 6) (s : State) : Host.Outcome State Fault Refusal :=
  runAlone (.mulhn d a b) (slotMulhn d a b s) s

/-- AND (R116). -/
def slotAnd (d a b : BitVec 6) (s : State) : SlotRes :=
  slotR3 (· &&& ·) d a b s
/-- AND, issued alone. -/
def execAnd (d a b : BitVec 6) (s : State) : Host.Outcome State Fault Refusal :=
  runAlone (.and d a b) (slotAnd d a b s) s

/-- OR (R116). -/
def slotOr (d a b : BitVec 6) (s : State) : SlotRes :=
  slotR3 (· ||| ·) d a b s
/-- OR, issued alone. -/
def execOr (d a b : BitVec 6) (s : State) : Host.Outcome State Fault Refusal :=
  runAlone (.or d a b) (slotOr d a b s) s

/-- XOR (R116). -/
def slotXor (d a b : BitVec 6) (s : State) : SlotRes :=
  slotR3 (· ^^^ ·) d a b s
/-- XOR, issued alone. -/
def execXor (d a b : BitVec 6) (s : State) : Host.Outcome State Fault Refusal :=
  runAlone (.xor d a b) (slotXor d a b s) s

/-- SHL (R116). -/
def slotShl (d a b : BitVec 6) (s : State) : SlotRes :=
  slotR3 shiftLeft d a b s
/-- SHL, issued alone. -/
def execShl (d a b : BitVec 6) (s : State) : Host.Outcome State Fault Refusal :=
  runAlone (.shl d a b) (slotShl d a b s) s

/-- SHR (R116). -/
def slotShr (d a b : BitVec 6) (s : State) : SlotRes :=
  slotR3 shiftRight d a b s
/-- SHR, issued alone. -/
def execShr (d a b : BitVec 6) (s : State) : Host.Outcome State Fault Refusal :=
  runAlone (.shr d a b) (slotShr d a b s) s

/-- SAR (R116). -/
def slotSar (d a b : BitVec 6) (s : State) : SlotRes :=
  slotR3 shiftArith d a b s
/-- SAR, issued alone. -/
def execSar (d a b : BitVec 6) (s : State) : Host.Outcome State Fault Refusal :=
  runAlone (.sar d a b) (slotSar d a b s) s

/-- MIN (R116). -/
def slotMin (d a b : BitVec 6) (s : State) : SlotRes :=
  slotR3 minS d a b s
/-- MIN, issued alone. -/
def execMin (d a b : BitVec 6) (s : State) : Host.Outcome State Fault Refusal :=
  runAlone (.min d a b) (slotMin d a b s) s

/-- MAX (R116). -/
def slotMax (d a b : BitVec 6) (s : State) : SlotRes :=
  slotR3 maxS d a b s
/-- MAX, issued alone. -/
def execMax (d a b : BitVec 6) (s : State) : Host.Outcome State Fault Refusal :=
  runAlone (.max d a b) (slotMax d a b s) s

/-- MINN (R116). -/
def slotMinn (d a b : BitVec 6) (s : State) : SlotRes :=
  slotR3 minU d a b s
/-- MINN, issued alone. -/
def execMinn (d a b : BitVec 6) (s : State) : Host.Outcome State Fault Refusal :=
  runAlone (.minn d a b) (slotMinn d a b s) s

/-- MAXN (R116). -/
def slotMaxn (d a b : BitVec 6) (s : State) : SlotRes :=
  slotR3 maxU d a b s
/-- MAXN, issued alone. -/
def execMaxn (d a b : BitVec 6) (s : State) : Host.Outcome State Fault Refusal :=
  runAlone (.maxn d a b) (slotMaxn d a b s) s

/-- DIV (R117). -/
def slotDiv (d a b : BitVec 6) (s : State) : SlotRes :=
  slotDivide divS d a b s
/-- DIV, issued alone. -/
def execDiv (d a b : BitVec 6) (s : State) : Host.Outcome State Fault Refusal :=
  runAlone (.div d a b) (slotDiv d a b s) s

/-- DIVN (R117). -/
def slotDivn (d a b : BitVec 6) (s : State) : SlotRes :=
  slotDivide divU d a b s
/-- DIVN, issued alone. -/
def execDivn (d a b : BitVec 6) (s : State) : Host.Outcome State Fault Refusal :=
  runAlone (.divn d a b) (slotDivn d a b s) s

/-- REM (R117). -/
def slotRem (d a b : BitVec 6) (s : State) : SlotRes :=
  slotDivide remS d a b s
/-- REM, issued alone. -/
def execRem (d a b : BitVec 6) (s : State) : Host.Outcome State Fault Refusal :=
  runAlone (.rem d a b) (slotRem d a b s) s

/-- REMN (R117). -/
def slotRemn (d a b : BitVec 6) (s : State) : SlotRes :=
  slotDivide remU d a b s
/-- REMN, issued alone. -/
def execRemn (d a b : BitVec 6) (s : State) : Host.Outcome State Fault Refusal :=
  runAlone (.remn d a b) (slotRemn d a b s) s

/-- CLZ (R116). -/
def slotClz (d a : BitVec 6) (s : State) : SlotRes :=
  slotR2 leadingZeros d a s
/-- CLZ, issued alone. -/
def execClz (d a : BitVec 6) (s : State) : Host.Outcome State Fault Refusal :=
  runAlone (.clz d a) (slotClz d a s) s

/-- POPC (R116). -/
def slotPopc (d a : BitVec 6) (s : State) : SlotRes :=
  slotR2 popCount d a s
/-- POPC, issued alone. -/
def execPopc (d a : BitVec 6) (s : State) : Host.Outcome State Fault Refusal :=
  runAlone (.popc d a) (slotPopc d a s) s

/-- SEL (R116). -/
def slotSel (d a b : BitVec 6) (p : BitVec 4) (s : State) : SlotRes :=
  slotR3 (fun x y => if s.ctx.pVal p then x else y) d a b s
/-- SEL, issued alone. -/
def execSel (d a b : BitVec 6) (p : BitVec 4) (s : State) : Host.Outcome State Fault Refusal :=
  runAlone (.sel d a b p) (slotSel d a b p s) s

/-- ADDI (R118). -/
def slotAddi (d a : BitVec 6) (i : BitVec 12) (s : State) : SlotRes :=
  slotR2 (fun x => x + i.signExtend 64) d a s
/-- ADDI, issued alone. -/
def execAddi (d a : BitVec 6) (i : BitVec 12) (s : State) : Host.Outcome State Fault Refusal :=
  runAlone (.addi d a i) (slotAddi d a i s) s

/-- ANDI (R118). -/
def slotAndi (d a : BitVec 6) (i : BitVec 12) (s : State) : SlotRes :=
  slotR2 (fun x => x &&& i.setWidth 64) d a s
/-- ANDI, issued alone. -/
def execAndi (d a : BitVec 6) (i : BitVec 12) (s : State) : Host.Outcome State Fault Refusal :=
  runAlone (.andi d a i) (slotAndi d a i s) s

/-- ORI (R118). -/
def slotOri (d a : BitVec 6) (i : BitVec 12) (s : State) : SlotRes :=
  slotR2 (fun x => x ||| i.setWidth 64) d a s
/-- ORI, issued alone. -/
def execOri (d a : BitVec 6) (i : BitVec 12) (s : State) : Host.Outcome State Fault Refusal :=
  runAlone (.ori d a i) (slotOri d a i s) s

/-- XORI (R118). -/
def slotXori (d a : BitVec 6) (i : BitVec 12) (s : State) : SlotRes :=
  slotR2 (fun x => x ^^^ i.setWidth 64) d a s
/-- XORI, issued alone. -/
def execXori (d a : BitVec 6) (i : BitVec 12) (s : State) : Host.Outcome State Fault Refusal :=
  runAlone (.xori d a i) (slotXori d a i s) s

/-- MULI (R118). -/
def slotMuli (d a : BitVec 6) (i : BitVec 12) (s : State) : SlotRes :=
  slotR2 (fun x => x * i.signExtend 64) d a s
/-- MULI, issued alone. -/
def execMuli (d a : BitVec 6) (i : BitVec 12) (s : State) : Host.Outcome State Fault Refusal :=
  runAlone (.muli d a i) (slotMuli d a i s) s

/-- SHLI (R118). -/
def slotShli (d a i : BitVec 6) (s : State) : SlotRes :=
  slotR2 (fun x => x <<< i.toNat) d a s
/-- SHLI, issued alone. -/
def execShli (d a i : BitVec 6) (s : State) : Host.Outcome State Fault Refusal :=
  runAlone (.shli d a i) (slotShli d a i s) s

/-- SHRI (R118). -/
def slotShri (d a i : BitVec 6) (s : State) : SlotRes :=
  slotR2 (fun x => x >>> i.toNat) d a s
/-- SHRI, issued alone. -/
def execShri (d a i : BitVec 6) (s : State) : Host.Outcome State Fault Refusal :=
  runAlone (.shri d a i) (slotShri d a i s) s

/-- SARI (R118). -/
def slotSari (d a i : BitVec 6) (s : State) : SlotRes :=
  slotR2 (fun x => x.sshiftRight i.toNat) d a s
/-- SARI, issued alone. -/
def execSari (d a i : BitVec 6) (s : State) : Host.Outcome State Fault Refusal :=
  runAlone (.sari d a i) (slotSari d a i s) s

/-- MOVI (R119). -/
def slotMovi (d : BitVec 6) (i : BitVec 18) (s : State) : SlotRes :=
  scalarRes s.ctx [] d (i.signExtend 64)
/-- MOVI, issued alone. -/
def execMovi (d : BitVec 6) (i : BitVec 18) (s : State) : Host.Outcome State Fault Refusal :=
  runAlone (.movi d i) (slotMovi d i s) s

/-- MOVS, which reads its destination (R119). -/
def slotMovs (d : BitVec 6) (i : BitVec 18) (s : State) : SlotRes :=
  slotR2 (fun x => x <<< 18 ||| i.setWidth 64) d d s
/-- MOVS, which reads its destination, issued alone. -/
def execMovs (d : BitVec 6) (i : BitVec 18) (s : State) : Host.Outcome State Fault Refusal :=
  runAlone (.movs d i) (slotMovs d i s) s

/-- CMP.eq (R120). -/
def slotCmpEq (p : BitVec 4) (a b : BitVec 6) (s : State) : SlotRes :=
  slotCmp (fun a b => a == b) p a b s
/-- CMP.eq, issued alone. -/
def execCmpEq (p : BitVec 4) (a b : BitVec 6) (s : State) : Host.Outcome State Fault Refusal :=
  runAlone (.cmpEq p a b) (slotCmpEq p a b s) s

/-- CMP.ne (R120). -/
def slotCmpNe (p : BitVec 4) (a b : BitVec 6) (s : State) : SlotRes :=
  slotCmp (fun a b => a != b) p a b s
/-- CMP.ne, issued alone. -/
def execCmpNe (p : BitVec 4) (a b : BitVec 6) (s : State) : Host.Outcome State Fault Refusal :=
  runAlone (.cmpNe p a b) (slotCmpNe p a b s) s

/-- CMP.lt (R120). -/
def slotCmpLt (p : BitVec 4) (a b : BitVec 6) (s : State) : SlotRes :=
  slotCmp (fun a b => a.slt b) p a b s
/-- CMP.lt, issued alone. -/
def execCmpLt (p : BitVec 4) (a b : BitVec 6) (s : State) : Host.Outcome State Fault Refusal :=
  runAlone (.cmpLt p a b) (slotCmpLt p a b s) s

/-- CMP.le (R120). -/
def slotCmpLe (p : BitVec 4) (a b : BitVec 6) (s : State) : SlotRes :=
  slotCmp (fun a b => a.sle b) p a b s
/-- CMP.le, issued alone. -/
def execCmpLe (p : BitVec 4) (a b : BitVec 6) (s : State) : Host.Outcome State Fault Refusal :=
  runAlone (.cmpLe p a b) (slotCmpLe p a b s) s

/-- CMP.ltn (R120). -/
def slotCmpLtn (p : BitVec 4) (a b : BitVec 6) (s : State) : SlotRes :=
  slotCmp (fun a b => a.ult b) p a b s
/-- CMP.ltn, issued alone. -/
def execCmpLtn (p : BitVec 4) (a b : BitVec 6) (s : State) : Host.Outcome State Fault Refusal :=
  runAlone (.cmpLtn p a b) (slotCmpLtn p a b s) s

/-- CMP.len (R120). -/
def slotCmpLen (p : BitVec 4) (a b : BitVec 6) (s : State) : SlotRes :=
  slotCmp (fun a b => a.ule b) p a b s
/-- CMP.len, issued alone. -/
def execCmpLen (p : BitVec 4) (a b : BitVec 6) (s : State) : Host.Outcome State Fault Refusal :=
  runAlone (.cmpLen p a b) (slotCmpLen p a b s) s

/-- CMPI.eq (R121). -/
def slotCmpiEq (p : BitVec 4) (a : BitVec 6) (i : BitVec 12) (s : State) : SlotRes :=
  slotCmpi (fun a b => decide (a = b)) p a i s
/-- CMPI.eq, issued alone. -/
def execCmpiEq (p : BitVec 4) (a : BitVec 6) (i : BitVec 12) (s : State) : Host.Outcome State Fault Refusal :=
  runAlone (.cmpiEq p a i) (slotCmpiEq p a i s) s

/-- CMPI.ne (R121). -/
def slotCmpiNe (p : BitVec 4) (a : BitVec 6) (i : BitVec 12) (s : State) : SlotRes :=
  slotCmpi (fun a b => decide (a ≠ b)) p a i s
/-- CMPI.ne, issued alone. -/
def execCmpiNe (p : BitVec 4) (a : BitVec 6) (i : BitVec 12) (s : State) : Host.Outcome State Fault Refusal :=
  runAlone (.cmpiNe p a i) (slotCmpiNe p a i s) s

/-- CMPI.lt (R121). -/
def slotCmpiLt (p : BitVec 4) (a : BitVec 6) (i : BitVec 12) (s : State) : SlotRes :=
  slotCmpi (fun a b => decide (a < b)) p a i s
/-- CMPI.lt, issued alone. -/
def execCmpiLt (p : BitVec 4) (a : BitVec 6) (i : BitVec 12) (s : State) : Host.Outcome State Fault Refusal :=
  runAlone (.cmpiLt p a i) (slotCmpiLt p a i s) s

/-- CMPI.le (R121). -/
def slotCmpiLe (p : BitVec 4) (a : BitVec 6) (i : BitVec 12) (s : State) : SlotRes :=
  slotCmpi (fun a b => decide (a ≤ b)) p a i s
/-- CMPI.le, issued alone. -/
def execCmpiLe (p : BitVec 4) (a : BitVec 6) (i : BitVec 12) (s : State) : Host.Outcome State Fault Refusal :=
  runAlone (.cmpiLe p a i) (slotCmpiLe p a i s) s

/-- CMPI.gt (R121). -/
def slotCmpiGt (p : BitVec 4) (a : BitVec 6) (i : BitVec 12) (s : State) : SlotRes :=
  slotCmpi (fun a b => decide (a > b)) p a i s
/-- CMPI.gt, issued alone. -/
def execCmpiGt (p : BitVec 4) (a : BitVec 6) (i : BitVec 12) (s : State) : Host.Outcome State Fault Refusal :=
  runAlone (.cmpiGt p a i) (slotCmpiGt p a i s) s

/-- CMPI.ge (R121). -/
def slotCmpiGe (p : BitVec 4) (a : BitVec 6) (i : BitVec 12) (s : State) : SlotRes :=
  slotCmpi (fun a b => decide (a ≥ b)) p a i s
/-- CMPI.ge, issued alone. -/
def execCmpiGe (p : BitVec 4) (a : BitVec 6) (i : BitVec 12) (s : State) : Host.Outcome State Fault Refusal :=
  runAlone (.cmpiGe p a i) (slotCmpiGe p a i s) s

/-- PAND (R122). -/
def slotPand (d a b : BitVec 4) (s : State) : SlotRes :=
  predRes s.ctx [] d (s.ctx.pVal a && s.ctx.pVal b)
/-- PAND, issued alone. -/
def execPand (d a b : BitVec 4) (s : State) : Host.Outcome State Fault Refusal :=
  runAlone (.pand d a b) (slotPand d a b s) s

/-- POR (R122). -/
def slotPor (d a b : BitVec 4) (s : State) : SlotRes :=
  predRes s.ctx [] d (s.ctx.pVal a || s.ctx.pVal b)
/-- POR, issued alone. -/
def execPor (d a b : BitVec 4) (s : State) : Host.Outcome State Fault Refusal :=
  runAlone (.por d a b) (slotPor d a b s) s

/-- PXOR (R122). -/
def slotPxor (d a b : BitVec 4) (s : State) : SlotRes :=
  predRes s.ctx [] d (xor (s.ctx.pVal a) (s.ctx.pVal b))
/-- PXOR, issued alone. -/
def execPxor (d a b : BitVec 4) (s : State) : Host.Outcome State Fault Refusal :=
  runAlone (.pxor d a b) (slotPxor d a b s) s

/-- PNOT (R122). -/
def slotPnot (d a : BitVec 4) (s : State) : SlotRes :=
  predRes s.ctx [] d (!s.ctx.pVal a)
/-- PNOT, issued alone. -/
def execPnot (d a : BitVec 4) (s : State) : Host.Outcome State Fault Refusal :=
  runAlone (.pnot d a) (slotPnot d a s) s

-- System registers

/-- LENDn as software reads it (R92). -/
def LoopEntry.endWord (e : LoopEntry) : Word :=
  BitVec.ofNat 64 (packFields [((if e.v then 1 else 0), 31), (e.step.toNat, 26), (e.start.toNat, 13), (e.last.toNat, 0)])

/-- A loop entry with the fields of LENDn as an MTS writes them (R143). -/
def LoopEntry.withEndWord (e : LoopEntry) (v : Word) : LoopEntry :=
  { e with v := v.getLsbD 31, step := (v >>> 26).setWidth 5, start := (v >>> 13).setWidth 13, last := v.setWidth 13 }

/-- MGSTAT as software reads it (R93). -/
def SysRegs.mgstat (r : SysRegs) : Word :=
  BitVec.ofNat 64 ((if r.mgMatch then 4 else 0) + (if r.mgLost then 2 else 0) + (if r.mgOwn then 1 else 0))

/-- The value of a system register by its number (R63, R88 to R93). -/
def sysRead (s : State) (c : Ctx) (n : Nat) : Word :=
  let r := c.sys
  match n with
  | 0 => r.ctxWord
  | 1 => r.task.setWidth 64
  | 2 => r.gang.setWidth 64
  | 3 => r.stage.setWidth 64
  | 4 => r.step
  | 5 => r.launch.setWidth 64
  | 6 => r.world.setWidth 64
  | 7 => r.tenant.setWidth 64
  | 8 => r.vwb.setWidth 64
  | 9 => r.vrw.setWidth 64
  | 10 => r.vrs.setWidth 64
  | 11 => r.vrb.setWidth 64
  | 12 => r.fpm.setWidth 64
  | 13 => r.fstat.setWidth 64
  | 14 => r.amax.setWidth 64
  | 16 => s.tnow
  | 17 => r.frz
  | 18 => lclk s.tnow c
  | 19 => s.ltSeen.setWidth 64
  | 20 => s.tstep.setWidth 64
  | 24 => r.lnk.setWidth 64
  | 25 => c.loops[0].cnt
  | 26 => c.loops[1].cnt
  | 27 => c.loops[2].cnt
  | 28 => c.loops[3].cnt
  | 29 => c.loops[0].endWord
  | 30 => c.loops[1].endWord
  | 31 => c.loops[2].endWord
  | 32 => c.loops[3].endWord
  | 36 => r.trapc
  | 37 => r.trapi
  | 38 => r.trapl0
  | 39 => r.trapl1
  | 40 => r.mgstat
  | 41 => BitVec.ofNat 64 (packFields [(r.replays.toNat, 32), (r.beats.toNat, 0)])
  | 42 => if r.rchk then 1 else 0
  | 43 => s.cr.ilim.setWidth 64
  | 44 => r.ctab[0]
  | 45 => r.ctab[1]
  | 46 => r.ctab[2]
  | 47 => r.ctab[3]
  | 48 => BitVec.ofNat 64 (packFields [(r.allocSize.toNat, 16), (r.allocBase.toNat, 0)])
  | 49 => BitVec.ofNat 64 (packFields [(r.tilesCount.toNat, 8), (r.tilesFirst.toNat, 0)])
  | _ => 0

/-- A system register written by MTS; bits outside its fields are ignored (R97). -/
def sysWrite (c : Ctx) (n : Nat) (v : Word) : Ctx :=
  let r := c.sys
  match n with
  | 8 => { c with sys := { r with vwb := (v.setWidth 15) &&& 0x7FFE } }
  | 9 => { c with sys := { r with vrw := (v.setWidth 15) &&& 0x7FFE } }
  | 10 => { c with sys := { r with vrs := v.setWidth 11, vrb := 0 } }
  | 11 => { c with sys := { r with vrb := v.setWidth 10 } }
  | 12 => { c with sys := { r with fpm := v.setWidth 3 } }
  | 13 => { c with sys := { r with fstat := v.setWidth 5 } }
  | 14 => { c with sys := { r with amax := v.setWidth 32 } }
  | 24 => { c with sys := { r with lnk := v.setWidth 13 } }
  | 25 => { c with loops := c.loops.set 0 { c.loops[0] with cnt := v } }
  | 26 => { c with loops := c.loops.set 1 { c.loops[1] with cnt := v } }
  | 27 => { c with loops := c.loops.set 2 { c.loops[2] with cnt := v } }
  | 28 => { c with loops := c.loops.set 3 { c.loops[3] with cnt := v } }
  | 29 => { c with loops := c.loops.set 0 (c.loops[0].withEndWord v) }
  | 30 => { c with loops := c.loops.set 1 (c.loops[1].withEndWord v) }
  | 31 => { c with loops := c.loops.set 2 (c.loops[2].withEndWord v) }
  | 32 => { c with loops := c.loops.set 3 (c.loops[3].withEndWord v) }
  | 41 => { c with sys := { r with replays := (v >>> 32).setWidth 16, beats := v.setWidth 32 } }
  | 42 => { c with sys := { r with rchk := v.getLsbD 0 } }
  | 44 => { c with sys := { r with ctab := r.ctab.set 0 v } }
  | 45 => { c with sys := { r with ctab := r.ctab.set 1 v } }
  | 46 => { c with sys := { r with ctab := r.ctab.set 2 v } }
  | 47 => { c with sys := { r with ctab := r.ctab.set 3 v } }
  | _ => c

/-- An earlier operation of the context that updates a register has not completed (R98). -/
def sysBusy (s : State) (n : Nat) : Bool :=
  let mine := s.cr.flights.filter (fun f => f.k == s.cr.cur)
  match n with
  | 13 => mine.any (fun f => match f.what with | .fstat _ => true | _ => false)
  | 14 => mine.any (fun f => match f.what with | .amax _ => true | _ => false)
  | 40 => s.mergePending s.cr.cur
  | 41 => mine.any (fun f => match f.what with | .mma .. => true | _ => false)
  | _ => false

/-- MFS (R96, R98). -/
def slotMfs (d n : BitVec 6) (s : State) : SlotRes :=
  let r := scalarRes s.ctx [] d (sysRead s s.ctx n.toNat)
  { r with hold := Hold.join r.hold (holdIf (sysBusy s n.toNat) .engine) }
/-- MFS, issued alone. -/
def execMfs (d n : BitVec 6) (s : State) : Host.Outcome State Fault Refusal := runAlone (.mfs d n) (slotMfs d n s) s

/-- The value checks of MTS to VRS and VRB (R97). -/
def mtsBad (c : Ctx) (n : Nat) (v : Word) : Bool :=
  match n with
  | 10 => v = 0 || v.toNat > 1024
  | 11 => v.toNat ≥ c.sys.vrs.toNat
  | _ => false

/-- MTS (R97, R98). -/
def slotMts (a n : BitVec 6) (s : State) : SlotRes :=
  let c := s.ctx
  let v := c.xVal a
  { slot := .s, draw := 1
    dests := if n = 10 then [.sys 10, .sys 11] else [.sys n.toNat]
    trap := firstTrap [xPoisonTrap c a, trapIf (!c.xEmpty a && mtsBad c n.toNat v) (slotTrap .illegal 0)]
    hold := joinHolds [xHold c a, holdIf (sysBusy s n.toNat) .engine]
    effect := fun t => t.modCtx (fun c => sysWrite c n.toNat v) }
/-- MTS, issued alone. -/
def execMts (a n : BitVec 6) (s : State) : Host.Outcome State Fault Refusal := runAlone (.mts a n) (slotMts a n s) s

/-- TIME (R99). -/
def slotTime (d : BitVec 6) (s : State) : SlotRes := scalarRes s.ctx [] d (lclk s.tnow s.ctx)
/-- TIME, issued alone. -/
def execTime (d : BitVec 6) (s : State) : Host.Outcome State Fault Refusal := runAlone (.time d) (slotTime d s) s

-- Descriptors and streams

/-- MTD of a capability: all 129 bits as they stand (R324). -/
def slotMtdCap (d : BitVec 4) (a : BitVec 5) (s : State) : SlotRes :=
  let c := s.ctx
  let v := c.cVal a
  { slot := .s, draw := 1, dests := [.desc d], trap := cPoisonTrap c a, hold := cHold c a
    effect := fun t => t.modCtx (fun c => { c with d := c.d.set d.toNat { c.d[d.toNat] with cap := v } }) }
/-- MTD of a capability, issued alone. -/
def execMtdCap (d : BitVec 4) (c : BitVec 5) (s : State) : Host.Outcome State Fault Refusal :=
  runAlone (.mtdCap d c) (slotMtdCap d c s) s

/-- The value checks of MTD (R324). -/
def mtdBad (sel : Nat) (v : Nat) : Bool :=
  match sel with
  | 2 => v > 32767
  | 3 => v = 0 || v > 2 ^ 24
  | 4 => v > 65535
  | 5 => v > 2 ^ 32 - 1
  | 6 => v > 32767
  | 7 => v > 2 ^ 19 - 1
  | _ => false

/-- A descriptor's field written (R323, R324). -/
def Desc.setField (d : Desc) (sel : Nat) (v : Word) : Desc :=
  match sel with
  | 1 => { d with off := v }
  | 2 => { d with line := v.setWidth 15 }
  | 3 => { d with len := v.setWidth 25 }
  | 4 => { d with rows := v.setWidth 16 }
  | 5 => { d with rstr := v.setWidth 32 }
  | 6 => { d with lstr := v.setWidth 15 }
  | 7 => { d with arrV := v.getLsbD 18, arrIdx := v.setWidth 18 }
  | 8 => { d with time := v }
  | _ => d

/-- MTD of a value (R324). -/
def slotMtdValue (d e : BitVec 4) (a : BitVec 6) (s : State) : SlotRes :=
  let c := s.ctx
  let v := c.xVal a
  { slot := .s, draw := 1, dests := [.desc d]
    trap := firstTrap [xPoisonTrap c a, trapIf (!c.xEmpty a && mtdBad e.toNat v.toNat) (slotTrap .illegal 0)]
    hold := xHold c a
    effect := fun t => t.modCtx (fun c => { c with d := c.d.set d.toNat (c.d[d.toNat].setField e.toNat v) }) }
/-- MTD of a value, issued alone. -/
def execMtdValue (d e : BitVec 4) (a : BitVec 6) (s : State) : Host.Outcome State Fault Refusal :=
  runAlone (.mtdValue d e a) (slotMtdValue d e a s) s

/-- The value checks of MTSTR (R291). -/
def mtstrBad (sel : Nat) (v : Nat) : Bool :=
  match sel with
  | 0 => v > 32767
  | 1 => v > 5
  | 2 => v > 2 ^ 20 - 16 || v % 16 != 0
  | 3 => v > 32767
  | 4 => v > 65535
  | 5 => v > 65472 || v % 64 != 0
  | _ => false

/-- A stream's field written (R289, R291). -/
def StreamReg.setField (r : StreamReg) (sel : Nat) (v : Word) : StreamReg :=
  match sel with
  | 0 => { r with base := v.setWidth 15 }
  | 1 => { r with fmt := v.setWidth 3 }
  | 2 => { r with rstr := v.setWidth 20 }
  | 3 => { r with sbase := v.setWidth 15 }
  | 4 => { r with sstr := v.setWidth 16 }
  | 5 => { r with koff := v.setWidth 16 }
  | _ => r

/-- MTSTR (R291). -/
def slotMtstr (r e : BitVec 4) (a : BitVec 6) (s : State) : SlotRes :=
  let c := s.ctx
  let v := c.xVal a
  { slot := .s, draw := 1, dests := [.stream r]
    trap := firstTrap [xPoisonTrap c a, trapIf (!c.xEmpty a && mtstrBad e.toNat v.toNat) (slotTrap .illegal 0)]
    hold := xHold c a
    effect := fun t => t.modCtx (fun c => { c with s := c.s.set r.toNat (c.s[r.toNat].setField e.toNat v) }) }
/-- MTSTR, issued alone. -/
def execMtstr (r e : BitVec 4) (a : BitVec 6) (s : State) : Host.Outcome State Fault Refusal :=
  runAlone (.mtstr r e a) (slotMtstr r e a s) s

end Sys2Proof.Machine
end

