-- ==== Sys2Proof/Machine/VectorData.lean ====
section
/-! DEFINITION. Approximate functions, reductions, permutes, the code table, gathers and scatters (R258 to R281). -/

namespace Sys2Proof.Machine

-- Approximate functions

/-- A positive real number by its scaled floors: `scaled k` is ⌊v × 2^k⌋ and whether v × 2^k is that integer. -/
abbrev Scaled := Int → Nat × Bool

/-- `m × 2^e` divided by `d`, scaled. -/
def scaledQuot (m d : Nat) (e : Int) : Scaled := fun k =>
  let num := m * 2 ^ (e + k).toNat
  let den := d * 2 ^ (-(e + k)).toNat
  (num / den, num % den == 0)

/-- The integer square root by Newton's method from above; `fuel` steps suffice for numbers of 2^fuel bits. -/
def isqrtFrom (fuel n x : Nat) : Nat :=
  match fuel with
  | 0 => x
  | f + 1 =>
    let y := (x + n / x) / 2
    if y < x then isqrtFrom f n y else x

/-- ⌊√n⌋. -/
def isqrt (n : Nat) : Nat := if n = 0 then 0 else isqrtFrom (Nat.log2 n + 2) n (2 ^ (Nat.log2 n / 2 + 1))

/-- (m × 2^e)^−½, scaled: ⌊√(2^(2k − e) / m)⌋. -/
def scaledRsqrt (m : Nat) (e : Int) : Scaled := fun k =>
  let q := scaledQuot 1 m (-e) (2 * k)
  let r := isqrt q.1
  (r, q.2 && r * r == q.1)

/-- Fraction bits kept of 2^f: enough that no boundary of R260 lies within the error for an FP32 exponent. -/
def expBits : Nat := 256

/-- 2^(2^−j) for j = 1, 2, … as fixed-point numbers of `expBits` fraction bits, from below. -/
def expRoots (fuel prev : Nat) : List Nat :=
  match fuel with
  | 0 => []
  | f + 1 =>
    let r := isqrt (prev * 2 ^ expBits)
    r :: expRoots f r

/-- 2^(0.f) from below, where `f` has `bits` fraction bits. -/
def exp2Frac (f bits : Nat) : Nat :=
  ((expRoots bits (2 ^ (expBits + 1))).zipIdx.foldl
    (fun p r => if f / 2 ^ (bits - 1 - r.2) % 2 = 1 then p * r.1 / 2 ^ expBits else p) (2 ^ expBits))

/-- 2^x for x = (−1)^neg × m × 2^e with −200 ≤ x < 200, scaled; it is irrational unless x is an integer. -/
def scaledExp2 (neg : Bool) (m : Nat) (e : Int) : Scaled :=
  let bits := (-e).toNat
  let v := signed neg (m * 2 ^ e.toNat)
  let i := v / 2 ^ bits
  let f := (v % 2 ^ bits).toNat
  let p := if f = 0 then 2 ^ expBits else exp2Frac f bits
  fun k =>
    let sh := i + k - expBits
    (p * 2 ^ sh.toNat / 2 ^ (-sh).toNat, f == 0 && (0 ≤ i + k))

/-- The first `fuel` fraction bits of log2 of y, 1 ≤ y < 2, held as a fixed-point number of 256 fraction bits. -/
def log2Bits (fuel y acc : Nat) : Nat :=
  match fuel with
  | 0 => acc
  | f + 1 =>
    let z := y * y / 2 ^ 256
    if z / 2 ^ 257 != 0 then log2Bits f (z / 2) (2 * acc + 1) else log2Bits f z (2 * acc)

/-- |log2 x| and its sign for a positive x = m × 2^e, scaled; irrational unless x is a power of two. -/
def scaledLog2 (m : Nat) (e : Int) : Bool × Scaled :=
  let t := Nat.log2 m
  let ex : Int := t + e
  let pow := m == 2 ^ t
  let l := if pow then 0 else log2Bits 112 (m * 2 ^ (256 - t)) 0
  let v := ex * 2 ^ 112 + l
  let neg := v < 0
  let a := if !neg then v.natAbs else if pow then v.natAbs else v.natAbs - 1
  (neg, fun k => let sh := k - 112
    (a * 2 ^ sh.toNat / 2 ^ (-sh).toNat, pow && (a * 2 ^ sh.toNat % 2 ^ (-sh).toNat == 0)))

/-- `round_p12` (R260) of (−1)^neg × v, for 2^−400 ≤ v or a v below 2^−150. -/
def roundP12 (ftz neg : Bool) (v : Scaled) : Nat × Flags :=
  let big := (v 400).1
  let e : Int := if big = 0 then -400 else (Nat.log2 big : Int) - 400
  let qe : Int := max (e - 11) (-149)
  let (t, exact2) := v (1 - qe)
  let lo := t / 2
  let r := if t % 2 = 0 then lo else if exact2 then (if lo % 2 = 0 then lo else lo + 1) else lo + 1
  let exact := exact2 && t % 2 == 0
  if r != 0 && 128 ≤ (Nat.log2 r : Int) + qe then (infBits 24 neg, flagOF ||| flagNX)
  else
    let bits := (roundF 24 0 false neg r qe false).1
    let tiny := r == 0 || (Nat.log2 r : Int) + qe < -126
    let fl := (if exact then 0 else flagNX) ||| (if !exact && tiny then flagUF else 0)
    if ftz && r != 0 && tiny then (signBit 24 neg, fl ||| flagUF ||| flagNX) else (bits, fl)

/-- VRCPA's lane (R261). -/
def rcpLane (ftz : Bool) (a : Nat) : Nat × Flags :=
  match decodeF 24 (flushIn 24 ftz a) with
  | .nan sig => (canonNaN 24, if sig then flagNV else 0)
  | .inf neg => (signBit 24 neg, 0)
  | .fin neg m e => if m = 0 then (infBits 24 neg, flagDZ) else roundP12 ftz neg (scaledQuot 1 m (-e))

/-- VRSQA's lane (R261). -/
def rsqLane (ftz : Bool) (a : Nat) : Nat × Flags :=
  match decodeF 24 (flushIn 24 ftz a) with
  | .nan sig => (canonNaN 24, if sig then flagNV else 0)
  | .inf neg => if neg then (canonNaN 24, flagNV) else (0, 0)
  | .fin neg m e =>
    if m = 0 then (infBits 24 neg, flagDZ) else if neg then (canonNaN 24, flagNV) else roundP12 ftz false (scaledRsqrt m e)

/-- VEXP2A's lane (R261). Below −200 every result rounds as an inexact 2^−200 does. -/
def exp2Lane (ftz : Bool) (a : Nat) : Nat × Flags :=
  match decodeF 24 (flushIn 24 ftz a) with
  | .nan sig => (canonNaN 24, if sig then flagNV else 0)
  | .inf neg => (if neg then 0 else infBits 24 false, 0)
  | .fin neg m e =>
    if m = 0 then (0x3F800000, 0)
    else if 128 * 2 ^ (-e).toNat ≤ m * 2 ^ e.toNat then
      if !neg then (infBits 24 false, flagOF ||| flagNX)
      else if 200 * 2 ^ (-e).toNat ≤ m * 2 ^ e.toNat then roundP12 ftz false (fun _ => (0, false))
      else roundP12 ftz false (scaledExp2 neg m e)
    else roundP12 ftz false (scaledExp2 neg m e)

/-- VLOG2A's lane (R261). -/
def log2Lane (ftz : Bool) (a : Nat) : Nat × Flags :=
  match decodeF 24 (flushIn 24 ftz a) with
  | .nan sig => (canonNaN 24, if sig then flagNV else 0)
  | .inf neg => if neg then (canonNaN 24, flagNV) else (infBits 24 false, 0)
  | .fin neg m e =>
    if m = 0 then (infBits 24 true, flagDZ)
    else if neg then (canonNaN 24, flagNV)
    else if m * 2 ^ e.toNat = 2 ^ (-e).toNat then (0, 0)
    else let l := scaledLog2 m e; roundP12 ftz l.1 l.2

/-- An approximate function: two cycles per register (R259). -/
def vapprox (u : VUnit) (n : BitVec 2) (k : BitVec 3) (t : BitVec 1) (d a : BitVec 6) (f : Bool → Nat → Nat × Flags) (s : State) : SlotRes :=
  elementwise u n k t d (some a) none false 32 (2 * regs n) 4 true (fun a _ _ => f (fpmFtz s.ctx.sys.fpm) a) s

-- Reductions

/-- One level of a reduction's tree; none is an absent node (R263). -/
def reduceLevel (f : Nat → Nat → Nat × Flags) : List (Option Nat) → List (Option Nat) × Flags
  | a :: b :: rest =>
    let (r, fl) := match a, b with
      | none, y => (y, 0)
      | x, none => (x, 0)
      | some x, some y => let v := f x y; (some v.1, v.2)
    let (rs, fls) := reduceLevel f rest
    (r :: rs, fl ||| fls)
  | l => (l, 0)

/-- The tree over 64 leaves, six levels (R263). -/
def reduceTree (f : Nat → Nat → Nat × Flags) : Nat → List (Option Nat) → Option Nat × Flags
  | 0, l => ((l.head?).getD none, 0)
  | n + 1, l =>
    let (l', fl) := reduceLevel f l
    let (r, fl') := reduceTree f n l'
    (r, fl ||| fl')

/-- A leaf read through `in_fp`: a NaN becomes the canonical NaN, and a signalling one raises NV (R204, R263). -/
def leafF (ftz : Bool) (x : Nat) : Nat × Flags :=
  let x := flushIn 24 ftz x
  if (decodeF 24 x).isNan then (canonNaN 24, if (decodeF 24 x).isSnan then flagNV else 0) else (x, 0)

/-- A reduction: the results in the lanes of the first line of vd, then zeros (R263, R264). -/
def vreduce (u : VUnit) (n : BitVec 2) (k : BitVec 3) (t : BitVec 1) (d a : BitVec 6) (weight : Nat) (fp : Bool)
    (leaf : Nat → Nat × Flags) (f : Nat → Nat → Nat × Flags) (empty : Nat) (s : State) : SlotRes :=
  let c := s.ctx
  let cnt := regs n
  let mask := c.kVal k
  let ra := operandRegs s c a cnt
  let one := fun (v : VReg) =>
    let ls := (List.range 64).map (fun i => if mask.getLsbD i then let l := leaf (laneAt 32 v i); (some l.1, l.2) else (none, 0))
    let r := reduceTree f 6 (ls.map Prod.fst)
    (r.1.getD empty, unionFlags (r.2 :: ls.map Prod.snd))
  let rs := ra.map one
  let line : LineData := BitVec.ofNat 1024 (packNat 32 (rs.map Prod.fst))
  vectorRes { u := u, t := t, busy := cnt, weight := weight, k := k, dst := d, dstRange := [regLine c d 0], srcs := [{ code := a, n := cnt }] }
    (runOut c d [(line, BitVec.allOnes 128)] (if fp then some (unionFlags (rs.map Prod.snd)) else none)) s

/-- The running sums of one register; an excluded lane adds nothing (R265). -/
def scanLanes (mask : BitVec 256) (v : VReg) : Nat → Nat → Nat → List Nat
  | 0, _, _ => []
  | fuel + 1, i, acc =>
    let acc' := if mask.getLsbD i then (acc + laneAt 32 v i) % 2 ^ 32 else acc
    acc' :: scanLanes mask v fuel (i + 1) acc'

/-- VSCAN.i32 (R265). -/
def vscan (u : VUnit) (n : BitVec 2) (k : BitVec 3) (t : BitVec 1) (d a : BitVec 6) (s : State) : SlotRes :=
  let c := s.ctx
  let cnt := regs n
  let mask := c.kVal k
  let bytes := laneBytes 32 mask
  let rs := (operandRegs s c a cnt).map (fun v => (packLanes 32 (scanLanes mask v 64 0 0), bytes))
  vectorRes { u := u, t := t, busy := cnt, weight := 3, k := k, dst := d, dstRange := groupLines c d cnt, srcs := [{ code := a, n := cnt }] }
    (regOut c d rs none) s

/-- One candidate stands before another: the larger value, −0 below +0, then the smaller index (R266). -/
def topBefore (a b : Nat × Nat) : Bool :=
  orderKey 24 b.1 < orderKey 24 a.1 || (orderKey 24 a.1 == orderKey 24 b.1 && a.2 < b.2)

/-- A candidate put in its place. -/
def insertTop (x : Nat × Nat) : List (Nat × Nat) → List (Nat × Nat)
  | [] => [x]
  | y :: rest => if topBefore x y then x :: y :: rest else y :: insertTop x rest

/-- VTOPK.f32 (R266). -/
def vtopk (u : VUnit) (n : BitVec 2) (k : BitVec 3) (t : BitVec 1) (d a x : BitVec 6) (s : State) : SlotRes :=
  let c := s.ctx
  let cnt := regs n
  let mask := c.kVal k
  let ftz := fpmFtz c.sys.fpm
  let top := (c.xVal x).toNat
  let bad := !c.xEmpty x && !c.xPoison x && (top == 0 || top > 64)
  let ra := operandRegs s c a cnt
  let cand := ((List.range cnt).map (fun j => (List.range 64).filterMap (fun i =>
    if mask.getLsbD i then some (flushIn 24 ftz (laneAt 32 (nthReg ra j) i), 64 * j + i) else none))).flatten
  let nans := cand.filter (fun e => (decodeF 24 e.1).isNan)
  let best := ((cand.filter (fun e => !(decodeF 24 e.1).isNan)).foldl (fun l e => (insertTop e l).take top) [])
  let at_ := fun (m : Nat) => if m < top then best[m]? else none
  let vals := packLanes 32 ((List.range 64).map (fun m => match at_ m with | some e => e.1 | none => 0xFF800000))
  let idxs := packLanes 32 ((List.range 64).map (fun m => match at_ m with | some e => e.2 | none => 0xFFFFFFFF))
  let all := BitVec.allOnes 256
  vectorRes { u := u, t := t, busy := cnt, weight := 5, k := k, xs := [x], dst := d, dstRange := groupLines c d 2, srcs := [{ code := a, n := cnt }]
              early := trapIf bad (slotTrap .illegal (vslot u).index) }
    (regOut c d [(vals, all), (idxs, all)] (some (if nans.isEmpty then 0 else flagNV))) s

-- Permutes and lane moves

/-- VPERM (R267). -/
def vpermute (u : VUnit) (n : BitVec 2) (k : BitVec 3) (t : BitVec 1) (d a b : BitVec 6) (w : Nat) (s : State) : SlotRes :=
  let c := s.ctx
  let cnt := regs n
  let lanes := 2048 / w
  let bytes := laneBytes w (c.kVal k)
  let ra := operandRegs s c a cnt
  let rb := operandRegs s c b cnt
  let rs := (List.range cnt).map (fun j =>
    (packLanes w ((List.range lanes).map (fun i => laneAt w (nthReg ra j) (laneAt w (nthReg rb j) i % lanes))), bytes))
  vectorRes { u := u, t := t, busy := cnt, weight := 3, k := k, dst := d, dstRange := groupLines c d cnt
              srcs := [{ code := a, n := cnt }, { code := b, n := cnt }] }
    (regOut c d rs none) s

/-- VROTL.32 (R268). -/
def vrotl (u : VUnit) (n : BitVec 2) (k : BitVec 3) (t : BitVec 1) (d a x : BitVec 6) (s : State) : SlotRes :=
  let c := s.ctx
  let cnt := regs n
  let sh := (c.xVal x).toNat % 64
  let bytes := laneBytes 32 (c.kVal k)
  let rs := (operandRegs s c a cnt).map (fun v => (packLanes 32 ((List.range 64).map (fun i => laneAt 32 v ((i + sh) % 64))), bytes))
  vectorRes { u := u, t := t, busy := cnt, weight := 3, k := k, xs := [x], dst := d, dstRange := groupLines c d cnt
              srcs := [{ code := a, n := cnt }] }
    (regOut c d rs none) s

/-- VZIP and VUNZIP: twice the registers of a source; a destination that shares lines with a source is ILLEGAL (R269). -/
def vzipWord (u : VUnit) (n : BitVec 2) (t : BitVec 1) (d a b : BitVec 6) (f : VReg → VReg → Nat → Nat → Nat) (s : State) : SlotRes :=
  let c := s.ctx
  let cnt := regs n
  let ra := operandRegs s c a cnt
  let rb := operandRegs s c b cnt
  let ds := groupLines c d (2 * cnt)
  let share := (groupLines c a cnt ++ groupLines c b cnt).any (fun l => ds.contains l)
  let rs := (List.range (2 * cnt)).map (fun h =>
    (packLanes 32 ((List.range 64).map (fun m => f (nthReg ra (h / 2)) (nthReg rb (h / 2)) (h % 2) m)), BitVec.allOnes 256))
  vectorRes { u := u, t := t, busy := cnt, weight := 3, dst := d, dstRange := ds, srcs := [{ code := a, n := cnt }, { code := b, n := cnt }]
              early := trapIf share (slotTrap .illegal (vslot u).index) }
    (regOut c d rs none) s

/-- VZIP's lane `m` of half `h` (R269). -/
def zipLane (a b : VReg) (h m : Nat) : Nat := laneAt 32 (if m % 2 = 0 then a else b) (32 * h + m / 2)

/-- VUNZIP's lane `m` of half `h` (R269). -/
def unzipLane (a b : VReg) (h m : Nat) : Nat :=
  let i := 2 * m + h
  if i < 64 then laneAt 32 a i else laneAt 32 b (i - 64)

/-- VXTR.32 (R270). -/
def slotVxtr32 (u : VUnit) (t : BitVec 1) (d a x : BitVec 6) (s : State) : SlotRes :=
  let c := s.ctx
  let v := laneAt 32 (nthReg (operandRegs s c a 1) 0) ((c.xVal x).toNat % 64)
  vectorRes { u := u, t := t, busy := 1, weight := 3, xs := [x], srcs := [{ code := a, n := 1 }] } { xreg := some (d, BitVec.ofNat 64 v) } s
/-- The same, issued alone. -/
def execVxtr32 (u : VUnit) (t : BitVec 1) (d a x : BitVec 6) (s : State) : Host.Outcome State Fault Refusal :=
  runAlone (.vxtr32 u t d a x) (slotVxtr32 u t d a x s) s

/-- VINS.32: only the line that holds the lane passes through empty (R271). -/
def slotVins32 (u : VUnit) (k : BitVec 3) (t : BitVec 1) (d a b : BitVec 6) (s : State) : SlotRes :=
  let c := s.ctx
  let i := (c.xVal a).toNat % 64
  let on := (c.kVal k).getLsbD i
  let v : VReg := BitVec.ofNat 2048 ((c.xVal b).toNat % 2 ^ 32 * 2 ^ (32 * i))
  let bytes : BitVec 256 := if on then BitVec.ofNat 256 (15 * 2 ^ (4 * i)) else 0
  let half := i / 32
  vectorRes { u := u, t := t, busy := 1, weight := 3, k := k, xs := [a, b], dst := d, dstRange := groupLines c d 1
              dstKnown := !c.xEmpty a, srcs := [{ code := d, n := 1 }], readsD := true }
    { lines := [{ rel := regLine c d 0 + half, data := (v >>> (1024 * half)).setWidth 1024, mask := (bytes >>> (128 * half)).setWidth 128 }]
      bypass := some (bypassValue v bytes) } s
/-- The same, issued alone. -/
def execVins32 (u : VUnit) (k : BitVec 3) (t : BitVec 1) (d a b : BitVec 6) (s : State) : Host.Outcome State Fault Refusal :=
  runAlone (.vins32 u k t d a b) (slotVins32 u k t d a b s) s

-- The code table

/-- VLTLD (R273). -/
def slotVltld (u : VUnit) (t : BitVec 1) (a : BitVec 6) (s : State) : SlotRes :=
  let c := s.ctx
  let v := nthReg (operandRegs s c a 1) 0
  let q := fun (j : Nat) => BitVec.ofNat 64 (v.toNat / 2 ^ (64 * j))
  vectorRes { u := u, t := t, busy := 1, weight := 3, srcs := [{ code := a, n := 1 }] }
    { ctab := some ((((Vector.replicate 4 (q 0)).set 1 (q 1)).set 2 (q 2)).set 3 (q 3)) } s
/-- The same, issued alone. -/
def execVltld (u : VUnit) (t : BitVec 1) (a : BitVec 6) (s : State) : Host.Outcome State Fault Refusal :=
  runAlone (.vltld u t a) (slotVltld u t a s) s

/-- An entry of CTAB (R93, R273). -/
def ctabEntry (c : Ctx) (i : Nat) : Nat := (c.sys.ctab[i / 4]?.getD 0).toNat / 2 ^ (16 * (i % 4)) % 65536

/-- VLUT.bf16 (R274, R275). -/
def slotVlutBf16 (u : VUnit) (n : BitVec 2) (k : BitVec 3) (t : BitVec 1) (d a : BitVec 6) (s : State) : SlotRes :=
  let c := s.ctx
  let cnt := regs n
  let src := (cnt + 3) / 4
  let run := runNat (operandRegs s c a src)
  let bytes := laneBytes 16 (c.kVal k)
  let rs := (List.range cnt).map (fun j =>
    (packLanes 16 ((List.range 128).map (fun i => ctabEntry c (run / 2 ^ (4 * (128 * j + i)) % 16))), bytes))
  vectorRes { u := u, t := t, busy := cnt, weight := 5, k := k, dst := d, dstRange := groupLines c d cnt, srcs := [{ code := a, n := src }] }
    (regOut c d rs none) s
/-- The same, issued alone. -/
def execVlutBf16 (u : VUnit) (n : BitVec 2) (k : BitVec 3) (t : BitVec 1) (d a : BitVec 6) (s : State) : Host.Outcome State Fault Refusal :=
  runAlone (.vlutBf16 u n k t d a) (slotVlutBf16 u n k t d a s) s

-- Gathers and scatters

/-- A lane of a gather or scatter: its data register, its lane there, and its address (R276). -/
structure Lane where
  reg : Nat
  lane : Nat
  addr : Word
  deriving DecidableEq, Repr

/-- The enabled lanes, in order of register and lane (R276). -/
def enabledLanes (c : Ctx) (cap : Cap) (k : BitVec 3) (cnt z : Nat) (offs : List VReg) : List Lane :=
  let per := 256 / z
  let mask := c.kVal k
  ((List.range cnt).map (fun j => (List.range per).filterMap (fun i =>
    if mask.getLsbD i then
      let m := per * j + i
      let off := sextN 32 (laneAt 32 (nthReg offs (m / 64)) (m % 64))
      some { reg := j, lane := i, addr := BitVec.ofInt 64 (cap.cursor.toNat + off * z) }
    else none))).flatten

/-- The fault of the failing lanes of the lowest register that has any (R277). -/
def lanesTrap (code : Code) (bad : List Lane) : Option Trap :=
  match bad with
  | [] => none
  | l :: _ => some
    { code := code.num, trapi := l.addr
      trapl := BitVec.ofNat 128 (((bad.filter (fun o => o.reg == l.reg)).map (fun o => 2 ^ o.lane)).foldl (· + ·) 0) }

/-- What an enabled lane meets when it is translated or resolved (R277 steps 7 and 8). -/
inductive LaneFate where
  | ok (a : MAddr)
  | walk (obj page : Nat)
  | fetch (g byte : Nat)
  | lost | absent | outside
  | poison (a : MAddr)
  | cipher (a : MAddr)

/-- An enabled lane translated or resolved (R277 steps 7 and 8). -/
def laneFate (s : State) (c : Ctx) (cap : Cap) (z : Nat) (l : Lane) : LaneFate :=
  match spaceOf cap.space with
  | some .scratch =>
    match resolveScratch s c l.addr.toNat z with
    | none => .outside
    | some (g, byte) =>
      let a : MAddr := { space := .scratch, obj := g, off := byte, full := l.addr }
      match formKnown s c g byte with
      | none => .fetch g byte
      | some .plain => .ok a
      | some .poison => .poison a
      | some .cipher => .cipher a
  | some .local =>
    match translate s c .local (objOf l.addr) (pageOf l.addr) with
    | .hit f => .ok { space := .local, obj := objOf l.addr, off := offOf l.addr, frame := f, gen := cap.gen, full := l.addr }
    | .walk => .walk (objOf l.addr) (pageOf l.addr)
    | .absent => .absent
    | .lost => .lost
  | some .pool =>
    match translate s c .pool (objOf l.addr) (pageOf l.addr) with
    | .hit f => .ok { space := .pool, obj := objOf l.addr, off := offOf l.addr, frame := f, gen := cap.gen, full := l.addr }
    | .walk => .walk (objOf l.addr) (pageOf l.addr)
    | .absent => .absent
    | .lost => .lost
  | _ => .outside

/-- The checks of R277 steps 2 to 8, what has to be walked or fetched before they are all made, and where the lanes go. -/
structure LaneAccess where
  traps : List (Option Trap)
  walks : List (Nat × Nat) := []
  fetches : List (Nat × Nat) := []
  addrs : List (Lane × MAddr) := []
  absentPage : Option (Nat × Nat) := none

/-- Steps 2 to 8 of R277. -/
def laneChecks (s : State) (c : Ctx) (cap : Cap) (z : Nat) (perm : Perm) (ls : List Lane) : LaneAccess :=
  let at_ := match ls with | l :: _ => l.addr | [] => cap.cursor
  let (base, top) := boundsOf cap
  let sp := spaceOf cap.space
  let remote := sp == some .local || sp == some .pool
  let fates := ls.map (fun l => (l, laneFate s c cap z l))
  let sel := fun (p : LaneFate → Bool) => (fates.filter (fun f => p f.2)).map Prod.fst
  let lost := sel (fun f => match f with | .lost => true | _ => false)
  let absent := sel (fun f => match f with | .absent => true | _ => false)
  let walks := fates.filterMap (fun f => match f.2 with | .walk o p => some (o, p) | _ => none)
  let fetches := fates.filterMap (fun f => match f.2 with | .fetch g b => some (g, b) | _ => none)
  let pois := sel (fun f => match f with | .poison _ => true | _ => false)
  { traps := [
      addrTrap (!cap.tag) .capTag at_, addrTrap (cap.otype != 0) .capSealed at_, addrTrap (!cap.has perm) .capPerm at_,
      addrTrap (!(sp == some .scratch || remote)) .capSpace at_,
      lanesTrap .capBounds (ls.filter (fun l => l.addr.toNat < base || l.addr.toNat + z > top)),
      addrTrap (cap.cursor.toNat % z != 0) .align at_,
      addrTrap (remote && stale s cap (objOf cap.cursor)) .capStale at_,
      addrTrap (c.sys.world != 0 && sp != some .scratch) .world at_,
      (if walks.isEmpty then (lanesTrap .eccUncorr lost <|> lanesTrap .page absent) else none),
      lanesTrap .lineRange (sel (fun f => match f with | .outside => true | _ => false)),
      (if fetches.isEmpty then (lanesTrap .integrity pois <|> lanesTrap .form (sel (fun f => match f with | .cipher _ => true | _ => false)))
       else none)]
    walks := walks
    fetches := fetches
    addrs := fates.filterMap (fun f => match f.2 with | .ok a => some (f.1, a) | _ => none)
    absentPage := match absent with | l :: _ => some (objOf l.addr, pageOf l.addr) | [] => none }

/-- A word of lanes: the checks of its vector part, then those of R277, and its waits (R280). The checks of R277 begin once the capability
register, the mask and the offsets are full (DEDUCED): each reports a lane's address. -/
def laneRes (r : SlotRes) (c : Ctx) (cr : BitVec 5) (la : LaneAccess) (ready : Bool) : SlotRes :=
  let cap := c.cVal cr
  let sp := if cap.space = 3 then Space.pool else Space.local
  let later := firstTrap la.traps
  let blocked := !la.walks.isEmpty || !la.fetches.isEmpty
  let trap := match r.trap with
    | some t => some t
    | none => firstTrap [cPoisonTrap c cr, if ready then later else none]
  { r with
    trap := trap
    onTrap := if r.trap.isSome then r.onTrap
      else match la.absentPage, trap with
        | some (o, p), some t => if t.code = Code.page.num then waitPage sp o p else id
        | _, _ => id
    hold := joinHolds [r.hold, cHold c cr, if ready then holdIf blocked .engine else none]
    requests := la.addrs.length
    onHold := if ready && blocked then
        (fun t => la.fetches.foldl (fun t w => fetchForm w.1 w.2 t) (la.walks.foldl (fun t w => startWalk sp w.1 w.2 cap.gen t) t))
      else id }

/-- The pages of a lane access marked as accessed (R411). -/
def markLanes (la : LaneAccess) (write : Bool) (s : State) : State :=
  la.addrs.foldl (fun s a => if a.2.space == .scratch then s else markAccess a.2.space a.2.obj (a.2.off / 65536) write s) s

/-- VGATH: its destination lines empty at issue, its lanes in the load queue, its lines filled as they land (R278). -/
def vgather (n : BitVec 2) (k : BitVec 3) (t : BitVec 1) (d a : BitVec 6) (cr : BitVec 5) (z : Nat) (s : State) : SlotRes :=
  let c := s.ctx
  let cnt := regs n
  let offN := cnt * 4 / z
  let cap := c.cVal cr
  let offs := operandRegs s c a offN
  let src : Source := { code := a, n := offN }
  let bytes := laneBytes (8 * z) (c.kVal k)
  let ready := !c.cEmpty cr && !c.kEmpty k && !src.isEmpty s c
  let ls := enabledLanes c cap k cnt z offs
  let la := laneChecks s c cap z .ld ls
  let out := regOut c d ((List.range cnt).map (fun _ => (0, bytes))) none
  let r := vectorRes { u := .a, t := t, busy := cnt, weight := 3, k := k, dst := d, dstRange := groupLines c d cnt, srcs := [src] } out s
  let place := fun (p : Lane × MAddr) => p.1.reg * (256 / z) + p.1.lane
  let writes := out.lines.zipIdx.map (fun l =>
    ({ index := l.2, write := { line := physLine c l.1.rel, data := 0, mask := l.1.mask }
       lanes := (la.addrs.map place).filter (fun i => i * z / 128 = l.2), last := 2 * (cnt - 1) ≤ l.2 } : GatherLine))
  { laneRes r c cr la ready with
    effect := fun s =>
      let cyc := s.cr.cyc
      let s := markLanes la false s
      let s := out.lines.foldl (fun s l => s.setFull (relKey s c l.rel) false) s
      let s := { s with cr := { s.cr.takeBypass .a with
        reads := s.cr.reads ++ laterReads c cyc 1 (4 / z) src } }
      let fid := s.nextId
      let s := s.addFlight .va s.cr.cur (cyc + cnt + 4) (.gather writes 0 true)
      la.addrs.foldl (fun s p => enqueue (.gather (place p) p.2 z fid) false s) s }

/-- VSCAT: each enabled lane enters the store queue as a store (R279). -/
def vscatter (n : BitVec 2) (k : BitVec 3) (t : BitVec 1) (d a : BitVec 6) (cr : BitVec 5) (z : Nat) (s : State) : SlotRes :=
  let c := s.ctx
  let cnt := regs n
  let offN := cnt * 4 / z
  let cap := c.cVal cr
  let so : Source := { code := a, n := offN }
  let sd : Source := { code := d, n := cnt }
  let ready := !c.cEmpty cr && !c.kEmpty k && !so.isEmpty s c
  let ls := enabledLanes c cap k cnt z (operandRegs s c a offN)
  let la := laneChecks s c cap z .st ls
  let data := operandRegs s c d cnt
  let r := vectorRes { u := .a, t := t, busy := cnt, weight := 3, k := k, readsD := true, srcs := [so, sd] } {} s
  let r := laneRes r c cr la ready
  let sw := la.addrs.map (fun p => storeWait s p.2)
  let trap := match r.trap with
    | some t => some t
    | none => if ready && la.walks.isEmpty then firstTrap (sw.map (fun w => w.1)) else none
  let onTrap := if r.trap.isSome then r.onTrap else match sw.find? (fun w => w.1.isSome) with | some w => w.2.1 | none => id
  { r with
    trap := trap, onTrap := onTrap
    hold := joinHolds (r.hold :: sw.map (fun w => w.2.2))
    effect := fun s =>
      let s := markLanes la true s
      let s := { s with cr := { s.cr with reads := s.cr.reads ++ laterReads c s.cr.cyc 1 (4 / z) so ++ laterReads c s.cr.cyc 1 1 sd } }
      let op := s.nextId
      la.addrs.foldl (fun s p =>
        enqueueLane op (.store p.2 (leBytes z (laneAt (8 * z) (nthReg data p.1.reg) p.1.lane)) 0) (capRange cap) s) s }

/-- A landed lane of `z` bytes in its line: its bytes, or the line's poison (R278). -/
def landLane (z lane : Nat) (f : Found) (w : GatherLine) : GatherLine :=
  let byte := lane * z
  if w.index != byte / 128 then w
  else
    { w with
      lanes := w.lanes.filter (· != lane)
      write := { w.write with data := w.write.data ||| BitVec.ofNat 1024 (leNat f.bytes * 2 ^ (8 * (byte % 128))), poison := w.write.poison || f.poison } }

/-- A landed lane in a gather in flight; the lanes of the last of its registers also make up what bp0 is to hold. -/
def Landing.takeLane (z lane : Nat) (f : Found) : Landing → Landing
  | .gather ws v b =>
    let hit := ws.any (fun w => w.index == lane * z / 128 && w.last)
    .gather (ws.map (landLane z lane f)) (if hit then v ||| BitVec.ofNat 2048 (leNat f.bytes * 2 ^ (8 * (lane * z % 256))) else v) b
  | w => w

/-- GATHER_LAND: a lane of a gather binds as a scalar load does, and lands in its line (R278, R280). -/
def doGatherLand (k : BitVec 2) (id : Nat) (s : State) : Option State :=
  match s.queued k id with
  | some (⟨_, .gather lane a es fid, _, _⟩, pre) =>
    if s.bindsNow k id pre (.gather lane a es fid) && s.loadReady k id a then
      let found := s.loadFrom a es
      some (({ s with cr := { s.cr with flights := s.cr.flights.map (fun (f : Flight) =>
        if f.id != fid then f else { f with what := f.what.takeLane es lane found }) } }).modCtxAt k (fun c => c.unqueue id))
    else none
  | _ => none
/-- GATHER_LAND (R278). -/
def execGatherLand (s : State) : Host.Outcome State Fault Refusal :=
  match s.event with
  | some (.gatherLand k id) => onEvent (doGatherLand k id s) s
  | _ => .next s


-- The words

/-- VRCPA (R259 to R262). -/
def slotVrcpa (u : VUnit) (n : BitVec 2) (k : BitVec 3) (t : BitVec 1) (d a : BitVec 6) (s : State) : SlotRes :=
  vapprox u n k t d a rcpLane s
/-- The same, issued alone. -/
def execVrcpa (u : VUnit) (n : BitVec 2) (k : BitVec 3) (t : BitVec 1) (d a : BitVec 6) (s : State) : Host.Outcome State Fault Refusal :=
  runAlone (.vrcpa u n k t d a) (slotVrcpa u n k t d a s) s

/-- VRSQA (R259 to R262). -/
def slotVrsqa (u : VUnit) (n : BitVec 2) (k : BitVec 3) (t : BitVec 1) (d a : BitVec 6) (s : State) : SlotRes :=
  vapprox u n k t d a rsqLane s
/-- The same, issued alone. -/
def execVrsqa (u : VUnit) (n : BitVec 2) (k : BitVec 3) (t : BitVec 1) (d a : BitVec 6) (s : State) : Host.Outcome State Fault Refusal :=
  runAlone (.vrsqa u n k t d a) (slotVrsqa u n k t d a s) s

/-- VEXP2A (R259 to R262). -/
def slotVexp2a (u : VUnit) (n : BitVec 2) (k : BitVec 3) (t : BitVec 1) (d a : BitVec 6) (s : State) : SlotRes :=
  vapprox u n k t d a exp2Lane s
/-- The same, issued alone. -/
def execVexp2a (u : VUnit) (n : BitVec 2) (k : BitVec 3) (t : BitVec 1) (d a : BitVec 6) (s : State) : Host.Outcome State Fault Refusal :=
  runAlone (.vexp2a u n k t d a) (slotVexp2a u n k t d a s) s

/-- VLOG2A (R259 to R262). -/
def slotVlog2a (u : VUnit) (n : BitVec 2) (k : BitVec 3) (t : BitVec 1) (d a : BitVec 6) (s : State) : SlotRes :=
  vapprox u n k t d a log2Lane s
/-- The same, issued alone. -/
def execVlog2a (u : VUnit) (n : BitVec 2) (k : BitVec 3) (t : BitVec 1) (d a : BitVec 6) (s : State) : Host.Outcome State Fault Refusal :=
  runAlone (.vlog2a u n k t d a) (slotVlog2a u n k t d a s) s

/-- VRSUM.f32 (R263). -/
def slotVrsumF32 (u : VUnit) (n : BitVec 2) (k : BitVec 3) (t : BitVec 1) (d a : BitVec 6) (s : State) : SlotRes :=
  vreduce u n k t d a 5 true (leafF (fpmFtz s.ctx.sys.fpm)) (arith2 24 s.ctx.sys.fpm addF) 0 s
/-- The same, issued alone. -/
def execVrsumF32 (u : VUnit) (n : BitVec 2) (k : BitVec 3) (t : BitVec 1) (d a : BitVec 6) (s : State) : Host.Outcome State Fault Refusal :=
  runAlone (.vrsumF32 u n k t d a) (slotVrsumF32 u n k t d a s) s

/-- VRSUM.i32 (R263). -/
def slotVrsumI32 (u : VUnit) (n : BitVec 2) (k : BitVec 3) (t : BitVec 1) (d a : BitVec 6) (s : State) : SlotRes :=
  vreduce u n k t d a 3 false (fun x => (x, 0)) (fun a b => ((a + b) % 2 ^ 32, 0)) 0 s
/-- The same, issued alone. -/
def execVrsumI32 (u : VUnit) (n : BitVec 2) (k : BitVec 3) (t : BitVec 1) (d a : BitVec 6) (s : State) : Host.Outcome State Fault Refusal :=
  runAlone (.vrsumI32 u n k t d a) (slotVrsumI32 u n k t d a s) s

/-- VRMAX.f32 (R263). -/
def slotVrmaxF32 (u : VUnit) (n : BitVec 2) (k : BitVec 3) (t : BitVec 1) (d a : BitVec 6) (s : State) : SlotRes :=
  vreduce u n k t d a 5 true (leafF (fpmFtz s.ctx.sys.fpm)) (chooseF 24 true (fpmFtz s.ctx.sys.fpm)) 0xFF800000 s
/-- The same, issued alone. -/
def execVrmaxF32 (u : VUnit) (n : BitVec 2) (k : BitVec 3) (t : BitVec 1) (d a : BitVec 6) (s : State) : Host.Outcome State Fault Refusal :=
  runAlone (.vrmaxF32 u n k t d a) (slotVrmaxF32 u n k t d a s) s

/-- VRMIN.f32 (R263). -/
def slotVrminF32 (u : VUnit) (n : BitVec 2) (k : BitVec 3) (t : BitVec 1) (d a : BitVec 6) (s : State) : SlotRes :=
  vreduce u n k t d a 5 true (leafF (fpmFtz s.ctx.sys.fpm)) (chooseF 24 false (fpmFtz s.ctx.sys.fpm)) 0x7F800000 s
/-- The same, issued alone. -/
def execVrminF32 (u : VUnit) (n : BitVec 2) (k : BitVec 3) (t : BitVec 1) (d a : BitVec 6) (s : State) : Host.Outcome State Fault Refusal :=
  runAlone (.vrminF32 u n k t d a) (slotVrminF32 u n k t d a s) s

/-- VSCAN.i32 (R265). -/
def slotVscanI32 (u : VUnit) (n : BitVec 2) (k : BitVec 3) (t : BitVec 1) (d a : BitVec 6) (s : State) : SlotRes :=
  vscan u n k t d a s
/-- The same, issued alone. -/
def execVscanI32 (u : VUnit) (n : BitVec 2) (k : BitVec 3) (t : BitVec 1) (d a : BitVec 6) (s : State) : Host.Outcome State Fault Refusal :=
  runAlone (.vscanI32 u n k t d a) (slotVscanI32 u n k t d a s) s

/-- VTOPK.f32 (R266). -/
def slotVtopkF32 (u : VUnit) (n : BitVec 2) (k : BitVec 3) (t : BitVec 1) (d a x : BitVec 6) (s : State) : SlotRes :=
  vtopk u n k t d a x s
/-- The same, issued alone. -/
def execVtopkF32 (u : VUnit) (n : BitVec 2) (k : BitVec 3) (t : BitVec 1) (d a x : BitVec 6) (s : State) : Host.Outcome State Fault Refusal :=
  runAlone (.vtopkF32 u n k t d a x) (slotVtopkF32 u n k t d a x s) s

/-- VPERM.32 (R267). -/
def slotVperm32 (u : VUnit) (n : BitVec 2) (k : BitVec 3) (t : BitVec 1) (d a b : BitVec 6) (s : State) : SlotRes :=
  vpermute u n k t d a b 32 s
/-- The same, issued alone. -/
def execVperm32 (u : VUnit) (n : BitVec 2) (k : BitVec 3) (t : BitVec 1) (d a b : BitVec 6) (s : State) : Host.Outcome State Fault Refusal :=
  runAlone (.vperm32 u n k t d a b) (slotVperm32 u n k t d a b s) s

/-- VPERM.16 (R267). -/
def slotVperm16 (u : VUnit) (n : BitVec 2) (k : BitVec 3) (t : BitVec 1) (d a b : BitVec 6) (s : State) : SlotRes :=
  vpermute u n k t d a b 16 s
/-- The same, issued alone. -/
def execVperm16 (u : VUnit) (n : BitVec 2) (k : BitVec 3) (t : BitVec 1) (d a b : BitVec 6) (s : State) : Host.Outcome State Fault Refusal :=
  runAlone (.vperm16 u n k t d a b) (slotVperm16 u n k t d a b s) s

/-- VPERM.8 (R267). -/
def slotVperm8 (u : VUnit) (n : BitVec 2) (k : BitVec 3) (t : BitVec 1) (d a b : BitVec 6) (s : State) : SlotRes :=
  vpermute u n k t d a b 8 s
/-- The same, issued alone. -/
def execVperm8 (u : VUnit) (n : BitVec 2) (k : BitVec 3) (t : BitVec 1) (d a b : BitVec 6) (s : State) : Host.Outcome State Fault Refusal :=
  runAlone (.vperm8 u n k t d a b) (slotVperm8 u n k t d a b s) s

/-- VROTL.32 (R268). -/
def slotVrotl32 (u : VUnit) (n : BitVec 2) (k : BitVec 3) (t : BitVec 1) (d a x : BitVec 6) (s : State) : SlotRes :=
  vrotl u n k t d a x s
/-- The same, issued alone. -/
def execVrotl32 (u : VUnit) (n : BitVec 2) (k : BitVec 3) (t : BitVec 1) (d a x : BitVec 6) (s : State) : Host.Outcome State Fault Refusal :=
  runAlone (.vrotl32 u n k t d a x) (slotVrotl32 u n k t d a x s) s

/-- VZIP.32 (R269). -/
def slotVzip32 (u : VUnit) (n : BitVec 2) (t : BitVec 1) (d a b : BitVec 6) (s : State) : SlotRes :=
  vzipWord u n t d a b zipLane s
/-- The same, issued alone. -/
def execVzip32 (u : VUnit) (n : BitVec 2) (t : BitVec 1) (d a b : BitVec 6) (s : State) : Host.Outcome State Fault Refusal :=
  runAlone (.vzip32 u n t d a b) (slotVzip32 u n t d a b s) s

/-- VUNZIP.32 (R269). -/
def slotVunzip32 (u : VUnit) (n : BitVec 2) (t : BitVec 1) (d a b : BitVec 6) (s : State) : SlotRes :=
  vzipWord u n t d a b unzipLane s
/-- The same, issued alone. -/
def execVunzip32 (u : VUnit) (n : BitVec 2) (t : BitVec 1) (d a b : BitVec 6) (s : State) : Host.Outcome State Fault Refusal :=
  runAlone (.vunzip32 u n t d a b) (slotVunzip32 u n t d a b s) s

/-- VGATH.32 (R276 to R278). -/
def slotVgath32 (n : BitVec 2) (k : BitVec 3) (t : BitVec 1) (d a : BitVec 6) (c : BitVec 5) (s : State) : SlotRes :=
  vgather n k t d a c 4 s
/-- The same, issued alone. -/
def execVgath32 (n : BitVec 2) (k : BitVec 3) (t : BitVec 1) (d a : BitVec 6) (c : BitVec 5) (s : State) : Host.Outcome State Fault Refusal :=
  runAlone (.vgath32 n k t d a c) (slotVgath32 n k t d a c s) s

/-- VSCAT.32 (R276, R277, R279). -/
def slotVscat32 (n : BitVec 2) (k : BitVec 3) (t : BitVec 1) (d a : BitVec 6) (c : BitVec 5) (s : State) : SlotRes :=
  vscatter n k t d a c 4 s
/-- The same, issued alone. -/
def execVscat32 (n : BitVec 2) (k : BitVec 3) (t : BitVec 1) (d a : BitVec 6) (c : BitVec 5) (s : State) : Host.Outcome State Fault Refusal :=
  runAlone (.vscat32 n k t d a c) (slotVscat32 n k t d a c s) s

/-- VGATH.16 (R276 to R278). -/
def slotVgath16 (n : BitVec 2) (k : BitVec 3) (t : BitVec 1) (d a : BitVec 6) (c : BitVec 5) (s : State) : SlotRes :=
  vgather n k t d a c 2 s
/-- The same, issued alone. -/
def execVgath16 (n : BitVec 2) (k : BitVec 3) (t : BitVec 1) (d a : BitVec 6) (c : BitVec 5) (s : State) : Host.Outcome State Fault Refusal :=
  runAlone (.vgath16 n k t d a c) (slotVgath16 n k t d a c s) s

/-- VSCAT.16 (R276, R277, R279). -/
def slotVscat16 (n : BitVec 2) (k : BitVec 3) (t : BitVec 1) (d a : BitVec 6) (c : BitVec 5) (s : State) : SlotRes :=
  vscatter n k t d a c 2 s
/-- The same, issued alone. -/
def execVscat16 (n : BitVec 2) (k : BitVec 3) (t : BitVec 1) (d a : BitVec 6) (c : BitVec 5) (s : State) : Host.Outcome State Fault Refusal :=
  runAlone (.vscat16 n k t d a c) (slotVscat16 n k t d a c s) s

end Sys2Proof.Machine
end

