-- ==== Sys2Proof/Machine/Bundle.lean ====
section
/-! DEFINITION. The slot word of a bundle of several words: what each contributes to the issue attempt (R19). -/

namespace Sys2Proof.Machine

/-- What an instruction contributes to a bundle's issue attempt. An event stands in no slot. -/
def slotRes (i : Instr) (s : State) : SlotRes :=
  match i with
  | .add d a b => slotAdd d a b s
  | .sub d a b => slotSub d a b s
  | .mul d a b => slotMul d a b s
  | .mulh d a b => slotMulh d a b s
  | .mulhn d a b => slotMulhn d a b s
  | .div d a b => slotDiv d a b s
  | .divn d a b => slotDivn d a b s
  | .rem d a b => slotRem d a b s
  | .remn d a b => slotRemn d a b s
  | .and d a b => slotAnd d a b s
  | .or d a b => slotOr d a b s
  | .xor d a b => slotXor d a b s
  | .shl d a b => slotShl d a b s
  | .shr d a b => slotShr d a b s
  | .sar d a b => slotSar d a b s
  | .min d a b => slotMin d a b s
  | .max d a b => slotMax d a b s
  | .minn d a b => slotMinn d a b s
  | .maxn d a b => slotMaxn d a b s
  | .clz d a => slotClz d a s
  | .popc d a => slotPopc d a s
  | .sel d a b p => slotSel d a b p s
  | .addi d a i => slotAddi d a i s
  | .andi d a i => slotAndi d a i s
  | .ori d a i => slotOri d a i s
  | .xori d a i => slotXori d a i s
  | .shli d a i => slotShli d a i s
  | .shri d a i => slotShri d a i s
  | .sari d a i => slotSari d a i s
  | .muli d a i => slotMuli d a i s
  | .movi d i => slotMovi d i s
  | .movs d i => slotMovs d i s
  | .cmpEq p a b => slotCmpEq p a b s
  | .cmpNe p a b => slotCmpNe p a b s
  | .cmpLt p a b => slotCmpLt p a b s
  | .cmpLe p a b => slotCmpLe p a b s
  | .cmpLtn p a b => slotCmpLtn p a b s
  | .cmpLen p a b => slotCmpLen p a b s
  | .cmpiEq p a i => slotCmpiEq p a i s
  | .cmpiNe p a i => slotCmpiNe p a i s
  | .cmpiLt p a i => slotCmpiLt p a i s
  | .cmpiLe p a i => slotCmpiLe p a i s
  | .cmpiGt p a i => slotCmpiGt p a i s
  | .cmpiGe p a i => slotCmpiGe p a i s
  | .pand d a b => slotPand d a b s
  | .por d a b => slotPor d a b s
  | .pxor d a b => slotPxor d a b s
  | .pnot d a => slotPnot d a s
  | .ldI8 x c o => slotLdI8 x c o s
  | .ldN8 x c o => slotLdN8 x c o s
  | .ldI16 x c o => slotLdI16 x c o s
  | .ldN16 x c o => slotLdN16 x c o s
  | .ldI32 x c o => slotLdI32 x c o s
  | .ldN32 x c o => slotLdN32 x c o s
  | .ldI64 x c o => slotLdI64 x c o s
  | .st8 x c o => slotSt8 x c o s
  | .st16 x c o => slotSt16 x c o s
  | .st32 x c o => slotSt32 x c o s
  | .st64 x c o => slotSt64 x c o s
  | .ldc d c o => slotLdc d c o s
  | .stc d c o => slotStc d c o s
  | .clim d a b => slotClim d a b s
  | .climx d a b => slotClimx d a b s
  | .cmask d a b => slotCmask d a b s
  | .cadv d a b => slotCadv d a b s
  | .cadvi d a i => slotCadvi d a i s
  | .cpos d a b => slotCpos d a b s
  | .cget d a s_ => slotCget d a s_ s
  | .cmov d a => slotCmov d a s
  | .cseal d a s_ => slotCseal d a s_ s
  | .cunseal d a s_ => slotCunseal d a s_ s
  | .ctest p a b c => slotCtest p a b c s
  | .cclr d a => slotCclr d a s
  | .mfs d n => slotMfs d n s
  | .mts a n => slotMts a n s
  | .mtdCap d c => slotMtdCap d c s
  | .mtdValue d s_ a => slotMtdValue d s_ a s
  | .mtstr s_ e a => slotMtstr s_ e a s
  | .time d => slotTime d s
  | .vaddF32 u n k t d a b => slotVaddF32 u n k t d a b s
  | .vaddBf16 u n k t d a b => slotVaddBf16 u n k t d a b s
  | .vaddI32 u n k t d a b => slotVaddI32 u n k t d a b s
  | .vaddI16 u n k t d a b => slotVaddI16 u n k t d a b s
  | .vaddI8 u n k t d a b => slotVaddI8 u n k t d a b s
  | .vsubF32 u n k t d a b => slotVsubF32 u n k t d a b s
  | .vsubBf16 u n k t d a b => slotVsubBf16 u n k t d a b s
  | .vsubI32 u n k t d a b => slotVsubI32 u n k t d a b s
  | .vsubI16 u n k t d a b => slotVsubI16 u n k t d a b s
  | .vsubI8 u n k t d a b => slotVsubI8 u n k t d a b s
  | .vmulF32 u n k t d a b => slotVmulF32 u n k t d a b s
  | .vmulBf16 u n k t d a b => slotVmulBf16 u n k t d a b s
  | .vmulI32 u n k t d a b => slotVmulI32 u n k t d a b s
  | .vmulI16 u n k t d a b => slotVmulI16 u n k t d a b s
  | .vfmaF32 u n k t d a b => slotVfmaF32 u n k t d a b s
  | .vfmaBf16 u n k t d a b => slotVfmaBf16 u n k t d a b s
  | .vfmsF32 u n k t d a b => slotVfmsF32 u n k t d a b s
  | .vfmsBf16 u n k t d a b => slotVfmsBf16 u n k t d a b s
  | .vmaxF32 u n k t d a b => slotVmaxF32 u n k t d a b s
  | .vmaxBf16 u n k t d a b => slotVmaxBf16 u n k t d a b s
  | .vmaxI32 u n k t d a b => slotVmaxI32 u n k t d a b s
  | .vmaxI16 u n k t d a b => slotVmaxI16 u n k t d a b s
  | .vmaxI8 u n k t d a b => slotVmaxI8 u n k t d a b s
  | .vminF32 u n k t d a b => slotVminF32 u n k t d a b s
  | .vminBf16 u n k t d a b => slotVminBf16 u n k t d a b s
  | .vminI32 u n k t d a b => slotVminI32 u n k t d a b s
  | .vminI16 u n k t d a b => slotVminI16 u n k t d a b s
  | .vminI8 u n k t d a b => slotVminI8 u n k t d a b s
  | .vabsF32 u n k t d a => slotVabsF32 u n k t d a s
  | .vabsI32 u n k t d a => slotVabsI32 u n k t d a s
  | .vnegF32 u n k t d a => slotVnegF32 u n k t d a s
  | .vnegI32 u n k t d a => slotVnegI32 u n k t d a s
  | .vaddsI16 u n k t d a b => slotVaddsI16 u n k t d a b s
  | .vaddsI8 u n k t d a b => slotVaddsI8 u n k t d a b s
  | .vsubsI16 u n k t d a b => slotVsubsI16 u n k t d a b s
  | .vsubsI8 u n k t d a b => slotVsubsI8 u n k t d a b s
  | .vmulhI32 u n k t d a b => slotVmulhI32 u n k t d a b s
  | .vand u n k t d a b => slotVand u n k t d a b s
  | .vor u n k t d a b => slotVor u n k t d a b s
  | .vxor u n k t d a b => slotVxor u n k t d a b s
  | .vnot u n k t d a => slotVnot u n k t d a s
  | .vshlI32 u n k t d a b => slotVshlI32 u n k t d a b s
  | .vshrI32 u n k t d a b => slotVshrI32 u n k t d a b s
  | .vsarI32 u n k t d a b => slotVsarI32 u n k t d a b s
  | .vcmpF32Eq u n k t d a b => slotVcmpF32Eq u n k t d a b s
  | .vcmpF32Ne u n k t d a b => slotVcmpF32Ne u n k t d a b s
  | .vcmpF32Lt u n k t d a b => slotVcmpF32Lt u n k t d a b s
  | .vcmpF32Le u n k t d a b => slotVcmpF32Le u n k t d a b s
  | .vcmpI32Eq u n k t d a b => slotVcmpI32Eq u n k t d a b s
  | .vcmpI32Ne u n k t d a b => slotVcmpI32Ne u n k t d a b s
  | .vcmpI32Lt u n k t d a b => slotVcmpI32Lt u n k t d a b s
  | .vcmpI32Le u n k t d a b => slotVcmpI32Le u n k t d a b s
  | .vsel u n k t d a b => slotVsel u n k t d a b s
  | .vbcx32 u n k t d x => slotVbcx32 u n k t d x s
  | .vbcx16 u n k t d x => slotVbcx16 u n k t d x s
  | .vmov u n k t d a => slotVmov u n k t d a s
  | .vcvtF32Bf16 u n k t d a => slotVcvtF32Bf16 u n k t d a s
  | .vcvtBf16F32 u n k t d a => slotVcvtBf16F32 u n k t d a s
  | .vcvtF32I32 u n k t d a => slotVcvtF32I32 u n k t d a s
  | .vcvtI32F32 u n k t d a => slotVcvtI32F32 u n k t d a s
  | .vcvtI32I16 u n k t d a => slotVcvtI32I16 u n k t d a s
  | .vcvtI16I32 u n k t d a => slotVcvtI16I32 u n k t d a s
  | .vcvtI16I8 u n k t d a => slotVcvtI16I8 u n k t d a s
  | .vcvtI8I16 u n k t d a => slotVcvtI8I16 u n k t d a s
  | .vqntMx8 u n k t d a b => slotVqntMx8 u n k t d a b s
  | .vqntMx6 u n k t d a b => slotVqntMx6 u n k t d a b s
  | .vqntMx4 u n k t d a b => slotVqntMx4 u n k t d a b s
  | .vamaxF32 u n k t a => slotVamaxF32 u n k t a s
  | .vamaxBf16 u n k t a => slotVamaxBf16 u n k t a s
  | .vdqntMx8 u n k t d a b => slotVdqntMx8 u n k t d a b s
  | .vdqntMx6 u n k t d a b => slotVdqntMx6 u n k t d a b s
  | .vdqntMx4 u n k t d a b => slotVdqntMx4 u n k t d a b s
  | .vplnMx8 u n t d a => slotVplnMx8 u n t d a s
  | .vplnMx6 u n t d a => slotVplnMx6 u n t d a s
  | .vplnMx4 u n t d a => slotVplnMx4 u n t d a s
  | .vuplnMx8 u n t d a => slotVuplnMx8 u n t d a s
  | .vuplnMx6 u n t d a => slotVuplnMx6 u n t d a s
  | .vuplnMx4 u n t d a => slotVuplnMx4 u n t d a s
  | .vrcpa u n k t d a => slotVrcpa u n k t d a s
  | .vrsqa u n k t d a => slotVrsqa u n k t d a s
  | .vexp2a u n k t d a => slotVexp2a u n k t d a s
  | .vlog2a u n k t d a => slotVlog2a u n k t d a s
  | .vrsumF32 u n k t d a => slotVrsumF32 u n k t d a s
  | .vrsumI32 u n k t d a => slotVrsumI32 u n k t d a s
  | .vrmaxF32 u n k t d a => slotVrmaxF32 u n k t d a s
  | .vrminF32 u n k t d a => slotVrminF32 u n k t d a s
  | .vscanI32 u n k t d a => slotVscanI32 u n k t d a s
  | .vtopkF32 u n k t d a x => slotVtopkF32 u n k t d a x s
  | .vperm32 u n k t d a b => slotVperm32 u n k t d a b s
  | .vperm16 u n k t d a b => slotVperm16 u n k t d a b s
  | .vperm8 u n k t d a b => slotVperm8 u n k t d a b s
  | .vrotl32 u n k t d a x => slotVrotl32 u n k t d a x s
  | .vzip32 u n t d a b => slotVzip32 u n t d a b s
  | .vunzip32 u n t d a b => slotVunzip32 u n t d a b s
  | .vxtr32 u t d a x => slotVxtr32 u t d a x s
  | .vins32 u k t d a b => slotVins32 u k t d a b s
  | .viota32 u n k t d x => slotViota32 u n k t d x s
  | .vlutBf16 u n k t d a => slotVlutBf16 u n k t d a s
  | .vltld u t a => slotVltld u t a s
  | .vgath32 n k t d a c => slotVgath32 n k t d a c s
  | .vgath16 n k t d a c => slotVgath16 n k t d a c s
  | .vscat32 n k t d a c => slotVscat32 n k t d a c s
  | .vscat16 n k t d a c => slotVscat16 n k t d a c s
  | .mma a b t g => slotMma a b t g s
  | .mmaOw a b t g => slotMmaOw a b t g s
  | .mzero t => slotMzero t s
  | .mres t => slotMres t s
  | .mrdF32 v t c f => slotMrdF32 v t c f s
  | .mrdBf16 v t c f => slotMrdBf16 v t c f s
  | .mwrF32 v t c f => slotMwrF32 v t c f s
  | .mscl v t c f => slotMscl v t c f s
  | .mrowmax v t c f => slotMrowmax v t c f s
  | .getc u d q r s_ m x g => slotGetc u d q r s_ m x g s
  | .putc u d q r s_ m x g => slotPutc u d q r s_ m x g s
  | .getp u d q r s_ m x g => slotGetp u d q r s_ m x g s
  | .xfer u d q r s_ m x g => slotXfer u d q r s_ m x g s
  | .bget u d m x g => slotBget u d m x g s
  | .pref u d => slotPref u d s
  | .putr u d q r s_ m x g => slotPutr u d q r s_ m x g s
  | .cflush u n => slotCflush u n s
  | .fence a b c s_ k => slotFence a b c s_ k s
  | .fenceall s_ k => slotFenceall s_ k s
  | .aaddI32 d c x s_ q r => slotAaddI32 d c x s_ q r s
  | .aaddI64 d c x s_ q r => slotAaddI64 d c x s_ q r s
  | .aminI64 d c x s_ q r => slotAminI64 d c x s_ q r s
  | .amaxI64 d c x s_ q r => slotAmaxI64 d c x s_ q r s
  | .aminnN64 d c x s_ q r => slotAminnN64 d c x s_ q r s
  | .amaxnN64 d c x s_ q r => slotAmaxnN64 d c x s_ q r s
  | .aand d c x s_ q r => slotAand d c x s_ q r s
  | .aor d c x s_ q r => slotAor d c x s_ q r s
  | .axor d c x s_ q r => slotAxor d c x s_ q r s
  | .axchg d c x s_ q r => slotAxchg d c x s_ q r s
  | .acas d c x s_ q r => slotAcas d c x s_ q r s
  | .acas2 d c x s_ q r => slotAcas2 d c x s_ q r s
  | .afaddF32 d c x s_ q r => slotAfaddF32 d c x s_ q r s
  | .ainit a n => slotAinit a n s
  | .arrive d a s_ n => slotArrive d a s_ n s
  | .waitph d a p l => slotWaitph d a p l s
  | .lacqR d c s_ => slotLacqR d c s_ s
  | .lacqW d c s_ => slotLacqW d c s_ s
  | .lrel d c s_ => slotLrel d c s_ s
  | .lrenew d c s_ => slotLrenew d c s_ s
  | .harv d c s_ => slotHarv d c s_ s
  | .sealLines a b c => slotSealLines a b c s
  | .openLines a b c => slotOpenLines a b c s
  | .hwin d c => slotHwin d c s
  | .mgmatch t a b => slotMgmatch t a b s
  | .mgsel a b c => slotMgsel a b c s
  | .mgmerge a b c => slotMgmerge a b c s
  | .mgunm a b c => slotMgunm a b c s
  | .mglogs a b => slotMglogs a b s
  | .trap i => slotTrapInstr i s
  | .signal a i => slotSignal a i s
  | .br p n o => slotBr p n o s
  | .jmp p n i => slotJmp p n i s
  | .jmpx p n a => slotJmpx p n a s
  | .call p n i => slotCall p n i s
  | .ret p n => slotRet p n s
  | .loop a s_ e => slotLoop a s_ e s
  | .rot n => slotRot n s
  | .waitl a n => slotWaitl a n s
  | .waitt t => slotWaitt t s
  | .waitc n => slotWaitc n s
  | .brk i => slotBrk i s
  | .nop => slotNop s
  | .lsync => slotLsync s
  | .yield => slotYield s
  | .taskEnd => slotEnd s
  | .fetchPastEnd => { slot := .s, illegal := true }
  | .waitCounterExpiry => { slot := .s, illegal := true }
  | .engineWaitEnd => { slot := .s, illegal := true }
  | .coreClockGate => { slot := .s, illegal := true }
  | .coreWake => { slot := .s, illegal := true }
  | .dispatchOpportunity => { slot := .s, illegal := true }
  | .gangReserve => { slot := .s, illegal := true }
  | .gangEvict => { slot := .s, illegal := true }
  | .evictionComplete => { slot := .s, illegal := true }
  | .gangRestore => { slot := .s, illegal := true }
  | .drainComplete => { slot := .s, illegal := true }
  | .contextResume => { slot := .s, illegal := true }
  | .contextEnd => { slot := .s, illegal := true }
  | .asyncFaultDelivery => { slot := .s, illegal := true }
  | .vectorBypassFill => { slot := .s, illegal := true }
  | .vectorLineWrite => { slot := .s, illegal := true }
  | .maskWrite => { slot := .s, illegal := true }
  | .divideResult => { slot := .s, illegal := true }
  | .loadReturn => { slot := .s, illegal := true }
  | .storeApply => { slot := .s, illegal := true }
  | .writeAck => { slot := .s, illegal := true }
  | .atomicReturn => { slot := .s, illegal := true }
  | .atomicFail => { slot := .s, illegal := true }
  | .gatherLand => { slot := .s, illegal := true }
  | .tileRetire => { slot := .s, illegal := true }
  | .residueReplay => { slot := .s, illegal := true }
  | .residue => { slot := .s, illegal := true }
  | .releaseComplete => { slot := .s, illegal := true }
  | .acquireComplete => { slot := .s, illegal := true }
  | .pinRetryTimeout => { slot := .s, illegal := true }
  | .signalRecordWrite => { slot := .s, illegal := true }
  | .timedEligible => { slot := .s, illegal := true }
  | .copyActivate => { slot := .s, illegal := true }
  | .copyLineLand => { slot := .s, illegal := true }
  | .copyAck => { slot := .s, illegal := true }
  | .copyComplete => { slot := .s, illegal := true }
  | .copyFail => { slot := .s, illegal := true }
  | .arriveApply => { slot := .s, illegal := true }
  | .waitphTimeout => { slot := .s, illegal := true }
  | .tlbWalkEnd => { slot := .s, illegal := true }
  | .pageService => { slot := .s, illegal := true }
  | .pageResident => { slot := .s, illegal := true }
  | .pageServiceFail => { slot := .s, illegal := true }
  | .shootDown => { slot := .s, illegal := true }
  | .shootDownComplete => { slot := .s, illegal := true }
  | .pageMigrate => { slot := .s, illegal := true }
  | .revoke => { slot := .s, illegal := true }
  | .revokeComplete => { slot := .s, illegal := true }
  | .revocationSweep => { slot := .s, illegal := true }
  | .daSweep => { slot := .s, illegal := true }
  | .harvestComplete => { slot := .s, illegal := true }
  | .scrubStep => { slot := .s, illegal := true }
  | .accumulatorScrub => { slot := .s, illegal := true }
  | .mgCommandComplete => { slot := .s, illegal := true }
  | .mergeClaimTimeout => { slot := .s, illegal := true }
  | .mergeClaim => { slot := .s, illegal := true }
  | .cipherLineDone => { slot := .s, illegal := true }
  | .rekey => { slot := .s, illegal := true }
  | .rekeyComplete => { slot := .s, illegal := true }
  | .worldCreate => { slot := .s, illegal := true }
  | .worldDestroy => { slot := .s, illegal := true }
  | .programLoad => { slot := .s, illegal := true }
  | .coreClear => { slot := .s, illegal := true }
  | .spdmGetMeasurements => { slot := .s, illegal := true }
  | .ltTick => { slot := .s, illegal := true }
  | .lineFill => { slot := .s, illegal := true }
  | .copyAgeing => { slot := .s, illegal := true }
  | .writeRefused => { slot := .s, illegal := true }
  | .leaseGrant => { slot := .s, illegal := true }
  | .leaseAcquireTimeout => { slot := .s, illegal := true }
  | .leaseRenewResponse => { slot := .s, illegal := true }
  | .leaseReleaseResponse => { slot := .s, illegal := true }
  | .leaseExpiry => { slot := .s, illegal := true }
  | .leaseRenewalDue => { slot := .s, illegal := true }
  | .bulkGetPage => { slot := .s, illegal := true }
  | .jasperWalk => { slot := .s, illegal := true }
  | .leaseRetry => { slot := .s, illegal := true }
  | .checkpointJob => { slot := .s, illegal := true }
  | .tmodeWrite => { slot := .s, illegal := true }
  | .tenantReset => { slot := .s, illegal := true }
  | .doorbellNotify => { slot := .s, illegal := true }
  | .queueMap => { slot := .s, illegal := true }
  | .queueUnmap => { slot := .s, illegal := true }
  | .dispatchWrite => { slot := .s, illegal := true }
  | .evciWrite => { slot := .s, illegal := true }
  | .armTag => { slot := .s, illegal := true }
  | .disarmTag => { slot := .s, illegal := true }
  | .armedMessage => { slot := .s, illegal := true }
  | .windowOpen => { slot := .s, illegal := true }
  | .windowClose => { slot := .s, illegal := true }
  | .hostWindowWrite => { slot := .s, illegal := true }
  | .channelUpdate => { slot := .s, illegal := true }
  | .channelReset => { slot := .s, illegal := true }
  | .registerWrite => { slot := .s, illegal := true }
  | .flitReceive => { slot := .s, illegal := true }
  | .flitReplay => { slot := .s, illegal := true }
  | .laneMapChange => { slot := .s, illegal := true }
  | .heaterLimit => { slot := .s, illegal := true }
  | .vetoTimeout => { slot := .s, illegal := true }
  | .microcontrollerReset => { slot := .s, illegal := true }
  | .retuneMarginExpiry => { slot := .s, illegal := true }
  | .windowGrant => { slot := .s, illegal := true }
  | .cumulativeAck => { slot := .s, illegal := true }
  | .pathFailureResend => { slot := .s, illegal := true }
  | .arbiterGrant => { slot := .s, illegal := true }
  | .arbiterRequest => { slot := .s, illegal := true }
  | .topologyChangeRequest => { slot := .s, illegal := true }
  | .topologyPrepare => { slot := .s, illegal := true }
  | .topologyCommit => { slot := .s, illegal := true }
  | .topologyAbort => { slot := .s, illegal := true }
  | .prepareTimeout => { slot := .s, illegal := true }
  | .decisionQuery => { slot := .s, illegal := true }
  | .coordinatorUnreachable => { slot := .s, illegal := true }
  | .reductionSetup => { slot := .s, illegal := true }
  | .reductionTeardown => { slot := .s, illegal := true }
  | .contributionArrival => { slot := .s, illegal := true }
  | .ilimSet => { slot := .s, illegal := true }
  | .freezeCycle => { slot := .s, illegal := true }
  | .temperatureSample => { slot := .s, illegal := true }
  | .voltageDroop => { slot := .s, illegal := true }
  | .processSample => { slot := .s, illegal := true }
  | .hardwareError => { slot := .s, illegal := true }
  | .healthLogClear => { slot := .s, illegal := true }
  | .packageReset => { slot := .s, illegal := true }
  | .firmwareLoad => { slot := .s, illegal := true }
  | .quiesce => { slot := .s, illegal := true }
  | .powerOff => { slot := .s, illegal := true }
  | .supplyRecovery => { slot := .s, illegal := true }
  | .laneVeto => { slot := .s, illegal := true }
  | .retuningResume => { slot := .s, illegal := true }
  | .slotStart => { slot := .s, illegal := true }
  | .prepareAnswer => { slot := .s, illegal := true }
  | .objectCreate => { slot := .s, illegal := true }
  | .objectDelete => { slot := .s, illegal := true }
  | .harvestListOpen => { slot := .s, illegal := true }
  | .tstepSet => { slot := .s, illegal := true }
  | .hostLeaseRenewal => { slot := .s, illegal := true }

end Sys2Proof.Machine
end

