-- ==== Sys2Proof/Machine/Context.lean ====
section
/-! DEFINITION. The contexts of a core from cycle to cycle (R17, R18, R74 to R79, R346, R537, R545, R546): the bundle at a PC, which
context is ready, the waits that end, the delivery of asynchronous faults, the selector, freeze cycles and gating. -/

namespace Sys2Proof.Machine

/-- The four contexts. -/
def allK : List (BitVec 2) := [0, 1, 2, 3]

-- The bundle at the PC

/-- The eight slot words of bundle `pc` of a core's instruction memory (R17). -/
def State.words (s : State) (g pc : Nat) : List (Slot × SlotWord) :=
  let bytes := memRead s.imem (g * 2 ^ 18 + 32 * pc) 32
  Slot.all.map (fun sl => (sl, BitVec.ofNat 32 (leNat ((bytes.drop (4 * sl.index)).take 4))))

/-- The words that are not no-operations (R24). -/
def State.activeWords (s : State) : List (Slot × SlotWord) := (s.words s.g s.ctx.pc.toNat).filter (fun w => w.2 != 0)

/-- What one slot word contributes: the word of no instruction, and the ill-formed one, is ILLEGAL (R25). -/
def State.wordRes (s : State) (w : Slot × SlotWord) : SlotRes :=
  match decodeSlot w.1 w.2 with
  | .ok i => { slotRes i s with illegal := (slotRes i s).illegal || !i.wellFormed }
  | .error _ => { slot := w.1, illegal := true }

/-- The bundle that the context at hand would issue next. -/
def State.bundle (s : State) : List SlotRes := s.activeWords.map s.wordRes

/-- The core at hand with another context as the one being stepped. -/
def State.withCur (s : State) (k : BitVec 2) : State := { s with cr := { s.cr with cur := k } }

-- Readiness

/-- A wait of an issued bundle, or an acquire whose completion the next bundle awaits, stands in the way (R23, R374). -/
def Ctx.blocked (c : Ctx) : Bool := !c.waits.isEmpty || c.mq.any (fun o => o.hold)

/-- The hold on a bundle apart from engines that another context has left busy (R48, R74). -/
def ownHold (rs : List SlotRes) (s : State) : Option Hold :=
  rs.foldl (fun h r => Hold.join h (Hold.join r.hold (r.ownEngineHold s.cr))) (resourceHold rs s)

/-- What an attempt of a context's next bundle would meet: a fault, its own hold, or nothing. -/
def State.outlook (s : State) (k : BitVec 2) : Option Hold :=
  let s := s.withCur k
  if 8192 ≤ s.ctx.pc.toNat then none
  else match verdict s.bundle s with
    | .fault .. => none
    | .hold _ => ownHold s.bundle s
    | .go => none

/-- A context is ready: in READY or RUN, with nothing of its own that holds its next bundle; one whose next bundle faults is
ready to take the fault (R74). -/
def State.isReady (s : State) (k : BitVec 2) : Bool :=
  let c := s.ctxAt k
  (c.state == .ready || c.state == .run) && !c.blocked && (s.outlook k).isNone

/-- A context that stands at a bundle boundary and runs its task. -/
def Ctx.standing (c : Ctx) : Bool := c.state == .ready || c.state == .run || c.state == .wait

-- Claims of the merge unit

/-- The core and its context with the cluster's merge unit in its hands (R450). -/
def State.asOwner (s : State) (k : BitVec 2) : State := s.modMerge (clusterOf s.g) (fun u => { u with owner := some (s.g, k) })

/-- A context of the core at hand still tries to issue the bundle at `pc`, and would issue it if the unit were its own (R450). -/
def State.claimStands (s : State) (k : BitVec 2) (pc : Nat) : Bool :=
  let c := s.ctxAt k
  let t := (s.asOwner k).withCur k
  c.standing && !c.blocked && c.pc.toNat == pc && pc < 8192 &&
    (match verdict t.bundle t with
     | .fault .. => false
     | .hold _ => (ownHold t.bundle t).isNone
     | .go => true)

/-- The claims that still stand, in the order in which their bundles first tried to issue (R450). -/
def State.liveClaims (s : State) (cl : Nat) : List (Nat × BitVec 2 × Nat × Word) :=
  (s.mergeAt cl).claims.filter (fun c => (s.focus c.1).claimStands c.2.1 c.2.2.1)

/-- The unit goes to the first claim (R450, R451). -/
def State.passMerge (s : State) (cl : Nat) : Option State :=
  match s.liveClaims cl with
  | [] => none
  | (g, k, _) :: _ =>
    let s := s.stripOwner cl
    some (s.modMerge cl (fun u => { u with owner := some (g, k), ownerCmd := s.tnow, claims := u.claimsBut g k }))

/-- MERGE_CLAIM: a waiting claim obtains the unit, because it has no owner or its owner is in HALT or DRAIN or leaves (R450). -/
def doMergeClaim (cl : Nat) (s : State) : Option State :=
  let u := s.mergeAt cl
  match u.owner with
  | none => s.passMerge cl
  | some (g, k) =>
    let c := (s.coreAt g).ctxs[k.toNat]
    if !u.matching g k && (c.state == .halt || c.state == .drain || c.state == .free || c.state == .evicting) then s.passMerge cl else none
/-- MERGE_CLAIM (R450). -/
def execMergeClaim (s : State) : Host.Outcome State Fault Refusal :=
  match s.event with
  | some (.mergeClaim cl) => onEvent (doMergeClaim cl s) s
  | _ => .next s

/-- MERGE_CLAIM_TIMEOUT: the owner has issued no command for 65 536 cycles while a claim waits (R450). -/
def doMergeClaimTimeout (cl : Nat) (s : State) : Option State :=
  let u := s.mergeAt cl
  match u.owner, s.liveClaims cl with
  | some (g, k), (_, _, _, t) :: _ =>
    if !u.matching g k && max u.ownerCmd.toNat t.toNat + 65536 ≤ s.tnow.toNat then s.passMerge cl else none
  | _, _ => none
/-- MERGE_CLAIM_TIMEOUT (R450). -/
def execMergeClaimTimeout (s : State) : Host.Outcome State Fault Refusal :=
  match s.event with
  | some (.mergeClaimTimeout cl) => onEvent (doMergeClaimTimeout cl s) s
  | _ => .next s

-- Waits that end

/-- A pending wait is satisfied; WAITPH ends by its own event (R201, R312, R346). -/
def State.pendingMet (s : State) (k : BitVec 2) : Pending → Bool
  | .lines first n => (List.range n).all (fun i => (s.metaAt (relKey s (s.ctxAt k) (first + i))).full)
  | .tile t =>
    let t := (s.ctxAt k).sys.tilesFirst.toNat + t.toNat
    !s.cr.tileBusy t && !s.mergeReads t
  | .copies n => (s.cr.copies.filter (fun m => m.k == k && !m.hasFailed)).length ≤ n
  | .phase .. => false

/-- The scratchpad lines that a command was to write, by key of the line table: those of a GET or GETP, and where an XFER's and a scratchpad PUT's
pieces go (R331, R340). -/
def State.destKeys (s : State) (m : Copy) : List Nat :=
  if m.op.fillsLines then m.lines.map (lineKey s.g) else undelivered s { m with todo := m.desc.pieces m.op, unfilled := [] }

/-- The failed copy whose fault a satisfied wait delivers: the lowest-issued one that it covers (R201, R346). -/
def State.coveredCopy (s : State) (k : BitVec 2) : Pending → Option Copy
  | .lines first n =>
    let lo := lineKey s.g ((s.ctxAt k).sys.allocBase.toNat + first)
    s.cr.copies.find? (fun m => m.k == k && m.hasFailed && (s.destKeys m).any (fun l => lo ≤ l && l < lo + n))
  | .copies _ => s.cr.copies.find? (fun m => m.k == k && m.hasFailed)
  | _ => none

/-- A context in READY or WAIT comes to an MGMATCH that it cannot issue: its claim takes its place (R450). None where it has none to make. -/
def State.noteClaim (s : State) (k : BitVec 2) : Option State :=
  let t := s.withCur k
  let cl := clusterOf s.g
  if (s.ctxAt k).blocked || 8192 ≤ t.ctx.pc.toNat then none
  else
    match verdict t.bundle t with
    | .hold _ =>
      let claims := ((t.bundle.foldl (fun u r => r.onHold u) t).mergeAt cl).claims
      if claims = (s.mergeAt cl).claims then none else some (s.modMerge cl (fun u => { u with claims := claims }))
    | _ => none

/-- ENGINE_WAIT_END: a satisfied wait delivers the copy faults it covers, one after the other, and is over once none is left; a context in WAIT
whose next bundle nothing of its own holds becomes READY, and so does one in PAGE whose page has come and whose drain is over; one that waits to
issue an MGMATCH claims the merge unit (R66, R75, R81, R201, R346, R450). -/
def doEngineWaitEnd (k : BitVec 2) (s : State) : Option State :=
  let c := s.ctxAt k
  if c.state == .page && c.pageWait.isNone then (if s.pageDrained k then some (s.setCtxAt k { c with state := .ready }) else none)
  else if !c.standing then none
  else
    match c.waits.find? (s.pendingMet k) with
    | some w =>
      some (match s.coveredCopy k w with
        | some m => (retireCopy m.id s).takeFault k m.fault c.pc.toNat true
        | none => s.setCtxAt k { c with waits := c.waits.erase w })
    | none =>
      if c.state == .wait && !c.blocked && s.outlook k != some .engine then some (s.setCtxAt k { c with state := .ready })
      else if c.state == .run then none
      else s.noteClaim k
/-- ENGINE_WAIT_END (R75). -/
def execEngineWaitEnd (s : State) : Host.Outcome State Fault Refusal :=
  match s.event with
  | some (.engineWaitEnd k) => onEvent (doEngineWaitEnd k s) s
  | _ => .next s

-- Faults at a boundary

/-- ASYNC_FAULT_DELIVERY: the first of the due faults is delivered at the boundary at which the context stands (R537), with ASYNC = 1; that an
asynchronous ECC_UNCORR sets it too is a DESIGN CHOICE of the log (R92, R197). -/
def doAsyncFaultDelivery (k : BitVec 2) (s : State) : Option State :=
  let c := s.ctxAt k
  match firstDue c.due with
  | none => none
  | some f =>
    if !c.standing then none
    else
      let s := s.setCtxAt k { c with due := c.due.erase f }
      some (s.takeFault k { code := f.code, trapi := f.trapi, async := true } (f.pc.getD c.pc.toNat) true)
/-- ASYNC_FAULT_DELIVERY (R537). -/
def execAsyncFaultDelivery (s : State) : Host.Outcome State Fault Refusal :=
  match s.event with
  | some (.asyncFaultDelivery k) => onEvent (doAsyncFaultDelivery k s) s
  | _ => .next s

/-- FETCH_PAST_END: the running context's next PC is 8192; ILLEGAL is reported against bundle 8191 (R18, R30). -/
def doFetchPastEnd (k : BitVec 2) (s : State) : Option State :=
  let c := s.ctxAt k
  if c.state == .run && !c.blocked && 8192 ≤ c.pc.toNat then some (s.takeFault k (slotTrap .illegal 0xFF) 8191 false) else none
/-- FETCH_PAST_END (R18). -/
def execFetchPastEnd (s : State) : Host.Outcome State Fault Refusal :=
  match s.event with
  | some (.fetchPastEnd k) => onEvent (doFetchPastEnd k s) s
  | _ => .next s

-- The selector

/-- The context in RUN. -/
def State.running (s : State) : Option (BitVec 2) := allK.find? (fun k => (s.ctxAt k).state == .run)

/-- The order in which the selector looks: from the one after the context that issued last (R76); DESIGN CHOICE: from K0 where none has. -/
def Core.order (c : Core) : List (BitVec 2) :=
  let i := c.last.getD 3
  [i + 1, i + 2, i + 3, i]

/-- The context with the highest wait counter among those at 8192 or more that are in READY or RUN, lowest K among equals (R78). -/
def State.longestWait (s : State) : Option (BitVec 2) :=
  allK.foldl (fun best k =>
    let n := (s.ctxAt k).waitCnt
    if ((s.ctxAt k).state != .ready && (s.ctxAt k).state != .run) || n < 8192 then best
    else match best with
      | some b => if (s.ctxAt b).waitCnt < n then some k else some b
      | none => some k) none

/-- The choice of R76 among ready contexts, a yielding one passed over; a counter at 8192 goes first (R78, R101). -/
def State.selection (s : State) : Option (BitVec 2) :=
  match s.longestWait with
  | some k => some k
  | none =>
    let ready := s.cr.order.filter (fun k => s.isReady k && !(s.ctxAt k).yielded)
    let top := (ready.map (fun k => (s.ctxAt k).prio.toNat)).foldl max 0
    ready.find? (fun k => (s.ctxAt k).prio.toNat == top)

/-- A context put into RUN; the one that was in RUN becomes READY (R66). -/
def State.run (s : State) (k : BitVec 2) : State :=
  let s : State := { s with cr := { s.cr with ctxs := s.cr.ctxs.map (fun c =>
    { c with yielded := false, state := if c.state == .run then .ready else c.state }), cur := k } }
  s.modCtxAt k (fun c => { c with state := .run })

/-- A switch to a context costs 4 cycles unless it issued last, or none has issued since package reset (R77); `now` of them are still
to pass after this one. -/
def State.switchTo (s : State) (k : BitVec 2) (now : Nat) : State :=
  let free := s.cr.last == none || s.cr.last == some k
  let s := s.run k
  { s with cr := { s.cr with switchLeft := if free then 0 else now } }

/-- WAIT_COUNTER_EXPIRY: at the running context's boundary the longest waiter takes its place, unless it is the running one (R78). -/
def doWaitCounterExpiry (s : State) : Option State :=
  match s.running, s.longestWait with
  | some k, some j => if s.cr.switchLeft = 0 && j != k then some (s.switchTo j 4) else none
  | _, _ => none
/-- WAIT_COUNTER_EXPIRY (R78). -/
def execWaitCounterExpiry (s : State) : Host.Outcome State Fault Refusal :=
  match s.event with
  | some .waitCounterExpiry => onEvent (doWaitCounterExpiry s) s
  | _ => .next s

-- Gating

/-- Some context of the core is ready. -/
def State.someReady (s : State) : Bool := allK.any s.isReady

/-- CORE_CLOCK_GATE: after 64 idle cycles in a row (R79). -/
def doCoreClockGate (s : State) : Option State :=
  if !s.cr.gated && 64 ≤ s.cr.idle then some { s with cr := { s.cr with gated := true } } else none
/-- CORE_CLOCK_GATE (R79). -/
def execCoreClockGate (s : State) : Host.Outcome State Fault Refusal :=
  match s.event with
  | some .coreClockGate => onEvent (doCoreClockGate s) s
  | _ => .next s

/-- CORE_WAKE: a gated core with a ready context wakes 2 cycles later (R79). -/
def doCoreWake (s : State) : Option State :=
  if s.cr.gated && s.someReady then some { s with cr := { s.cr with gated := false, idle := 0, wakeLeft := 2 } } else none
/-- CORE_WAKE (R79). -/
def execCoreWake (s : State) : Host.Outcome State Fault Refusal :=
  match s.event with
  | some .coreWake => onEvent (doCoreWake s) s
  | _ => .next s

-- Freeze cycles

/-- The draw of an engine in the cycle at hand (R544). -/
def EngState.draw (e : EngState) (cyc : Nat) : Nat := if cyc < e.until_ || cyc < e.replay then e.weight else 0

/-- The draw of the core's engines in the cycle at hand. -/
def Core.engineDraw (c : Core) : Nat := c.va.draw c.cyc + c.vb.draw c.cyc + c.m.draw c.cyc

/-- The bundle that would issue in this cycle, if one would (R545). -/
def State.wouldIssue (s : State) : List SlotRes :=
  if s.cr.switchLeft ≠ 0 || s.cr.wakeLeft ≠ 0 || s.cr.gated then []
  else
    let k := match s.running with
      | some k => if (s.ctxAt k).blocked || ((s.ctxAt k).yielded && s.selection.isSome) then none else some k
      | none => match s.selection with
        | some k => if s.cr.last == none || s.cr.last == some k then some k else none
        | none => none
    match k with
    | none => []
    | some k =>
      let s := s.withCur k
      if 8192 ≤ s.ctx.pc.toNat then []
      else match verdict s.bundle s with
        | .go => s.bundle
        | _ => []

/-- The draw of words in their issue cycle, their engines among it (R544). -/
def wordsDraw (rs : List SlotRes) : Nat :=
  rs.foldl (fun n r => n + r.draw + (match r.engine with | some (_, w) => w | none => 0)) 0

/-- The cycle at hand is a freeze cycle: the monitor holds the core, or the window would pass ILIM. A limit of 1792 or more never
freezes (R545 to R548). -/
def State.frozen (s : State) : Bool :=
  s.cr.droop || (decide (s.cr.ilim.toNat < 1792) &&
    decide (s.cr.ilim.toNat < s.cr.draws.foldl (· + ·) 0 + s.cr.engineDraw + wordsDraw s.wouldIssue))

/-- The draw of a cycle that has passed: the latest 31 are kept (R545). -/
def Core.passDraw (c : Core) (d : Nat) : Core := { c with draws := (d :: c.draws).take 31 }

/-- FREEZE_CYCLE: no bundle issues, every timing of the core holds, the draw is 0, and FRZ of every resident context goes up (R545,
R546). -/
def doFreezeCycle (s : State) : Option State :=
  if !s.frozen then none
  else some { s with cr := { s.cr.passDraw 0 with
    ctxs := s.cr.ctxs.map (fun c => if c.state == .free then c else { c with sys := { c.sys with frz := c.sys.frz + 1 } }) } }
/-- FREEZE_CYCLE (R545). -/
def execFreezeCycle (s : State) : Host.Outcome State Fault Refusal :=
  match s.event with
  | some .freezeCycle => onEvent (doFreezeCycle s) s
  | _ => .next s

-- The cycle around a bundle

/-- What a cycle does before any bundle: a switch or a wake goes on (`.inl`), or a context is at its attempt (`.inr`). -/
def State.openCycle (s : State) : State ⊕ State :=
  if s.cr.switchLeft ≠ 0 then .inl { s with cr := { s.cr with switchLeft := s.cr.switchLeft - 1 } }
  else if s.cr.wakeLeft ≠ 0 then .inl { s with cr := { s.cr with wakeLeft := s.cr.wakeLeft - 1 } }
  else if s.cr.gated then .inl s
  else
    match s.running with
    | some k =>
      let c := s.ctxAt k
      if c.blocked then
        let s := s.setCtxAt k { c with state := .wait }
        .inl (match s.selection with | some j => s.switchTo j 3 | none => s)
      else if c.yielded then
        match s.selection with
        | some j => .inl (s.switchTo j 3)
        | none => .inr (s.modCtxAt k (fun c => { c with yielded := false }))
      else .inr (s.withCur k)
    | none =>
      match s.selection with
      | none => .inl { s with cr := { s.cr with ctxs := s.cr.ctxs.map (fun c => { c with yielded := false }) } }
      | some j =>
        let t := s.switchTo j 3
        if s.cr.last == none || s.cr.last == some j then .inr t else .inl t

/-- After an attempt that did not issue, the context being no longer in RUN, the selector acts in the same cycle (R76, R77). -/
def State.reselect (s : State) : State :=
  if s.cr.issued.isSome || s.running.isSome then s
  else match s.selection with
    | some j => s.switchTo j 3
    | none => s

/-- The end of a cycle that was no freeze cycle: draws, wait counters of the contexts that were ready and did not issue, idle cycles,
and the cycle count (R78, R79, R545, R546). -/
def State.closeCycle (s : State) (ready : List (BitVec 2)) : State :=
  let issued := s.cr.issued
  let d := s.cr.engineDraw + issued.getD 0
  let s : State := allK.foldl (fun s k =>
    if ready.contains k && !(issued.isSome && s.cr.last == some k) then s.modCtxAt k (fun c =>
      if c.state == .ready || c.state == .run then { c with waitCnt := c.waitCnt + 1 } else c) else s) s
  { s with cr := { s.cr.passDraw d with
    cyc := s.cr.cyc + 1, issued := none, idle := if ready.isEmpty && issued.isNone then s.cr.idle + 1 else 0
    reads := s.cr.reads.filter (fun r => s.cr.cyc + 1 < r.2) } }

end Sys2Proof.Machine
end

