-- ==== Sys2Proof/Machine/Links.lean ====
section
/-! DEFINITION. Optical links, topology and reductions (R515 to R535): flits received, replayed and resent, lane maps and their
vetoes, the slot arbiter, the two-phase change of topology, and the set-up of reductions. -/

namespace Sys2Proof.Machine

-- Lanes

/-- The tenants in OTMODE 1 (R487). -/
def State.supervisors (s : State) : List (BitVec 4) := (s.tenants.filter (fun e => e.2.otmode)).map (fun e => BitVec.ofNat 4 e.1)

/-- A record posted to every tenant that supervises tuning (R487). -/
def State.tellSupervisors (s : State) (rec : Record) : State := s.supervisors.foldl (fun s t => s.postRecord t rec) s

/-- A port's lane map in one direction (R516). -/
def Port.map (p : Port) (tx : Bool) : BitVec 32 := if tx then p.txMap else p.rxMap

/-- A port's lane map in one direction replaced; a port that goes down or comes up moves traffic (R516). -/
def State.applyLanes (s : State) (p : Nat) (tx : Bool) (m : BitVec 32) : State :=
  (s.modPort p (fun q => if tx then { q with txMap := m } else { q with rxMap := m })).movePort p

/-- This package's change of a port's lane map: announced to the other end by a link-control flit, of kind 1 for the transmit direction and 2 for a
receiver's retirement, and applied from the next flit on (R520). -/
def State.setLanes (s : State) (p : Nat) (tx : Bool) (m : BitVec 32) : State :=
  (s.control p ((if tx then 1 else 2) :: leBytes 4 m.toNat)).applyLanes p tx m

/-- The change of a lane map that the other end of a port has announced, reported to the supervising tenants (R487, R520). -/
def State.peerLanes (s : State) (p : Nat) (tx : Bool) (m : BitVec 32) : State :=
  let old := (s.links.port p).map tx
  let s := s.applyLanes p tx m
  if old &&& ~~~m != 0 then s.tellSupervisors (.laneRetired p) else if old = m then s else s.tellSupervisors (.retune (portDie p))

/-- The lanes of a port, in one direction, for which `bad` holds of their place among the port's lanes: lane, or 32 + lane for receiving. -/
def lanesWhere (tx : Bool) (bad : Nat → Bool) : BitVec 32 :=
  BitVec.ofNat 32 ((List.range 32).foldl (fun n i => if bad (if tx then i else 32 + i) then n + 2 ^ i else n) 0)

/-- A lane's corrected-symbol count passes its threshold (R519; the threshold is left open). -/
def Port.overCount (p : Port) (lane : Nat) : Bool := Config.laneThreshold < (tabGet p.symbols lane).getD 0

/-- A lane's corrected-symbol rate passes its threshold: its count over the last part of the time (R522; both are left open). -/
def Port.overRate (now : Word) (p : Port) (lane : Nat) : Bool :=
  Config.laneRate < (p.recent.filter (fun r => r.1 == lane && now.toNat < r.2.toNat + Config.laneWindow)).length

/-- The poor lanes of a port retired in both directions (R519, R522). -/
def State.retirePoor (s : State) (poor : Port → Nat → Bool) (p : Nat) : State :=
  ([true, false] : List Bool).foldl (fun s tx =>
    let q := s.links.port p
    let m := q.map tx &&& ~~~(lanesWhere tx (poor q))
    if m = q.map tx then s else (s.setLanes p tx m).tellSupervisors (.laneRetired p)) s

-- Reception

/-- A CRC failure: the failed flit is named to the sender, by a link-control flit of kind 0, and later ones are discarded; eight in a row retrain the
port (R519). -/
def State.failFlit (s : State) (p : Nat) : State :=
  let q := s.links.port p
  let s := (s.control p [0, q.rxSeq]).modPort p (fun q => { q with discarding := true, fails := q.fails + 1 })
  if q.fails + 1 < 8 then s else (s.retirePoor Port.overCount p).modPort p (fun q => { q with fails := 0 })

/-- The destination side of a pair, as it stands. -/
def Links.inOf (l : Links) (src : Nat) : PairIn := (tabGet l.ins src).getD {}

/-- The destination side of a pair changed. -/
def State.modIn (s : State) (src : Nat) (f : PairIn → PairIn) : State :=
  s.modLinks (fun l => { l with ins := tabSet l.ins src (f (l.inOf src)) })

/-- A flit is delivered to the units, in SEQ order (R523). -/
def PairIn.deliver (i : PairIn) (h : BitVec 96) (payload : List (BitVec 8)) : PairIn :=
  { i with next := i.next + 1, ready := i.ready ++ [(h, payload)] }

/-- The early flits that follow the next SEQ delivered (R523). -/
def PairIn.settle (i : PairIn) : Nat → PairIn
  | 0 => i
  | n + 1 =>
    match i.early.find? (fun f => flitSeq f.2.1 == i.next) with
    | some f => PairIn.settle (({ i with early := i.early.erase f } : PairIn).deliver f.2.1 f.2.2) n
    | none => i

/-- A SEQ not yet delivered that is not the next one (R523). -/
def PairIn.isEarly (i : PairIn) (seq : BitVec 32) : Bool := seq != i.next && (seq - i.next).toNat < 2 ^ 31

/-- A flit of types 1 to 3 for this package: delivered in SEQ order and once; an early one is kept by the link die at which it came, one delivered
before is discarded (R523 to R525). -/
def PairIn.take (i : PairIn) (ld : Nat) (h : BitVec 96) (payload : List (BitVec 8)) : PairIn :=
  if flitSeq h = i.next then (i.deliver h payload).settle i.early.length
  else if i.isEarly (flitSeq h) && !i.early.any (fun f => flitSeq f.2.1 == flitSeq h) then { i with early := i.early ++ [(ld, h, payload)] }
  else i

/-- Bytes in a link die's reorder buffer, of 8 MiB (R524). -/
def Links.buffered (l : Links) (ld : Nat) : Nat := 256 * ((l.ins.map (fun e => (e.2.early.filter (fun f => f.1 == ld)).length)).foldl (· + ·) 0)

/-- A link die's reorder buffer is more than three quarters full (R524). -/
def Links.crowded (l : Links) (ld : Nat) : Bool := 8 * 2 ^ 20 * 3 < 4 * l.buffered ld

/-- An early flit finds no room in the reorder buffer of its link die (R524). -/
def Links.noRoom (l : Links) (ld : Nat) (h : BitVec 96) : Bool :=
  1 ≤ flitType h && flitType h ≤ 3 && flitDst h = l.self && (l.inOf (hf h 67 56)).isEarly (flitSeq h) && 8 * 2 ^ 20 < l.buffered ld + 256

/-- The window that a destination grants next: from 16 to 2^16 flits, and a smaller one while a reorder buffer is crowded; how large is left open
(R524). -/
def nextWindow (crowded : Bool) (now free : Nat) : Nat :=
  if crowded then 16 + free % (max 1 (min now (2 ^ 16) - 16)) else 16 + free % (2 ^ 16 - 15)

/-- The last SEQ of a pair that has been delivered and dealt with: a contribution is acknowledged after its addition (R525, R533). -/
def PairIn.covered (i : PairIn) : BitVec 32 :=
  match i.ready with
  | f :: _ => flitSeq f.1 - 1
  | [] => i.next - 1

/-- The destination answers a source in a type-4 flit: its cumulative acknowledgement, in the SEQ field, and the window granted beyond it, in the payload
(R524, R525). -/
def State.answerPair (s : State) (src : Nat) : State :=
  let i := s.links.inOf src
  let w := nextWindow (s.links.crowded 0 || s.links.crowded 1) i.window (Config.freeWord s.tick).toNat
  let s : State := { s.modIn src (fun i => { i with window := w }) with tick := s.tick + 1 }
  s.post 0 (flitHeader 4 0 src s.links.self i.covered.toNat 4) (leBytes 4 w)

/-- The copy that waits for a kept flit: its core, its number, and the bytes that the flit carried (R334, R344). -/
def State.flitCopy (s : State) (id : Nat) : Option (Nat × Copy × Nat) :=
  s.cores.findSome? (fun e => e.2.copies.findSome? (fun m => (m.acks.find? (fun a => a.1 == id)).map (fun a => (e.1, m, a.2.2))))

/-- A contribution refused at its root: the copy that sent it fails (R532). -/
def State.refuseFlit (s : State) (dst : Nat) (seq : BitVec 32) : State :=
  match (s.links.out dst).kept.find? (fun f => flitSeq f.header == seq) with
  | some f => match s.flitCopy f.id with
    | some (g, m, _) => s.modCopyOf g m.id (fun m => { m with refused := true })
    | none => s
  | none => s

/-- A flit of type 1 or 2 acts: a part of a Johel message that carries a tag, its last part setting the whole message before the next input (R505); and
the refusal of a contribution. The payloads are the model's, of the log. -/
def State.dealFlit (s : State) (src : Nat) (h : BitVec 96) (payload : List (BitVec 8)) : State :=
  match flitType h, payload with
  | 1, 0 :: t0 :: t1 :: last :: part =>
    let whole := (s.links.inOf src).parts ++ part
    if last = 0 then s.modIn src (fun i => { i with parts := whole })
    else { s.modIn src (fun i => { i with parts := [] }) with
      inputs := .armedMessage (BitVec.ofNat 12 src) (BitVec.ofNat 12 (leNat [t0, t1])) whole :: s.inputs }
  | 2, 1 :: seq => s.refuseFlit src (BitVec.ofNat 32 (leNat (seq.take 4)))
  | _, _ => s

/-- The delivered flits of a pair act in their order, up to a contribution, which waits for its addition (R523, R533). -/
def State.dealPair (src : Nat) : Nat → State → State
  | 0, s => s
  | n + 1, s =>
    match (s.links.inOf src).ready with
    | (h, payload) :: rest =>
      if flitType h = 3 then s
      else State.dealPair src n ((s.modIn src (fun i => { i with ready := rest })).dealFlit src h payload)
    | [] => s

/-- What a flit of type 4 to 6 says, as events (R519, R524, R525, R530, R531; the payloads are the model's, of the log). -/
def State.flitEvents (s : State) (p : Nat) (h : BitVec 96) (payload : List (BitVec 8)) : List Event :=
  let src := BitVec.ofNat 12 (hf h 67 56)
  match flitType h, payload with
  | 4, w => [.cumulativeAck src (flitSeq h), .windowGrant src (BitVec.ofNat 17 (leNat (w.take 4)))]
  | 5, 0 :: lseq :: _ => [.flitReplay (BitVec.ofNat 5 p) lseq]
  | 6, 0 :: t => [.topologyPrepare src (leNat (t.take 4))]
  | 6, 1 :: r :: t => if s.links.change.any (fun c => c.tables == leNat (t.take 4)) then [.prepareAnswer src (r != 0)] else []
  | 6, 2 :: r :: t =>
    if s.links.change.any (fun c => c.coord == src.toNat && c.tables == leNat (t.take 4)) then [if r = 0 then .topologyAbort else .topologyCommit] else []
  | 6, 3 :: t => [.decisionQuery (some src) (leNat (t.take 4))]
  | 6, 4 :: t =>
    [.reductionSetup src (BitVec.ofNat 4 (leNat (t.take 1))) (BitVec.ofNat 24 (leNat ((t.drop 1).take 3))) (BitVec.ofNat 40 (leNat ((t.drop 4).take 5)))
      (BitVec.ofNat 21 (leNat ((t.drop 9).take 4))) (BitVec.ofNat 1 (leNat ((t.drop 13).take 1))) 1 0 false 0 0 0 0 false]
  | _, _ => []

/-- A flit for this package acts: types 1 to 3 in their pair, which answers; a lane map announced at once; else by the events that say what it says, before
any other input (R518 to R525). -/
def State.acceptFlit (s : State) (p : Nat) (h : BitVec 96) (payload : List (BitVec 8)) : State :=
  let src := hf h 67 56
  let s := s.modLinks (fun l => { l with change := l.change.map (fun c => if c.coord = src then { c with heard := s.tnow } else c) })
  if 1 ≤ flitType h && flitType h ≤ 3 then
    let s := s.modIn src (fun i => i.take (portDie p) h payload)
    (State.dealPair src (s.links.inOf src).ready.length s).answerPair src
  else
    match flitType h, payload with
    | 5, 1 :: m => s.peerLanes p false (BitVec.ofNat 32 (leNat (m.take 4)))
    | 5, 2 :: m => s.peerLanes p true (BitVec.ofNat 32 (leNat (m.take 4)))
    | _, _ => { s with inputs := s.flitEvents p h payload ++ s.inputs }

/-- A flit that has passed CRC in its turn: a malformed one is discarded and counted, an idle one says nothing, a flit for another package is forwarded, and the
others act (R518, R529). -/
def State.sortFlit (s : State) (p : Nat) (h : BitVec 96) (payload : List (BitVec 8)) : State :=
  if 7 ≤ flitType h || hf h 15 0 != 0 || 240 < hf h 23 16 then s.logHealth (linkDie (portDie p)) 0 6 p (flitType h)
  else if flitType h = 0 then s
  else if flitType h != 5 && flitDst h != s.links.self then s.post (portDie p) h payload
  else s.acceptFlit p h (payload.take (hf h 23 16))

/-- FLIT_RECEIVE (R517, R518, R519, R524): checked by CRC, which a flit of an uncorrectable codeword fails, and taken in link order; an early flit for which the
reorder buffer has no room is asked for again. -/
def doFlitReceive (p : Nat) (h : BitVec 96) (payload : List (BitVec 8)) (crc : BitVec 32) (s : State) : Option State :=
  let q := s.links.port p
  if (!q.up && flitType h != 5) || 240 < payload.length then none
  else if 0 < q.spoiled || crc32 (flitBytes h payload) != crc then
    let s := if q.spoiled = 0 then s else s.modPort p (fun q => { q with spoiled := q.spoiled - 1 })
    some (if q.discarding && hf h 95 88 != q.rxSeq.toNat then s else s.failFlit p)
  else if hf h 95 88 != q.rxSeq.toNat then none
  else if s.links.noRoom (portDie p) h then some ((s.control p [0, q.rxSeq]).modPort p (fun q => { q with discarding := true }))
  else some ((s.modPort p (fun q => { q with rxSeq := q.rxSeq + 1, discarding := false, fails := 0 })).sortFlit p h payload)
/-- FLIT_RECEIVE (R518). -/
def execFlitReceive (s : State) : Host.Outcome State Fault Refusal :=
  match s.event with
  | some (.flitReceive p h pl crc) => onEvent (doFlitReceive p.toNat h pl crc s) s
  | _ => .next s

/-- FLIT_REPLAY: the sender resends from the named flit onward, in order: at once in torus mode, in the slots granted to the destination of each in slot mode
(R519, R527). -/
def doFlitReplay (p : Nat) (lseq : BitVec 8) (s : State) : Option State :=
  let again := (s.links.port p).replay.dropWhile (fun f => hf f.1 95 88 != lseq.toNat)
  if again.isEmpty then none
  else if s.links.torus then some (again.foldl (fun s f => s.emit p f.1 f.2) s)
  else some (s.modPort p (fun q => { q with resend := again }))
/-- FLIT_REPLAY (R519). -/
def execFlitReplay (s : State) : Host.Outcome State Fault Refusal :=
  match s.event with
  | some (.flitReplay p l) => onEvent (doFlitReplay p.toNat l s) s
  | _ => .next s

-- Discretionary and forced changes of lanes

/-- A fibre's eight lanes of a lane map (R516). -/
def fibreOf (m : BitVec 32) (fibre : BitVec 2) : BitVec 8 := (m >>> (8 * fibre.toNat)).setWidth 8

/-- A lane map with one fibre's eight bits replaced (R516). -/
def setFibre (m : BitVec 32) (fibre : BitVec 2) (v : BitVec 8) : BitVec 32 :=
  (m &&& ~~~((0xFF : BitVec 32) <<< (8 * fibre.toNat))) ||| (v.setWidth 32 <<< (8 * fibre.toNat))

/-- The lanes of a change readmitted and retired, the others as they stand now (R520). -/
def State.changeFibre (s : State) (c : LaneChange) : State :=
  let m := (s.links.port c.port).map c.tx
  s.setLanes c.port c.tx (setFibre m c.fibre ((fibreOf m c.fibre ||| c.set) &&& ~~~c.clear))

/-- The report of a lane change: a retirement, or a retune (R487). -/
def LaneChange.report (c : LaneChange) : Record := if c.clear != 0 then .laneRetired c.port else .retune (portDie c.port)

/-- LANE_MAP_CHANGE: a discretionary change of the microcontroller: at once, or after 15 000 cycles without a veto where a tenant
supervises (R520, R521); one that is held in reset makes none (R522). -/
def doLaneMapChange (p : Nat) (tx : Bool) (fibre : BitVec 2) (m : BitVec 8) (s : State) : Option State :=
  let old := fibreOf ((s.links.port p).map tx) fibre
  let c : LaneChange := { port := p, tx := tx, fibre := fibre, set := m &&& ~~~old, clear := old &&& ~~~m, at_ := s.tnow + 15000 }
  if (tabGet s.links.held (portDie p)).isSome then none
  else if s.supervisors.isEmpty then some (s.changeFibre c)
  else some ((s.modLinks (fun l => { l with changes := l.changes ++ [c] })).tellSupervisors c.report)
/-- LANE_MAP_CHANGE (R520). -/
def execLaneMapChange (s : State) : Host.Outcome State Fault Refusal :=
  match s.event with
  | some (.laneMapChange p tx f m) => onEvent (doLaneMapChange p.toNat tx f m s) s
  | _ => .next s

/-- HEATER_LIMIT: the lane is retired at once, and no change that waits readmits it; supervising tenants are told and cannot veto (R521). -/
def doHeaterLimit (p : Nat) (tx : Bool) (fibre : BitVec 2) (lane : BitVec 3) (s : State) : Option State :=
  let m := (s.links.port p).map tx
  let one := (1 : BitVec 8) <<< lane.toNat
  let s := s.modLinks (fun l => { l with changes := l.changes.map (fun c =>
    if c.port = p && c.tx = tx && c.fibre = fibre then { c with set := c.set &&& ~~~one } else c) })
  some ((s.setLanes p tx (setFibre m fibre (fibreOf m fibre &&& ~~~one))).tellSupervisors (.laneRetired p))
/-- HEATER_LIMIT (R521). -/
def execHeaterLimit (s : State) : Host.Outcome State Fault Refusal :=
  match s.event with
  | some (.heaterLimit p tx f l) => onEvent (doHeaterLimit p.toNat tx f l s) s
  | _ => .next s

/-- VETO_TIMEOUT: the changes that have waited 15 000 cycles are made (R521). -/
def doVetoTimeout (s : State) : Option State :=
  let due := s.links.changes.filter (fun c => c.at_.toNat ≤ s.tnow.toNat)
  if due.isEmpty then none
  else
    let s := s.modLinks (fun l => { l with changes := l.changes.filter (fun c => s.tnow.toNat < c.at_.toNat) })
    some (due.foldl (fun s c => s.changeFibre c) s)
/-- VETO_TIMEOUT (R521). -/
def execVetoTimeout (s : State) : Host.Outcome State Fault Refusal :=
  match s.event with
  | some .vetoTimeout => onEvent (doVetoTimeout s) s
  | _ => .next s

/-- LANE_VETO: a supervising tenant's veto drops a change that waits, named by its port, direction and fibre (R521). -/
def doLaneVeto (t : BitVec 4) (p : Nat) (tx : Bool) (fibre : BitVec 2) (s : State) : Option State :=
  if (s.tenant t).otmode then
    some (s.modLinks (fun l => { l with changes := l.changes.filter (fun c => !(c.port == p && c.tx == tx && c.fibre == fibre)) }))
  else none
/-- LANE_VETO (R521). -/
def execLaneVeto (s : State) : Host.Outcome State Fault Refusal :=
  match s.event with
  | some (.laneVeto t p tx f) => onEvent (doLaneVeto t p.toNat tx f s) s
  | _ => .next s

/-- MICROCONTROLLER_RESET: the heater codes are held and traffic goes on; its measured firmware copy is loaded again and no
measurement changes (R522, R550). -/
def doMicrocontrollerReset (ld : Nat) (s : State) : Option State :=
  some (s.modLinks (fun l => { l with held := tabSet l.held ld (s.tnow, false) }))
/-- MICROCONTROLLER_RESET (R522). -/
def execMicrocontrollerReset (s : State) : Host.Outcome State Fault Refusal :=
  match s.event with
  | some (.microcontrollerReset ld) => onEvent (doMicrocontrollerReset ld.toNat s) s
  | _ => .next s

/-- RETUNING_RESUME (R522). -/
def doRetuningResume (ld : Nat) (s : State) : Option State :=
  if (tabGet s.links.held ld).isSome then some (s.modLinks (fun l => { l with held := tabErase l.held ld })) else none
/-- RETUNING_RESUME (R522). -/
def execRetuningResume (s : State) : Host.Outcome State Fault Refusal :=
  match s.event with
  | some (.retuningResume ld) => onEvent (doRetuningResume ld.toNat s) s
  | _ => .next s

/-- RETUNE_MARGIN_EXPIRY: 75 000 cycles without retuning retire the poor lanes of the die and raise an event (R522). -/
def doRetuneMarginExpiry (ld : Nat) (s : State) : Option State :=
  match tabGet s.links.held ld with
  | some (t, false) =>
    if t.toNat + 75000 ≤ s.tnow.toNat then
      let s := s.modLinks (fun l => { l with held := tabSet l.held ld (t, true) })
      let s := ((List.range 16).map (fun i => 16 * ld + i)).foldl (fun s p => s.retirePoor (Port.overRate s.tnow) p) s
      some { s with pf0 := s.pf0 ++ [.retune ld] }
    else none
  | _ => none
/-- RETUNE_MARGIN_EXPIRY (R522). -/
def execRetuneMarginExpiry (s : State) : Host.Outcome State Fault Refusal :=
  match s.event with
  | some (.retuneMarginExpiry ld) => onEvent (doRetuneMarginExpiry ld.toNat s) s
  | _ => .next s

-- Pairs

/-- WINDOW_GRANT: a window of 16 to 2^16 flits; what it lets out leaves (R524). -/
def doWindowGrant (dst n : Nat) (s : State) : Option State :=
  if n < 16 || 2 ^ 16 < n then none else some ((s.modOut dst (fun o => { o with window := n })).pump dst)
/-- WINDOW_GRANT (R524). -/
def execWindowGrant (s : State) : Host.Outcome State Fault Refusal :=
  match s.event with
  | some (.windowGrant dst n) => onEvent (doWindowGrant dst.toNat n.toNat s) s
  | _ => .next s

/-- The request that a flit carried is acknowledged in the copy that waits for it, but for one that a root has refused (R334, R344, R532). -/
def State.ackFlit (s : State) (id : Nat) : State :=
  match s.flitCopy id with
  | some (g, m, n) => if m.refused then s else countAck g m.id id n s
  | none => s

/-- CUMULATIVE_ACK: the flits up to a SEQ are free, and what the window lets out leaves (R524, R525). -/
def doCumulativeAck (dst : Nat) (seq : BitVec 32) (s : State) : Option State :=
  let o := s.links.out dst
  if 2 ^ 31 ≤ (seq - o.acked).toNat || (o.seq - o.acked).toNat ≤ (seq - o.acked).toNat then none
  else
    let done := fun (f : OutFlit) => (flitSeq f.header - o.acked).toNat ≤ (seq - o.acked).toNat
    let s := s.modOut dst (fun o => { o with acked := seq + 1, kept := o.kept.filter (fun f => !done f) })
    some (((o.kept.filter done).foldl (fun s f => s.ackFlit f.id) s).pump dst)
/-- CUMULATIVE_ACK (R525). -/
def execCumulativeAck (s : State) : Host.Outcome State Fault Refusal :=
  match s.event with
  | some (.cumulativeAck dst seq) => onEvent (doCumulativeAck dst.toNat seq s) s
  | _ => .next s

/-- PATH_FAILURE_RESEND: the unacknowledged flits of a destination go again, on another port where the torus has one, else in the
next slots granted (R525). -/
def doPathFailureResend (dst p : Nat) (s : State) : Option State :=
  some ((s.modLinks (fun l => l.unsend (fun d _ => d == dst))).pump dst (some p))
/-- PATH_FAILURE_RESEND (R525). -/
def execPathFailureResend (s : State) : Host.Outcome State Fault Refusal :=
  match s.event with
  | some (.pathFailureResend dst p) => onEvent (doPathFailureResend dst.toNat p.toNat s) s
  | _ => .next s

-- Slots

/-- ARBITER_GRANT: a grant for the next round, one destination or none for each port and slot; one whose round has begun is
ignored (R527). -/
def doArbiterGrant (ld round : Nat) (grants : List (Nat × Nat × Nat)) (s : State) : Option State :=
  if s.links.torus || round ≤ s.links.round then none
  else
    let mine := grants.filter (fun g => g.1 / 16 == ld && g.2.1 < 16)
    some (s.modLinks (fun l => { l with grants := l.grants ++ mine.map (fun g => (round, g)) }))
/-- ARBITER_GRANT (R527). -/
def execArbiterGrant (s : State) : Host.Outcome State Fault Refusal :=
  match s.event with
  | some (.arbiterGrant ld r gs) => onEvent (doArbiterGrant ld.toNat r gs s) s
  | _ => .next s

/-- The flits that a link die holds for a destination: those kept that have not left, those that wait, and those to be sent again (R527). -/
def Links.holds (l : Links) (ld dst : Nat) : Nat :=
  ((l.out dst).kept.filter (fun f => f.via.isNone && f.ld == ld)).length +
    (l.waiting.filter (fun w => w.1 == ld && flitDst w.2.1 == dst)).length +
    ((l.ports.filter (fun p => portDie p.1 == ld)).map (fun p => (p.2.resend.filter (fun f => flitDst f.1 == dst)).length)).foldl (· + ·) 0

/-- The destinations for which the links hold flits. -/
def Links.targets (l : Links) : List Nat :=
  (l.outs.map Prod.fst ++ l.waiting.map (fun w => flitDst w.2.1) ++ (l.ports.map (fun p => p.2.resend.map (fun f => flitDst f.1))).flatten).eraseDups

/-- ARBITER_REQUEST: in a round's last slot each link die sends, for each destination, the flits it holds (R527). -/
def doArbiterRequest (ld : Nat) (s : State) : Option State :=
  let l := s.links
  if l.torus || l.slot < 15 || l.requested.contains ld then none
  else
    let held := (l.targets.map (fun d => (d, l.holds ld d))).filter (fun e => e.2 != 0)
    some (({ s with sent := s.sent ++ [.slotRequest ld (l.round + 1) held] } : State).modLinks (fun l => { l with requested := l.requested ++ [ld] }))
/-- ARBITER_REQUEST (R527). -/
def execArbiterRequest (s : State) : Host.Outcome State Fault Refusal :=
  match s.event with
  | some (.arbiterRequest ld) => onEvent (doArbiterRequest ld.toNat s) s
  | _ => .next s

/-- What a port that is up does in a slot: it sends to the destination granted, as much as its lanes carry; without a grant it sends idle flits, for which one
stands (R516, R526, R527). -/
def State.runSlot (s : State) (p : Nat) (grant : Option Nat) : State :=
  if !(s.links.port p).up then s
  else match grant with
    | some dst => s.pumpSlot p dst (s.links.port p).capacity
    | none => s.transmit p (flitHeader 0 0 0 s.links.self 0 0) []

/-- SLOT_START: every 375 cycles in slot mode; a round is 16 slots (R526, R527). -/
def doSlotStart (s : State) : Option State :=
  let l := s.links
  if l.torus || s.tnow.toNat < l.slotAt.toNat + 375 then none
  else
    let round := if l.slot = 15 then l.round + 1 else l.round
    let slot := (l.slot + 1) % 16
    let s := s.modLinks (fun l => { l with
      slotAt := s.tnow, slot := slot, round := round, requested := if slot = 0 then [] else l.requested
      grants := l.grants.filter (fun g => round ≤ g.1) })
    let now := s.links.grants.filter (fun g => g.1 == round && g.2.2.1 == slot)
    some ((List.range 32).foldl (fun s p => s.runSlot p ((now.find? (fun g => g.2.1 == p)).map (fun g => g.2.2.2))) s)
/-- SLOT_START (R526). -/
def execSlotStart (s : State) : Host.Outcome State Fault Refusal :=
  match s.event with
  | some .slotStart => onEvent (doSlotStart s) s
  | _ => .next s

-- Topology

/-- Every flit of the pairs that a change affects is acknowledged (R530). -/
def Links.drained (l : Links) (tables : Nat) : Bool := l.outs.all (fun o => !l.affected tables o.1 || o.2.kept.isEmpty)

/-- A topology message to another package, in a type-6 flit: its kind and what it says; the payloads are the model's, of the log (R518, R530). -/
def State.tell (s : State) (dst : Nat) (payload : List (BitVec 8)) : State :=
  s.post 0 (flitHeader 6 0 dst s.links.self 0 payload.length) payload

/-- A topology message to several packages. -/
def State.tellAll (s : State) (dsts : List Nat) (payload : List (BitVec 8)) : State := dsts.foldl (fun s d => s.tell d payload) s

/-- A topology change is over: the flits that it kept back enter their pairs, and what waits leaves (R530). -/
def State.resume (s : State) : State := ((s.modLinks (fun l => { l with change := none })).admitHeld).relay

/-- New tables installed; the flits not acknowledged are sent again on the new paths (R525, R530). -/
def State.install (s : State) (tables : Nat) : State :=
  (s.modLinks (fun l => { (l.unsend (fun _ _ => true)) with
    tables := tables, change := none, grants := [], slotAt := s.tnow, slot := 0, requested := [] })).resume

/-- The other endpoints of a change: the packages of the old tables and of the new (R530). -/
def State.changeEndpoints (s : State) (tables : Nat) : List Nat := (endpoints s.links.tables ++ endpoints tables).eraseDups

/-- The endpoints of a change but for this package. -/
def State.otherEndpoints (s : State) (tables : Nat) : List Nat := (s.changeEndpoints tables).filter (· != s.links.self)

/-- One byte for a yes or no. -/
def flag (b : Bool) : BitVec 8 := if b then 1 else 0

/-- The coordinator's decision, recorded for good and sent to every endpoint (R530). -/
def State.decide (s : State) (c : TopoChange) (commit : Bool) : State :=
  let s := (s.tellAll (s.otherEndpoints c.tables) (2 :: flag commit :: leBytes 4 c.tables)).modLinks (fun l =>
    { l with decisions := l.decisions ++ [(c.tables, commit)] })
  if commit then s.install c.tables else s.resume

/-- TOPOLOGY_CHANGE_REQUEST: received through PF0, this package coordinates (R530). -/
def doTopologyChangeRequest (tables : Nat) (s : State) : Option State :=
  if s.links.change.isSome then none
  else some ((s.tellAll (s.otherEndpoints tables) (0 :: leBytes 4 tables)).modLinks (fun l =>
    { l with change := some { coord := l.self, tables := tables, since := s.tnow, coordinator := true } }))
/-- TOPOLOGY_CHANGE_REQUEST (R530). -/
def execTopologyChangeRequest (s : State) : Host.Outcome State Fault Refusal :=
  match s.event with
  | some (.topologyChangeRequest n) => onEvent (doTopologyChangeRequest n s) s
  | _ => .next s

/-- An endpoint's answer to the coordinator (R530). -/
def State.answerPrepare (s : State) (coord tables : Nat) (ready : Bool) : State := s.tell coord (1 :: flag ready :: leBytes 4 tables)

/-- TOPOLOGY_PREPARE: an endpoint stops admitting flits to the affected pairs; once their flits are acknowledged it answers ready; one with another change
under way refuses (R530). -/
def doTopologyPrepare (coord tables : Nat) (s : State) : Option State :=
  let mine : TopoChange := { coord := coord, tables := tables, since := s.tnow, coordinator := false, heard := s.tnow }
  let ready := fun (s : State) => (s.answerPrepare coord tables true).modLinks (fun l =>
    { l with change := some { mine with prepared := true, asked := s.tnow } })
  match s.links.change with
  | none => some (if s.links.drained tables then ready s else s.modLinks (fun l => { l with change := some mine }))
  | some c =>
    if c.coord == coord && c.tables == tables && !c.coordinator then
      if c.prepared || !s.links.drained tables then none else some (ready s)
    else some (s.answerPrepare coord tables false)
/-- TOPOLOGY_PREPARE (R530). -/
def execTopologyPrepare (s : State) : Host.Outcome State Fault Refusal :=
  match s.event with
  | some (.topologyPrepare c n) => onEvent (doTopologyPrepare c.toNat n s) s
  | _ => .next s

/-- PREPARE_ANSWER: a refusal aborts; the last of the answers, each within 1 ms, commits (R530). The coordinator's own answer is
ready once it has drained. -/
def doPrepareAnswer (pkg : Nat) (ready : Bool) (s : State) : Option State :=
  match s.links.change with
  | none => none
  | some c =>
    if !c.coordinator || (pkg == c.coord && !s.links.drained c.tables) then none
    else if !ready then some (s.decide c false)
    else
      let got := c.ready.filter (· != pkg) ++ [pkg]
      if s.tnow.toNat ≤ c.since.toNat + 1500000 && (s.changeEndpoints c.tables).all got.contains then some (s.decide c true)
      else some (s.modLinks (fun l => { l with change := some { c with ready := got } }))
/-- PREPARE_ANSWER (R530). -/
def execPrepareAnswer (s : State) : Host.Outcome State Fault Refusal :=
  match s.event with
  | some (.prepareAnswer pkg r) => onEvent (doPrepareAnswer pkg.toNat r s) s
  | _ => .next s

/-- PREPARE_TIMEOUT: an answer missing after 1 ms aborts (R530). -/
def doPrepareTimeout (s : State) : Option State :=
  match s.links.change with
  | some c => if c.coordinator && c.since.toNat + 1500000 < s.tnow.toNat then some (s.decide c false) else none
  | none => none
/-- PREPARE_TIMEOUT (R530). -/
def execPrepareTimeout (s : State) : Host.Outcome State Fault Refusal :=
  match s.event with
  | some .prepareTimeout => onEvent (doPrepareTimeout s) s
  | _ => .next s

/-- TOPOLOGY_COMMIT: a prepared endpoint installs the new tables and resumes (R530). -/
def doTopologyCommit (s : State) : Option State :=
  match s.links.change with
  | some c => if c.prepared && !c.coordinator then some (s.install c.tables) else none
  | none => none
/-- TOPOLOGY_COMMIT (R530). -/
def execTopologyCommit (s : State) : Host.Outcome State Fault Refusal :=
  match s.event with
  | some .topologyCommit => onEvent (doTopologyCommit s) s
  | _ => .next s

/-- TOPOLOGY_ABORT: an endpoint keeps its tables and resumes (R530). -/
def doTopologyAbort (s : State) : Option State :=
  match s.links.change with
  | some c => if c.coordinator then none else some s.resume
  | none => none
/-- TOPOLOGY_ABORT (R530). -/
def execTopologyAbort (s : State) : Host.Outcome State Fault Refusal :=
  match s.event with
  | some .topologyAbort => onEvent (doTopologyAbort s) s
  | _ => .next s

/-- DECISION_QUERY: a prepared endpoint asks the coordinator every 150 000 cycles; a coordinator that is asked answers with the decision that it has recorded
(R530). -/
def doDecisionQuery (asker : Option Nat) (tables : Nat) (s : State) : Option State :=
  match asker, s.links.change with
  | some pkg, _ => (s.links.decisions.reverse.find? (fun d => d.1 == tables)).map (fun d => s.tell pkg (2 :: flag d.2 :: leBytes 4 tables))
  | none, some c =>
    if c.prepared && !c.coordinator && c.asked.toNat + 150000 ≤ s.tnow.toNat then
      some ((s.tell c.coord (3 :: leBytes 4 c.tables)).modLinks (fun l => { l with change := some { c with asked := s.tnow } }))
    else none
  | none, none => none
/-- DECISION_QUERY (R530). -/
def execDecisionQuery (s : State) : Host.Outcome State Fault Refusal :=
  match s.event with
  | some (.decisionQuery a n) => onEvent (doDecisionQuery (a.map BitVec.toNat) n s) s
  | _ => .next s

/-- COORDINATOR_UNREACHABLE: after 15 000 000 cycles in which a prepared endpoint has heard nothing of the coordinator an event is raised, and the endpoint
holds on (R530). -/
def doCoordinatorUnreachable (s : State) : Option State :=
  match s.links.change with
  | some c =>
    if c.prepared && !c.coordinator && !c.raised && c.heard.toNat + 15000000 ≤ s.tnow.toNat then
      some (({ s with pf0 := s.pf0 ++ [.unreachable c.coord] } : State).modLinks (fun l => { l with change := some { c with raised := true } }))
    else none
  | none => none
/-- COORDINATOR_UNREACHABLE (R530). -/
def execCoordinatorUnreachable (s : State) : Host.Outcome State Fault Refusal :=
  match s.event with
  | some .coordinatorUnreachable => onEvent (doCoordinatorUnreachable s) s
  | _ => .next s

-- Reductions

/-- Element slots in use of the collective engine that serves an object's parity (R531). -/
def State.slotsUsed (s : State) (obj : Nat) : Nat := ((s.reductions.filter (fun r => r.obj % 2 == obj % 2)).map Reduction.nelem).foldl (· + ·) 0

/-- The routing entry of a reduction, sent to a contributing package: kind 4, tenant, object, offset, elements and format (R531; the layout is the model's, of
the log). -/
def Reduction.routeMessage (r : Reduction) : List (BitVec 8) :=
  4 :: leBytes 1 r.tenant.toNat ++ leBytes 3 r.obj ++ leBytes 5 r.off ++ leBytes 4 r.nelem ++ [flag r.bf16]

/-- REDUCTION_SETUP: on its root, in the engine of the result object's parity while the slots hold it, with a routing entry sent to every other package of the
topology; refused to the tenant where they do not; on a contributing package, a routing entry (R531). -/
def doReductionSetup (root : Nat) (r : Reduction) (s : State) : Option State :=
  let bad := r.nelem = 0 || 2 ^ 20 < r.nelem || r.expect = 0 || r.off % 16 != 0 || !s.ownsObject r.tenant r.obj ||
    (match tabGet s.objects r.obj with | some o => !o.pool | none => true)
  if bad then none
  else if root != s.links.self then
    some (s.modLinks (fun l => { l with routes := l.routes.filter (fun q => !(q.obj == r.obj && q.off == r.off)) ++
      [{ obj := r.obj, off := r.off, nelem := r.nelem, bf16 := r.bf16, root := root }] }))
  else if s.reductions.any (fun q => q.obj == r.obj && q.off == r.off) then none
  else if 2 ^ 20 < s.slotsUsed r.obj + r.nelem then some (s.postRecord r.tenant (.reduction r.obj r.off 2))
  else some (({ s with reductions := s.reductions ++ [r] } : State).tellAll (s.otherEndpoints s.links.tables) r.routeMessage)
/-- REDUCTION_SETUP (R531). -/
def execReductionSetup (s : State) : Host.Outcome State Fault Refusal :=
  match s.event with
  | some (.reductionSetup root t obj off nelem fmt expect token noted ref launch gang stage evt) =>
    onEvent (doReductionSetup root.toNat { tenant := t, obj := obj.toNat, off := off.toNat, nelem := nelem.toNat, bf16 := fmt = 1
                                           expect := expect.toNat, token := token, evt := evt
                                           note := if noted then some { ref := ref, launch := launch, gang := gang, stage := stage } else none } s) s
  | _ => .next s

/-- REDUCTION_TEARDOWN: the reduction or the routing entry goes; a partial sum is never written (R535). -/
def doReductionTeardown (obj off : Nat) (s : State) : Option State :=
  some (({ s with reductions := s.reductions.filter (fun r => !(r.obj == obj && r.off == off)) } : State).modLinks (fun l =>
    { l with routes := l.routes.filter (fun r => !(r.obj == obj && r.off == off)) }))
/-- REDUCTION_TEARDOWN (R535). -/
def execReductionTeardown (s : State) : Host.Outcome State Fault Refusal :=
  match s.event with
  | some (.reductionTeardown obj off) => onEvent (doReductionTeardown obj.toNat off.toNat s) s
  | _ => .next s

/-- What a contribution flit carries: object, offset and bytes (R532; the layout is the model's, of the log). -/
def contribution (payload : List (BitVec 8)) : Nat × Nat × List (BitVec 8) :=
  (leNat (payload.take 3), leNat ((payload.drop 3).take 5), payload.drop 8)

/-- The first flit of a pair is dealt with: those behind it act, and the source is answered (R523, R525). -/
def State.nextOf (s : State) (src : Nat) : State :=
  let s := s.modIn src (fun i => { i with ready := i.ready.drop 1, refusing := none })
  (State.dealPair src (s.links.inOf src).ready.length s).answerPair src

/-- CONTRIBUTION_ARRIVAL: the first flit of a pair, a contribution of another package's PUTR, is added at this root and acknowledged after that; a refused one is
named to its source, and acknowledged once that has been received (R525, R532, R533). -/
def doContributionArrival (src : Nat) (s : State) : Option State :=
  let i := s.links.inOf src
  match i.ready, i.refusing with
  | (h, payload) :: _, none =>
    let (obj, off, bytes) := contribution payload
    match s.reductionAt obj off bytes.length with
    | some r => some ((s.contribute r off bytes).nextOf src)
    | none =>
      let id := s.nextId
      some ((s.fresh.modIn src (fun i => { i with refusing := some id })).issueFlit 2 (hf h 83 80) src (obj % 2)
        (1 :: leBytes 4 (flitSeq h).toNat) id)
  | _ :: _, some id =>
    let o := s.links.out src
    if (o.kept ++ o.held).any (fun f => f.id == id) then none else some (s.nextOf src)
  | [], _ => none
/-- CONTRIBUTION_ARRIVAL (R533). -/
def execContributionArrival (s : State) : Host.Outcome State Fault Refusal :=
  match s.event with
  | some (.contributionArrival src) => onEvent (doContributionArrival src.toNat s) s
  | _ => .next s

-- The note of a reduction

/-- Where the first note leads: none, it waits while its gang is evicted; `some none`, it cannot be resolved; else the object (R347,
R534). -/
def State.notePlace (s : State) (t : BitVec 4) (n : Note) : Option (Option ArrRef) :=
  match s.launches.find? (fun l => l.tenant == t && l.number == n.launch) with
  | none => some none
  | some l =>
    if n.ref.toNat / 2 ^ 22 != 1 || l.stages ≤ n.stage.toNat then some none
    else if s.images.any (fun i => i.key == gangKey t n.launch n.gang) then none
    else
      match s.placements.find? (fun p => p.tenant == t && p.launch == n.launch && p.gang == n.gang && p.stage == n.stage) with
      | none => some none
      | some p =>
        match s.resolveIn p (n.ref.toNat / 2 ^ 18 % 16 * 2 ^ 22 + n.ref.toNat % 2 ^ 18 * 16) 16 with
        | some (g, byte) => some (some { g := g, byte := byte, ref := n.ref })
        | none => some none

/-- The first note whose gang is not evicted becomes an update of its object, after which its reduction's record is posted; or it is dropped with an event, and
the record is posted (R534). -/
def applyNote (s : State) : Option State :=
  match s.notes.find? (fun e => (s.notePlace e.1 e.2.1).isSome) with
  | none => none
  | some (t, n, rec_) =>
    let u : State := { s with notes := s.notes.erase (t, n, rec_) }
    some (match s.notePlace t n with
      | some (some r) => u.addUpdate r 0 false true (rec_.map (fun x => (t, x)))
      | _ => (u.postRecord t (.noteDropped n.launch)).postSome t rec_)

/-- ARRIVE_APPLY: an AINIT or ARRIVE of a context, or, under the number 0 that no operation has, the note of a reduction (R352, R534). -/
def execArriveApply (s : State) : Host.Outcome State Fault Refusal :=
  match s.event with
  | some (.arriveApply k id) => onEvent (if id = 0 then applyNote s else doArriveApply k id s) s
  | _ => .next s

end Sys2Proof.Machine
end

