-- ==== Sys2Proof/Machine/Health.lean ====
section
/-! DEFINITION. Hardware errors and health logs, the scrubbers, current limits and monitors, and the power states (R196, R197, R288,
R542 to R551). The classes of R542 are numbered 0 to 5 in its order; the numbers of units within a class are the model's own. -/

namespace Sys2Proof.Machine

-- Errors of a context's own state

/-- A context ends with ECC_UNCORR at its next boundary; the spec states no fault information for it (R197, R536). -/
def State.eccFault (s : State) (k : BitVec 2) : State :=
  { s.addDue k Code.eccUncorr.num (Config.freeWord s.tick) none with tick := s.tick + 1 }

/-- The context of the core at hand whose allotment holds a line (R198). -/
def State.lineHolder (s : State) (line : Nat) : Option (BitVec 2) :=
  ([0, 1, 2, 3] : List (BitVec 2)).find? (fun k =>
    let c := s.ctxAt k
    c.state != .free && c.sys.allocBase.toNat ≤ line && line < c.sys.allocBase.toNat + c.sys.allocSize.toNat)

/-- A line treated as uncorrectable: full and poison, and the context whose allotment holds it ends; a line in no allotment is rewritten to zero
(R197, R198). -/
def loseScratch (line : Nat) (s : State) : State :=
  match s.lineHolder line with
  | some k => (s.poisonLine (lineKey s.g line)).eccFault k
  | none => s.zeroLine (lineKey s.g line) 0

/-- An uncorrectable error of a line of the core at hand, logged (R197, R542). -/
def lineError (line : Nat) (s : State) : State := loseScratch line (s.logHealth (s.g / 192) 1 0 s.g line)

/-- The owner tag of a line names a context whose allotment does not hold it (R198). -/
def State.ownerWrong (s : State) (line : Nat) : Bool := s.lineHolder line != some (s.metaAt (lineKey s.g line)).owner

/-- The context of the core at hand that owns a tile. -/
def State.tileOwner (s : State) (t : Nat) : Option (BitVec 2) :=
  ([0, 1, 2, 3] : List (BitVec 2)).find? (fun k =>
    let c := s.ctxAt k
    c.state != .free && c.sys.tilesFirst.toNat ≤ t && t < c.sys.tilesFirst.toNat + c.sys.tilesCount.toNat)

/-- An uncorrectable error of a tile of the core at hand ends its owner (R288). -/
def tileError (t : Nat) (s : State) : State :=
  let s := s.logHealth (s.g / 192) 1 1 s.g t
  match s.tileOwner t with
  | some k => s.eccFault k
  | none => s

/-- What an operation in flight becomes when a read of it met an uncorrectable error: its results are discarded, registers keeping what they hold,
and its destination lines become full and poison (R197, R288). -/
def Landing.spoiled (s : State) (k : BitVec 2) : Landing → Landing
  | .bypass u _ => .bypass u (match u with | .a => s.cr.bp0.val | .b => s.cr.bp1.val)
  | .lines ws => .lines (ws.map (fun w => { w with mask := 0, poison := true }))
  | .fstat _ => .fstat 0
  | .amax _ => .amax 0
  | .mask r _ => .mask r ((s.ctxAt k).kVal r)
  | .xreg r _ => .xreg r ((s.ctxAt k).xVal r)
  | .gather ws _ f =>
    .gather (ws.map (fun w => { w with lanes := [], write := { w.write with mask := 0, poison := true } })) s.cr.bp0.val f
  | .tileRows t _ => .tileRows t []
  | .mma t _ _ b _ _ pc f => .mma t false [] b false false pc f
  | .tileClear t r => .tileClear t r
  | .tileFree t => .tileFree t
  | .accepted b => .accepted b
  | .ctab v => .ctab v

/-- What was in CTAB before a VLTLD whose source was in error comes back (R197, R273). -/
def Landing.restores (k : BitVec 2) (s : State) : Landing → State
  | .ctab v => s.modCtxAt k (fun c => { c with sys := { c.sys with ctab := v } })
  | _ => s

/-- The lane of a gather belongs to one of some flights. -/
def MemKind.lands (ids : List Nat) : MemKind → Bool
  | .gather _ _ _ f => ids.contains f
  | _ => false

/-- A read of an operation of the engines met an uncorrectable error: every flight of the operation is spoiled and its context ends (R197, R288). -/
def readError (id : Nat) (s : State) : State :=
  match s.cr.flights.find? (fun f => f.id == id) with
  | none => s
  | some f =>
    let ids := (s.cr.flights.filter f.sameOp).map Flight.id
    let t := s.modCtxAt f.k (fun c => { c with mq := c.mq.filter (fun o => !o.kind.lands ids) })
    let t := (s.cr.flights.filter f.sameOp).foldl (fun t x => x.what.restores x.k t) t
    { t with cr := { t.cr with flights := t.cr.flights.map (fun x => if f.sameOp x then { x with what := x.what.spoiled s x.k } else x) } }

/-- A read of a scatter met an uncorrectable error: its lanes that have not stored yet are discarded (R197). -/
def scatterReadError (op : Nat) (s : State) : State :=
  ([0, 1, 2, 3] : List (BitVec 2)).foldl (fun s k => s.modCtxAt k (fun c => { c with mq := c.mq.filter (fun o => o.lane != some op) })) s

/-- A read of a merge-unit command of the core's cluster met an uncorrectable error: the command is discarded, its destination lines become full
and poison, and the next command starts (R197). -/
def mergeReadError (id : Nat) (s : State) : State :=
  let cl := clusterOf s.g
  match (s.mergeAt cl).queue.find? (fun m => m.id == id) with
  | none => s
  | some m =>
    let s := m.fills.foldl (fun s l => s.poisonLine (lineKey m.g l)) s
    s.modMerge cl (fun u =>
      let rest := u.queue.filter (fun o => o.id != id)
      { u with queue := if (rest.head?).any (fun o => o.started.isNone) then startNext s.tnow rest else rest })

-- The scrubbers

/-- SCRUB_STEP: the next line of the core is read and held for 2 cycles; a single-bit error is corrected and counted, an uncorrectable one acts as
R197 states, and so does an owner tag that does not agree with the allotments (R196, R198). -/
def doScrubStep (line : Nat) (err : BitVec 2) (s : State) : Option State :=
  let s : State := { s with cr := { s.cr with
    scrubLine := (line + 1) % 32768, scrubAt := s.tnow, scrubHeld := some (line, s.tnow.toNat + 2) } }
  some (if err = 2 then lineError line s
    else
      let s := if err = 1 then s.logHealth (s.g / 192) 0 0 s.g line else s
      if s.ownerWrong line then (if (s.lineHolder line).isSome then lineError line s else loseScratch line s) else s)
/-- SCRUB_STEP (R196). -/
def execScrubStep (s : State) : Host.Outcome State Fault Refusal :=
  match s.event with
  | some (.scrubStep l e) => onEvent (doScrubStep l.toNat e s) s
  | _ => .next s

/-- ACCUMULATOR_SCRUB: the same for the accumulator store; a tile marked released is not read (R288, R307). -/
def doAccumulatorScrub (t : Nat) (err : BitVec 2) (s : State) : Option State :=
  let s : State := { s with cr := { s.cr with scrubTile := (t + 1) % 48, scrubTileAt := s.tnow } }
  some (if s.released.contains (s.g * 48 + t) then s
    else if err = 2 then tileError t s
    else if err = 1 then s.logHealth (s.g / 192) 0 1 s.g t
    else s)
/-- ACCUMULATOR_SCRUB (R288). -/
def execAccumulatorScrub (s : State) : Host.Outcome State Fault Refusal :=
  match s.event with
  | some (.accumulatorScrub t e) => onEvent (doAccumulatorScrub t.toNat e s) s
  | _ => .next s

-- Hardware errors

/-- Marks added to a granule list. -/
def addMarks (l : List Nat) (lo n : Nat) : List Nat := l.filter (fun i => i < lo) ++ ((List.range n).map (lo + ·) ++ l.filter (fun i => lo + n ≤ i))

/-- A granule of HBM becomes poison at its home (R542). -/
def State.poisonGranule (s : State) (n : Nat) : State := { s with hbmPoison := addMarks s.hbmPoison n 1 }

/-- An uncorrectable frame error: what the frame holds is poison, and its page becomes LOST by a shoot-down, which waits for the pins (R398,
R406, R542). A migration of the page under way gives its destination back; an eviction of it goes on. -/
def State.loseFrame (s : State) (f : Nat) : State :=
  let s : State := { s with hbmPoison := addMarks s.hbmPoison (f * 4096) 4096 }
  match tabGet s.frames f with
  | none => s
  | some r =>
    let l := s.leafOf r.obj r.page
    if l.frame != f then s
    else if l.state == .resident then s.startShoot r.obj r.page .setLost
    else
      let s := s.shoots.foldl (fun s h => match h.why with
        | .migrate f2 => if h.obj == r.obj && h.page == r.page then { s with frames := tabErase s.frames f2 } else s
        | _ => s) s
      { s with shoots := s.shoots.map (fun h => match h.why with
          | .migrate _ => if h.obj == r.obj && h.page == r.page then { h with why := .setLost } else h
          | _ => h) }

/-- A granule of a pool line becomes poison at its home. -/
def State.poisonPool (s : State) (n : Nat) : State :=
  let m := (tabGet s.poolLines (n / 8)).getD {}
  { s with poolLines := tabSet s.poolLines (n / 8) { m with poison := m.poison ||| (1 : BitVec 8) <<< (n % 8) } }

/-- A line of a cluster's cache is lost: a clean one is fetched again when next wanted, which is a corrected error; one with writes not
acknowledged makes its granules poison at their home, and its writes are over (R542). -/
def State.loseLine (s : State) (cl obj line : Nat) : State :=
  match (s.clusterAt cl).find obj line with
  | none => s
  | some l =>
    let a : MAddr := { space := if l.cls == .pool then .pool else .local, obj := obj, off := line * 128, frame := l.frame }
    if l.unacked = 0 && !l.pin then s.modCluster cl (fun c => c.dropLine obj line)
    else
      let s : State := { s with hbmPoison := addMarks s.hbmPoison (a.hbmLine * 8) 8 }
      let s := if l.cls == .pool then (List.range 8).foldl (fun s i => s.poisonPool (poolKey obj line * 8 + i)) s else s
      let s := (s.writes.filter (fun w => w.cluster == cl && w.a.obj == obj && w.a.line == line && w.a.space != .host)).foldl
        (fun s w => s.finishWrite w) s
      s.modCluster cl (fun c => c.dropLine obj line)

/-- A line of an evicted gang's image is lost: of a protected world its check will fail; else the line comes back as poison (R130, R483, R542). -/
def State.loseImageLine (s : State) (image line : Nat) : State :=
  { s with images := s.images.zipIdx.map (fun i =>
      if i.2 != image then i.1
      else if (i.1.ctxs.head?).any (fun c => c.sys.world != 0) then { i.1 with bad := true }
      else { i.1 with lines := i.1.lines.zipIdx.map (fun l =>
        if l.2 == line then (l.1.1, l.1.2.1, { l.1.2.2 with full := true, form := .poison }) else l.1) }) }

/-- A data error by unit (R542): 0 a granule of HBM, 1 a frame, 2 a granule of the pool, 3 a cluster's line named by object × 2^33 +
line, 4 a line of an image named by image × 2^20 + line. -/
def dataError (unit_ g loc : Nat) (s : State) : State :=
  match unit_ with
  | 0 => s.poisonGranule loc
  | 1 => s.loseFrame loc
  | 2 => s.poisonPool loc
  | 3 => s.loseLine g (loc / 2 ^ 33) (loc % 2 ^ 33)
  | 4 => s.loseImageLine (loc / 2 ^ 20) (loc % 2 ^ 20)
  | _ => s

/-- An error of a unit (R452, R542): 0 a TLB entry, dropped; 1 a walker, which walks again; 2 a merge unit, whose match state is lost
and its owner ended; 3 a copy buffer's entry, whose copy fails. -/
def unitError (unit_ g loc : Nat) (s : State) : State :=
  match unit_ with
  | 0 =>
    let e := (s.clusterAt g).tlb[loc]?
    (s.flushDA (fun c x => c == g && e == some x) (fun _ _ => false)).modCluster g (fun c => { c with tlb := c.tlb.eraseIdx loc })
  | 2 =>
    let cl := clusterOf g
    match (s.mergeAt cl).owner with
    | some (h, k) => (s.stripOwner cl).within h (fun s => s.eccFault k)
    | none => s
  | 3 => s.within g (fun s => match s.cr.copy loc with
      | some m => if m.hasFailed then s else failCopy m Code.eccUncorr.num s
      | none => s)
  | _ => s

/-- A die fails: every context on it ends with ECC_UNCORR and it takes no further dispatch (R542). -/
def State.loseDie (s : State) (die : Nat) : State :=
  let s : State := { s with deadDies := die :: s.deadDies.filter (· != die) }
  (s.resident.filter (fun c => c.1 / 192 == die)).foldl (fun s c => s.within c.1 (fun s => s.eccFault c.2.1)) s

/-- A corrected error of an optical lane counts against it, and for a time in its rate; `loc` is the lane, or 32 + lane for the receive direction (R517,
R522). -/
def State.countSymbol (s : State) (p lane : Nat) : State :=
  s.modPort p (fun q => { q with
    symbols := tabSet q.symbols lane ((tabGet q.symbols lane).getD 0 + 1)
    recent := q.recent.filter (fun r => s.tnow.toNat < r.2.toNat + Config.laneWindow) ++ [(lane, s.tnow)] })

/-- An uncorrectable codeword of a fibre of a port: the flits that it carries, next to arrive there, fail CRC (R517). -/
def State.spoilFlits (s : State) (p n : Nat) : State := s.modPort p (fun q => { q with spoiled := q.spoiled + n })

/-- What a corrected error does beside being logged. -/
def correctedError (unit_ g loc : Nat) (s : State) : State :=
  match unit_ with
  | 3 => s.spoilFlits g loc
  | 7 => s.countSymbol g loc
  | _ => s

/-- A cluster's line without writes to be acknowledged, whose error a refetch corrects (R542). -/
def State.cleanLine (s : State) (cl obj line : Nat) : Bool :=
  match (s.clusterAt cl).find obj line with
  | some l => l.unacked = 0 && !l.pin
  | none => true

/-- The die in whose health log an error is entered (R542): cores and clusters by their die, ports by their link die; the command processor stands on LD0. -/
def errorDie (cls unit_ g loc : Nat) : Nat :=
  match cls with
  | 0 => if unit_ = 3 || unit_ = 7 then linkDie (portDie g) else if unit_ = 2 then dieOfCluster g else g / 192
  | 2 => if unit_ = 3 then dieOfCluster g else if unit_ = 2 then 8 else frameDie (if unit_ = 1 then loc else loc / 4096)
  | 3 => if unit_ ≤ 1 then dieOfCluster g else g / 192
  | 4 => g
  | 5 => if unit_ = 0 then linkDie (g % 2) else linkDie 0
  | _ => g / 192

/-- HARDWARE_ERROR: logged in its die, and contained as its class says; die and package errors also go to PF0 (R542). A context error's
unit is 0 a line; 1 a tile; 2 a line and 3 a tile that an operation in flight has read, 4 a line and 5 a tile that a merge-unit command has read,
named by flight or command × 2^15 + line or tile, 7 an MMA's residue. A corrected one's unit is 0 a line; 1 a tile; 2 a cluster's clean line; 3 an uncorrectable
codeword of a port's fibre, which carries `loc` flits that their sender sends again; 4 a replayed MMA; 5 a process monitor's reading; 6 a malformed flit;
7 an optical lane. A package error's unit is 0 a link die, named by `g`; else the command processor. -/
def doHardwareError (cls unit_ : BitVec 3) (g loc : Nat) (s : State) : Option State :=
  let die := errorDie cls.toNat unit_.toNat g loc
  match cls.toNat with
  | 0 => some (correctedError unit_.toNat g loc (s.logHealth die cls unit_ g loc))
  | 1 => some (s.within g (fun s => match unit_.toNat with
      | 0 => lineError loc s
      | 1 => tileError loc s
      | 2 => readError (loc / 2 ^ 15) (lineError (loc % 2 ^ 15) s)
      | 3 => readError (loc / 2 ^ 15) (tileError (loc % 2 ^ 15) s)
      | 6 => scatterReadError (loc / 2 ^ 15) (lineError (loc % 2 ^ 15) s)
      | 4 => mergeReadError (loc / 2 ^ 15) (lineError (loc % 2 ^ 15) s)
      | _ => mergeReadError (loc / 2 ^ 15) (tileError (loc % 2 ^ 15) s)))
  | 2 => some (dataError unit_.toNat g loc (if unit_ = 3 && s.cleanLine g (loc / 2 ^ 33) (loc % 2 ^ 33) then s.logHealth die 0 2 g loc
      else s.logHealth die cls unit_ g loc))
  | 3 => some (unitError unit_.toNat g loc (s.logHealth die cls unit_ g loc))
  | 4 =>
    let s := (s.logHealth die cls unit_ g loc).loseDie g
    some { s with pf0 := s.pf0 ++ [.error cls g s.tnow] }
  | 5 =>
    let s := s.logHealth die cls unit_ g loc
    some { s with stopped := true, pf0 := s.pf0 ++ [.error cls die s.tnow] }
  | _ => none
/-- HARDWARE_ERROR (R542). -/
def execHardwareError (s : State) : Host.Outcome State Fault Refusal :=
  match s.event with
  | some (.hardwareError cls u g loc) => onEvent (doHardwareError cls u g loc s) s
  | _ => .next s

/-- HEALTH_LOG_CLEAR: a die's entries and counters (R543). -/
def doHealthLogClear (die : Nat) (s : State) : Option State :=
  some { s with health := s.health.filter (fun e => e.die != die), healthCnt := tabEraseRange s.healthCnt (die * 64) (die * 64 + 64) }
/-- HEALTH_LOG_CLEAR (R543). -/
def execHealthLogClear (s : State) : Host.Outcome State Fault Refusal :=
  match s.event with
  | some (.healthLogClear d) => onEvent (doHealthLogClear d.toNat s) s
  | _ => .next s

-- Current limits and monitors

/-- ILIM_SET: from 64 upwards; it applies from the next cycle (R547). -/
def doIlimSet (g : Nat) (v : BitVec 16) (s : State) : Option State :=
  if v.toNat < 64 then none else some (s.setCoreAt g { s.coreAt g with ilim := v })
/-- ILIM_SET (R547). -/
def execIlimSet (s : State) : Host.Outcome State Fault Refusal :=
  match s.event with
  | some (.ilimSet g v) => onEvent (doIlimSet g v s) s
  | _ => .next s

/-- The limit of every core of a die changed (R548). -/
def State.limitDie (s : State) (die : Nat) (f : BitVec 16 → BitVec 16) : State :=
  if 8 ≤ die then s
  else (List.range 192).foldl (fun s i =>
    let c := s.coreAt (die * 192 + i)
    s.setCoreAt (die * 192 + i) { c with ilim := f c.ilim }) s

/-- A limit lowered by an eighth of itself, never below 64 (R547, R548). -/
def lowerIlim (v : BitVec 16) : BitVec 16 := BitVec.ofNat 16 (max 64 (v.toNat - v.toNat / 8))

/-- The readings of a die's monitors kept, `per` of them (R548). -/
def keepReadings (t : Tab (BitVec 16)) (die per : Nat) (vs : List (BitVec 16)) : Tab (BitVec 16) :=
  (vs.take per).zipIdx.foldl (fun t v => tabSet t (die * per + v.2) v.1) t

/-- TEMPERATURE_SAMPLE: the readings of a die's 64 sensors, and the hottest of them against the thresholds of R548. -/
def doTemperatureSample (die : Nat) (temps : List (BitVec 16)) (s : State) : Option State :=
  let deg := (temps.take 64).foldl (fun m t => max m t.toNat) 0
  let s : State := { s with temps := keepReadings s.temps die 64 temps }
  if 115 ≤ deg then
    let s := s.logHealth die 5 0 die deg
    some { s with stopped := true, clocksStopped := true, pf0 := s.pf0 ++ [.error 5 die s.tnow], sent := s.sent ++ [.thermalTrip] }
  else if 105 ≤ deg then some (({ s with pf0 := s.pf0 ++ [.hot die deg] } : State).limitDie die (fun _ => 64))
  else if 95 ≤ deg then some (({ s with pf0 := s.pf0 ++ [.hot die deg] } : State).limitDie die lowerIlim)
  else some s
/-- TEMPERATURE_SAMPLE (R548). -/
def execTemperatureSample (s : State) : Host.Outcome State Fault Refusal :=
  match s.event with
  | some (.temperatureSample d t) => onEvent (doTemperatureSample d.toNat t s) s
  | _ => .next s

/-- A core's voltage domain is held in freeze cycles, or released (R546, R548). -/
def State.setDroop (s : State) (g : Nat) (v : Bool) : State := s.setCoreAt g { s.coreAt g with droop := v }

/-- The reading of one of a die's 16 voltage monitors (R548). -/
def State.readVolt (s : State) (g : Nat) (mon : BitVec 4) (v : BitVec 16) : State :=
  { s with volts := tabSet s.volts (g / 192 * 16 + mon.toNat) v }

/-- VOLTAGE_DROOP (R548). -/
def execVoltageDroop (s : State) : Host.Outcome State Fault Refusal :=
  match s.event with
  | some (.voltageDroop g mon v) => onEvent (some ((s.readVolt g mon v).setDroop g true)) s
  | _ => .next s
/-- SUPPLY_RECOVERY (R548). -/
def execSupplyRecovery (s : State) : Host.Outcome State Fault Refusal :=
  match s.event with
  | some (.supplyRecovery g mon v) => onEvent (some ((s.readVolt g mon v).setDroop g false)) s
  | _ => .next s

/-- The readings of a die's 8 process monitors, kept and logged (R548). -/
def doProcessSample (die : Nat) (vs : List (BitVec 16)) (s : State) : Option State :=
  some ({ s with procs := keepReadings s.procs die 8 vs } |>.logHealth die 0 5 die 0)
/-- PROCESS_SAMPLE: logged only (R548). -/
def execProcessSample (s : State) : Host.Outcome State Fault Refusal :=
  match s.event with
  | some (.processSample die vs) => onEvent (doProcessSample die.toNat vs s) s
  | _ => .next s

-- Power

/-- What outlives the package: host memory, the pool with its homes' times, tokens and leases, what stands outside, and the model's
own counters. Terms at the homes go on while TNOW starts again. -/
def State.outside (s t : State) : State :=
  { t with
    host := s.host, cxl := s.cxl, pool := s.pool, poolLines := s.poolLines, ht := s.ht, homeOld := s.homeOld, pageTokens := s.pageTokens
    homeLeases := s.liveLeases.map (fun l => { l with until_ := l.until_ - s.tnow.toNat })
    inputs := s.inputs, hostActs := s.hostActs, sent := s.sent, nextId := s.nextId, tick := s.tick }

/-- PACKAGE_RESET: power-on or reset; the package enters BOOT with its state as after reset (R549), and its port trains as PCIe or as CXL (R506). -/
def execPackageReset (s : State) : Host.Outcome State Fault Refusal :=
  match s.event with
  | some (.packageReset cxl) => onEvent (some { s.outside State.reset with cxl := cxl }) s
  | _ => .next s

/-- FIRMWARE_LOAD: in BOOT an accepted image is measured by component and the package enters RUN; a refused one leaves a status in
BOOTSTAT (R550, R551). -/
def doFirmwareLoad (image : List (BitVec 8)) (s : State) : Option State :=
  if s.power != .boot then none
  else if Config.firmwareAccepted image then
    some { s with
      power := .run
      measures := ([1, 2, 3, 4, 5] : List Nat).map (fun i => (i, BitVec.ofNat 384 (digestNat (sha384 (Config.component image i))))) }
  else some { s with bootstat := Config.freeWord s.tick, tick := s.tick + 1 }
/-- FIRMWARE_LOAD (R550). -/
def execFirmwareLoad (s : State) : Host.Outcome State Fault Refusal :=
  match s.event with
  | some (.firmwareLoad image) => onEvent (doFirmwareLoad image s) s
  | _ => .next s

/-- QUIESCE: from RUN; no dispatch, and the gangs drain or are evicted (R549). -/
def execQuiesce (s : State) : Host.Outcome State Fault Refusal :=
  match s.event with
  | some .quiesce => onEvent (if s.power == .run then some { s with power := .quiesce } else none) s
  | _ => .next s

/-- POWER_OFF: everything on the package is lost (R549). -/
def execPowerOff (s : State) : Host.Outcome State Fault Refusal :=
  match s.event with
  | some .powerOff => onEvent (some { s.outside State.reset with power := .off }) s
  | _ => .next s

end Sys2Proof.Machine
end

