-- ==== Sys2Proof/Machine/Dispatch.lean ====
section
/-! DEFINITION. The dispatch of an instruction to its meaning. -/

namespace Sys2Proof.Machine

def exec (i : Instr) (s : State) : Host.Outcome State Fault Refusal :=
  match i with
  | .add d a b => Sys2Proof.Machine.execAdd d a b s
  | .sub d a b => Sys2Proof.Machine.execSub d a b s
  | .mul d a b => Sys2Proof.Machine.execMul d a b s
  | .mulh d a b => Sys2Proof.Machine.execMulh d a b s
  | .mulhn d a b => Sys2Proof.Machine.execMulhn d a b s
  | .div d a b => Sys2Proof.Machine.execDiv d a b s
  | .divn d a b => Sys2Proof.Machine.execDivn d a b s
  | .rem d a b => Sys2Proof.Machine.execRem d a b s
  | .remn d a b => Sys2Proof.Machine.execRemn d a b s
  | .and d a b => Sys2Proof.Machine.execAnd d a b s
  | .or d a b => Sys2Proof.Machine.execOr d a b s
  | .xor d a b => Sys2Proof.Machine.execXor d a b s
  | .shl d a b => Sys2Proof.Machine.execShl d a b s
  | .shr d a b => Sys2Proof.Machine.execShr d a b s
  | .sar d a b => Sys2Proof.Machine.execSar d a b s
  | .min d a b => Sys2Proof.Machine.execMin d a b s
  | .max d a b => Sys2Proof.Machine.execMax d a b s
  | .minn d a b => Sys2Proof.Machine.execMinn d a b s
  | .maxn d a b => Sys2Proof.Machine.execMaxn d a b s
  | .clz d a => Sys2Proof.Machine.execClz d a s
  | .popc d a => Sys2Proof.Machine.execPopc d a s
  | .sel d a b p => Sys2Proof.Machine.execSel d a b p s
  | .addi d a i_ => Sys2Proof.Machine.execAddi d a i_ s
  | .andi d a i_ => Sys2Proof.Machine.execAndi d a i_ s
  | .ori d a i_ => Sys2Proof.Machine.execOri d a i_ s
  | .xori d a i_ => Sys2Proof.Machine.execXori d a i_ s
  | .shli d a i_ => Sys2Proof.Machine.execShli d a i_ s
  | .shri d a i_ => Sys2Proof.Machine.execShri d a i_ s
  | .sari d a i_ => Sys2Proof.Machine.execSari d a i_ s
  | .muli d a i_ => Sys2Proof.Machine.execMuli d a i_ s
  | .movi d i_ => Sys2Proof.Machine.execMovi d i_ s
  | .movs d i_ => Sys2Proof.Machine.execMovs d i_ s
  | .cmpEq p a b => Sys2Proof.Machine.execCmpEq p a b s
  | .cmpNe p a b => Sys2Proof.Machine.execCmpNe p a b s
  | .cmpLt p a b => Sys2Proof.Machine.execCmpLt p a b s
  | .cmpLe p a b => Sys2Proof.Machine.execCmpLe p a b s
  | .cmpLtn p a b => Sys2Proof.Machine.execCmpLtn p a b s
  | .cmpLen p a b => Sys2Proof.Machine.execCmpLen p a b s
  | .cmpiEq p a i_ => Sys2Proof.Machine.execCmpiEq p a i_ s
  | .cmpiNe p a i_ => Sys2Proof.Machine.execCmpiNe p a i_ s
  | .cmpiLt p a i_ => Sys2Proof.Machine.execCmpiLt p a i_ s
  | .cmpiLe p a i_ => Sys2Proof.Machine.execCmpiLe p a i_ s
  | .cmpiGt p a i_ => Sys2Proof.Machine.execCmpiGt p a i_ s
  | .cmpiGe p a i_ => Sys2Proof.Machine.execCmpiGe p a i_ s
  | .pand d a b => Sys2Proof.Machine.execPand d a b s
  | .por d a b => Sys2Proof.Machine.execPor d a b s
  | .pxor d a b => Sys2Proof.Machine.execPxor d a b s
  | .pnot d a => Sys2Proof.Machine.execPnot d a s
  | .ldI8 x c o => Sys2Proof.Machine.execLdI8 x c o s
  | .ldN8 x c o => Sys2Proof.Machine.execLdN8 x c o s
  | .ldI16 x c o => Sys2Proof.Machine.execLdI16 x c o s
  | .ldN16 x c o => Sys2Proof.Machine.execLdN16 x c o s
  | .ldI32 x c o => Sys2Proof.Machine.execLdI32 x c o s
  | .ldN32 x c o => Sys2Proof.Machine.execLdN32 x c o s
  | .ldI64 x c o => Sys2Proof.Machine.execLdI64 x c o s
  | .st8 x c o => Sys2Proof.Machine.execSt8 x c o s
  | .st16 x c o => Sys2Proof.Machine.execSt16 x c o s
  | .st32 x c o => Sys2Proof.Machine.execSt32 x c o s
  | .st64 x c o => Sys2Proof.Machine.execSt64 x c o s
  | .ldc d c o => Sys2Proof.Machine.execLdc d c o s
  | .stc d c o => Sys2Proof.Machine.execStc d c o s
  | .clim d a b => Sys2Proof.Machine.execClim d a b s
  | .climx d a b => Sys2Proof.Machine.execClimx d a b s
  | .cmask d a b => Sys2Proof.Machine.execCmask d a b s
  | .cadv d a b => Sys2Proof.Machine.execCadv d a b s
  | .cadvi d a i_ => Sys2Proof.Machine.execCadvi d a i_ s
  | .cpos d a b => Sys2Proof.Machine.execCpos d a b s
  | .cget d a s_ => Sys2Proof.Machine.execCget d a s_ s
  | .cmov d a => Sys2Proof.Machine.execCmov d a s
  | .cseal d a s_ => Sys2Proof.Machine.execCseal d a s_ s
  | .cunseal d a s_ => Sys2Proof.Machine.execCunseal d a s_ s
  | .ctest p a b c => Sys2Proof.Machine.execCtest p a b c s
  | .cclr d a => Sys2Proof.Machine.execCclr d a s
  | .mfs d n => Sys2Proof.Machine.execMfs d n s
  | .mts a n => Sys2Proof.Machine.execMts a n s
  | .mtdCap d c => Sys2Proof.Machine.execMtdCap d c s
  | .mtdValue d s_ a => Sys2Proof.Machine.execMtdValue d s_ a s
  | .mtstr s_ e a => Sys2Proof.Machine.execMtstr s_ e a s
  | .time d => Sys2Proof.Machine.execTime d s
  | .vaddF32 u n k t d a b => Sys2Proof.Machine.execVaddF32 u n k t d a b s
  | .vaddBf16 u n k t d a b => Sys2Proof.Machine.execVaddBf16 u n k t d a b s
  | .vaddI32 u n k t d a b => Sys2Proof.Machine.execVaddI32 u n k t d a b s
  | .vaddI16 u n k t d a b => Sys2Proof.Machine.execVaddI16 u n k t d a b s
  | .vaddI8 u n k t d a b => Sys2Proof.Machine.execVaddI8 u n k t d a b s
  | .vsubF32 u n k t d a b => Sys2Proof.Machine.execVsubF32 u n k t d a b s
  | .vsubBf16 u n k t d a b => Sys2Proof.Machine.execVsubBf16 u n k t d a b s
  | .vsubI32 u n k t d a b => Sys2Proof.Machine.execVsubI32 u n k t d a b s
  | .vsubI16 u n k t d a b => Sys2Proof.Machine.execVsubI16 u n k t d a b s
  | .vsubI8 u n k t d a b => Sys2Proof.Machine.execVsubI8 u n k t d a b s
  | .vmulF32 u n k t d a b => Sys2Proof.Machine.execVmulF32 u n k t d a b s
  | .vmulBf16 u n k t d a b => Sys2Proof.Machine.execVmulBf16 u n k t d a b s
  | .vmulI32 u n k t d a b => Sys2Proof.Machine.execVmulI32 u n k t d a b s
  | .vmulI16 u n k t d a b => Sys2Proof.Machine.execVmulI16 u n k t d a b s
  | .vfmaF32 u n k t d a b => Sys2Proof.Machine.execVfmaF32 u n k t d a b s
  | .vfmaBf16 u n k t d a b => Sys2Proof.Machine.execVfmaBf16 u n k t d a b s
  | .vfmsF32 u n k t d a b => Sys2Proof.Machine.execVfmsF32 u n k t d a b s
  | .vfmsBf16 u n k t d a b => Sys2Proof.Machine.execVfmsBf16 u n k t d a b s
  | .vmaxF32 u n k t d a b => Sys2Proof.Machine.execVmaxF32 u n k t d a b s
  | .vmaxBf16 u n k t d a b => Sys2Proof.Machine.execVmaxBf16 u n k t d a b s
  | .vmaxI32 u n k t d a b => Sys2Proof.Machine.execVmaxI32 u n k t d a b s
  | .vmaxI16 u n k t d a b => Sys2Proof.Machine.execVmaxI16 u n k t d a b s
  | .vmaxI8 u n k t d a b => Sys2Proof.Machine.execVmaxI8 u n k t d a b s
  | .vminF32 u n k t d a b => Sys2Proof.Machine.execVminF32 u n k t d a b s
  | .vminBf16 u n k t d a b => Sys2Proof.Machine.execVminBf16 u n k t d a b s
  | .vminI32 u n k t d a b => Sys2Proof.Machine.execVminI32 u n k t d a b s
  | .vminI16 u n k t d a b => Sys2Proof.Machine.execVminI16 u n k t d a b s
  | .vminI8 u n k t d a b => Sys2Proof.Machine.execVminI8 u n k t d a b s
  | .vabsF32 u n k t d a => Sys2Proof.Machine.execVabsF32 u n k t d a s
  | .vabsI32 u n k t d a => Sys2Proof.Machine.execVabsI32 u n k t d a s
  | .vnegF32 u n k t d a => Sys2Proof.Machine.execVnegF32 u n k t d a s
  | .vnegI32 u n k t d a => Sys2Proof.Machine.execVnegI32 u n k t d a s
  | .vaddsI16 u n k t d a b => Sys2Proof.Machine.execVaddsI16 u n k t d a b s
  | .vaddsI8 u n k t d a b => Sys2Proof.Machine.execVaddsI8 u n k t d a b s
  | .vsubsI16 u n k t d a b => Sys2Proof.Machine.execVsubsI16 u n k t d a b s
  | .vsubsI8 u n k t d a b => Sys2Proof.Machine.execVsubsI8 u n k t d a b s
  | .vmulhI32 u n k t d a b => Sys2Proof.Machine.execVmulhI32 u n k t d a b s
  | .vand u n k t d a b => Sys2Proof.Machine.execVand u n k t d a b s
  | .vor u n k t d a b => Sys2Proof.Machine.execVor u n k t d a b s
  | .vxor u n k t d a b => Sys2Proof.Machine.execVxor u n k t d a b s
  | .vnot u n k t d a => Sys2Proof.Machine.execVnot u n k t d a s
  | .vshlI32 u n k t d a b => Sys2Proof.Machine.execVshlI32 u n k t d a b s
  | .vshrI32 u n k t d a b => Sys2Proof.Machine.execVshrI32 u n k t d a b s
  | .vsarI32 u n k t d a b => Sys2Proof.Machine.execVsarI32 u n k t d a b s
  | .vcmpF32Eq u n k t d a b => Sys2Proof.Machine.execVcmpF32Eq u n k t d a b s
  | .vcmpF32Ne u n k t d a b => Sys2Proof.Machine.execVcmpF32Ne u n k t d a b s
  | .vcmpF32Lt u n k t d a b => Sys2Proof.Machine.execVcmpF32Lt u n k t d a b s
  | .vcmpF32Le u n k t d a b => Sys2Proof.Machine.execVcmpF32Le u n k t d a b s
  | .vcmpI32Eq u n k t d a b => Sys2Proof.Machine.execVcmpI32Eq u n k t d a b s
  | .vcmpI32Ne u n k t d a b => Sys2Proof.Machine.execVcmpI32Ne u n k t d a b s
  | .vcmpI32Lt u n k t d a b => Sys2Proof.Machine.execVcmpI32Lt u n k t d a b s
  | .vcmpI32Le u n k t d a b => Sys2Proof.Machine.execVcmpI32Le u n k t d a b s
  | .vsel u n k t d a b => Sys2Proof.Machine.execVsel u n k t d a b s
  | .vbcx32 u n k t d x => Sys2Proof.Machine.execVbcx32 u n k t d x s
  | .vbcx16 u n k t d x => Sys2Proof.Machine.execVbcx16 u n k t d x s
  | .vmov u n k t d a => Sys2Proof.Machine.execVmov u n k t d a s
  | .vcvtF32Bf16 u n k t d a => Sys2Proof.Machine.execVcvtF32Bf16 u n k t d a s
  | .vcvtBf16F32 u n k t d a => Sys2Proof.Machine.execVcvtBf16F32 u n k t d a s
  | .vcvtF32I32 u n k t d a => Sys2Proof.Machine.execVcvtF32I32 u n k t d a s
  | .vcvtI32F32 u n k t d a => Sys2Proof.Machine.execVcvtI32F32 u n k t d a s
  | .vcvtI32I16 u n k t d a => Sys2Proof.Machine.execVcvtI32I16 u n k t d a s
  | .vcvtI16I32 u n k t d a => Sys2Proof.Machine.execVcvtI16I32 u n k t d a s
  | .vcvtI16I8 u n k t d a => Sys2Proof.Machine.execVcvtI16I8 u n k t d a s
  | .vcvtI8I16 u n k t d a => Sys2Proof.Machine.execVcvtI8I16 u n k t d a s
  | .vqntMx8 u n k t d a b => Sys2Proof.Machine.execVqntMx8 u n k t d a b s
  | .vqntMx6 u n k t d a b => Sys2Proof.Machine.execVqntMx6 u n k t d a b s
  | .vqntMx4 u n k t d a b => Sys2Proof.Machine.execVqntMx4 u n k t d a b s
  | .vamaxF32 u n k t a => Sys2Proof.Machine.execVamaxF32 u n k t a s
  | .vamaxBf16 u n k t a => Sys2Proof.Machine.execVamaxBf16 u n k t a s
  | .vdqntMx8 u n k t d a b => Sys2Proof.Machine.execVdqntMx8 u n k t d a b s
  | .vdqntMx6 u n k t d a b => Sys2Proof.Machine.execVdqntMx6 u n k t d a b s
  | .vdqntMx4 u n k t d a b => Sys2Proof.Machine.execVdqntMx4 u n k t d a b s
  | .vplnMx8 u n t d a => Sys2Proof.Machine.execVplnMx8 u n t d a s
  | .vplnMx6 u n t d a => Sys2Proof.Machine.execVplnMx6 u n t d a s
  | .vplnMx4 u n t d a => Sys2Proof.Machine.execVplnMx4 u n t d a s
  | .vuplnMx8 u n t d a => Sys2Proof.Machine.execVuplnMx8 u n t d a s
  | .vuplnMx6 u n t d a => Sys2Proof.Machine.execVuplnMx6 u n t d a s
  | .vuplnMx4 u n t d a => Sys2Proof.Machine.execVuplnMx4 u n t d a s
  | .vrcpa u n k t d a => Sys2Proof.Machine.execVrcpa u n k t d a s
  | .vrsqa u n k t d a => Sys2Proof.Machine.execVrsqa u n k t d a s
  | .vexp2a u n k t d a => Sys2Proof.Machine.execVexp2a u n k t d a s
  | .vlog2a u n k t d a => Sys2Proof.Machine.execVlog2a u n k t d a s
  | .vrsumF32 u n k t d a => Sys2Proof.Machine.execVrsumF32 u n k t d a s
  | .vrsumI32 u n k t d a => Sys2Proof.Machine.execVrsumI32 u n k t d a s
  | .vrmaxF32 u n k t d a => Sys2Proof.Machine.execVrmaxF32 u n k t d a s
  | .vrminF32 u n k t d a => Sys2Proof.Machine.execVrminF32 u n k t d a s
  | .vscanI32 u n k t d a => Sys2Proof.Machine.execVscanI32 u n k t d a s
  | .vtopkF32 u n k t d a x => Sys2Proof.Machine.execVtopkF32 u n k t d a x s
  | .vperm32 u n k t d a b => Sys2Proof.Machine.execVperm32 u n k t d a b s
  | .vperm16 u n k t d a b => Sys2Proof.Machine.execVperm16 u n k t d a b s
  | .vperm8 u n k t d a b => Sys2Proof.Machine.execVperm8 u n k t d a b s
  | .vrotl32 u n k t d a x => Sys2Proof.Machine.execVrotl32 u n k t d a x s
  | .vzip32 u n t d a b => Sys2Proof.Machine.execVzip32 u n t d a b s
  | .vunzip32 u n t d a b => Sys2Proof.Machine.execVunzip32 u n t d a b s
  | .vxtr32 u t d a x => Sys2Proof.Machine.execVxtr32 u t d a x s
  | .vins32 u k t d a b => Sys2Proof.Machine.execVins32 u k t d a b s
  | .viota32 u n k t d x => Sys2Proof.Machine.execViota32 u n k t d x s
  | .vlutBf16 u n k t d a => Sys2Proof.Machine.execVlutBf16 u n k t d a s
  | .vltld u t a => Sys2Proof.Machine.execVltld u t a s
  | .vgath32 n k t d a c => Sys2Proof.Machine.execVgath32 n k t d a c s
  | .vgath16 n k t d a c => Sys2Proof.Machine.execVgath16 n k t d a c s
  | .vscat32 n k t d a c => Sys2Proof.Machine.execVscat32 n k t d a c s
  | .vscat16 n k t d a c => Sys2Proof.Machine.execVscat16 n k t d a c s
  | .mma a b t g => Sys2Proof.Machine.execMma a b t g s
  | .mmaOw a b t g => Sys2Proof.Machine.execMmaOw a b t g s
  | .mzero t => Sys2Proof.Machine.execMzero t s
  | .mres t => Sys2Proof.Machine.execMres t s
  | .mrdF32 v t c f => Sys2Proof.Machine.execMrdF32 v t c f s
  | .mrdBf16 v t c f => Sys2Proof.Machine.execMrdBf16 v t c f s
  | .mwrF32 v t c f => Sys2Proof.Machine.execMwrF32 v t c f s
  | .mscl v t c f => Sys2Proof.Machine.execMscl v t c f s
  | .mrowmax v t c f => Sys2Proof.Machine.execMrowmax v t c f s
  | .getc u d q r s_ m x g => Sys2Proof.Machine.execGetc u d q r s_ m x g s
  | .putc u d q r s_ m x g => Sys2Proof.Machine.execPutc u d q r s_ m x g s
  | .getp u d q r s_ m x g => Sys2Proof.Machine.execGetp u d q r s_ m x g s
  | .xfer u d q r s_ m x g => Sys2Proof.Machine.execXfer u d q r s_ m x g s
  | .bget u d m x g => Sys2Proof.Machine.execBget u d m x g s
  | .pref u d => Sys2Proof.Machine.execPref u d s
  | .putr u d q r s_ m x g => Sys2Proof.Machine.execPutr u d q r s_ m x g s
  | .cflush u n => Sys2Proof.Machine.execCflush u n s
  | .fence a b c s_ k => Sys2Proof.Machine.execFence a b c s_ k s
  | .fenceall s_ k => Sys2Proof.Machine.execFenceall s_ k s
  | .aaddI32 d c x s_ q r => Sys2Proof.Machine.execAaddI32 d c x s_ q r s
  | .aaddI64 d c x s_ q r => Sys2Proof.Machine.execAaddI64 d c x s_ q r s
  | .aminI64 d c x s_ q r => Sys2Proof.Machine.execAminI64 d c x s_ q r s
  | .amaxI64 d c x s_ q r => Sys2Proof.Machine.execAmaxI64 d c x s_ q r s
  | .aminnN64 d c x s_ q r => Sys2Proof.Machine.execAminnN64 d c x s_ q r s
  | .amaxnN64 d c x s_ q r => Sys2Proof.Machine.execAmaxnN64 d c x s_ q r s
  | .aand d c x s_ q r => Sys2Proof.Machine.execAand d c x s_ q r s
  | .aor d c x s_ q r => Sys2Proof.Machine.execAor d c x s_ q r s
  | .axor d c x s_ q r => Sys2Proof.Machine.execAxor d c x s_ q r s
  | .axchg d c x s_ q r => Sys2Proof.Machine.execAxchg d c x s_ q r s
  | .acas d c x s_ q r => Sys2Proof.Machine.execAcas d c x s_ q r s
  | .acas2 d c x s_ q r => Sys2Proof.Machine.execAcas2 d c x s_ q r s
  | .afaddF32 d c x s_ q r => Sys2Proof.Machine.execAfaddF32 d c x s_ q r s
  | .ainit a n => Sys2Proof.Machine.execAinit a n s
  | .arrive d a s_ n => Sys2Proof.Machine.execArrive d a s_ n s
  | .waitph d a p l => Sys2Proof.Machine.execWaitph d a p l s
  | .lacqR d c s_ => Sys2Proof.Machine.execLacqR d c s_ s
  | .lacqW d c s_ => Sys2Proof.Machine.execLacqW d c s_ s
  | .lrel d c s_ => Sys2Proof.Machine.execLrel d c s_ s
  | .lrenew d c s_ => Sys2Proof.Machine.execLrenew d c s_ s
  | .harv d c s_ => Sys2Proof.Machine.execHarv d c s_ s
  | .sealLines a b c => Sys2Proof.Machine.execSealLines a b c s
  | .openLines a b c => Sys2Proof.Machine.execOpenLines a b c s
  | .hwin d c => Sys2Proof.Machine.execHwin d c s
  | .mgmatch t a b => Sys2Proof.Machine.execMgmatch t a b s
  | .mgsel a b c => Sys2Proof.Machine.execMgsel a b c s
  | .mgmerge a b c => Sys2Proof.Machine.execMgmerge a b c s
  | .mgunm a b c => Sys2Proof.Machine.execMgunm a b c s
  | .mglogs a b => Sys2Proof.Machine.execMglogs a b s
  | .trap i_ => Sys2Proof.Machine.execTrap i_ s
  | .signal a i_ => Sys2Proof.Machine.execSignal a i_ s
  | .br p n o => Sys2Proof.Machine.execBr p n o s
  | .jmp p n i_ => Sys2Proof.Machine.execJmp p n i_ s
  | .jmpx p n a => Sys2Proof.Machine.execJmpx p n a s
  | .call p n i_ => Sys2Proof.Machine.execCall p n i_ s
  | .ret p n => Sys2Proof.Machine.execRet p n s
  | .loop a s_ e => Sys2Proof.Machine.execLoop a s_ e s
  | .rot n => Sys2Proof.Machine.execRot n s
  | .waitl a n => Sys2Proof.Machine.execWaitl a n s
  | .waitt t => Sys2Proof.Machine.execWaitt t s
  | .waitc n => Sys2Proof.Machine.execWaitc n s
  | .brk i_ => Sys2Proof.Machine.execBrk i_ s
  | .nop => Sys2Proof.Machine.execNop s
  | .lsync => Sys2Proof.Machine.execLsync s
  | .yield => Sys2Proof.Machine.execYield s
  | .taskEnd => Sys2Proof.Machine.execEnd s
  | .fetchPastEnd => Sys2Proof.Machine.execFetchPastEnd s
  | .waitCounterExpiry => Sys2Proof.Machine.execWaitCounterExpiry s
  | .engineWaitEnd => Sys2Proof.Machine.execEngineWaitEnd s
  | .coreClockGate => Sys2Proof.Machine.execCoreClockGate s
  | .coreWake => Sys2Proof.Machine.execCoreWake s
  | .dispatchOpportunity => Sys2Proof.Machine.execDispatchOpportunity s
  | .gangReserve => Sys2Proof.Machine.execGangReserve s
  | .gangEvict => Sys2Proof.Machine.execGangEvict s
  | .evictionComplete => Sys2Proof.Machine.execEvictionComplete s
  | .gangRestore => Sys2Proof.Machine.execGangRestore s
  | .drainComplete => Sys2Proof.Machine.execDrainComplete s
  | .contextResume => Sys2Proof.Machine.execContextResume s
  | .contextEnd => Sys2Proof.Machine.execContextEnd s
  | .asyncFaultDelivery => Sys2Proof.Machine.execAsyncFaultDelivery s
  | .vectorBypassFill => Sys2Proof.Machine.execVectorBypassFill s
  | .vectorLineWrite => Sys2Proof.Machine.execVectorLineWrite s
  | .maskWrite => Sys2Proof.Machine.execMaskWrite s
  | .divideResult => Sys2Proof.Machine.execDivideResult s
  | .loadReturn => Sys2Proof.Machine.execLoadReturn s
  | .storeApply => Sys2Proof.Machine.execStoreApply s
  | .writeAck => Sys2Proof.Machine.execWriteAck s
  | .atomicReturn => Sys2Proof.Machine.execAtomicReturn s
  | .atomicFail => Sys2Proof.Machine.execAtomicFail s
  | .gatherLand => Sys2Proof.Machine.execGatherLand s
  | .tileRetire => Sys2Proof.Machine.execTileRetire s
  | .residueReplay => Sys2Proof.Machine.execResidueReplay s
  | .residue => Sys2Proof.Machine.execResidue s
  | .releaseComplete => Sys2Proof.Machine.execReleaseComplete s
  | .acquireComplete => Sys2Proof.Machine.execAcquireComplete s
  | .pinRetryTimeout => Sys2Proof.Machine.execPinRetryTimeout s
  | .signalRecordWrite => Sys2Proof.Machine.execSignalRecordWrite s
  | .timedEligible => Sys2Proof.Machine.execTimedEligible s
  | .copyActivate => Sys2Proof.Machine.execCopyActivate s
  | .copyLineLand => Sys2Proof.Machine.execCopyLineLand s
  | .copyAck => Sys2Proof.Machine.execCopyAck s
  | .copyComplete => Sys2Proof.Machine.execCopyComplete s
  | .copyFail => Sys2Proof.Machine.execCopyFail s
  | .arriveApply => Sys2Proof.Machine.execArriveApply s
  | .waitphTimeout => Sys2Proof.Machine.execWaitphTimeout s
  | .tlbWalkEnd => Sys2Proof.Machine.execTlbWalkEnd s
  | .pageService => Sys2Proof.Machine.execPageService s
  | .pageResident => Sys2Proof.Machine.execPageResident s
  | .pageServiceFail => Sys2Proof.Machine.execPageServiceFail s
  | .shootDown => Sys2Proof.Machine.execShootDown s
  | .shootDownComplete => Sys2Proof.Machine.execShootDownComplete s
  | .pageMigrate => Sys2Proof.Machine.execPageMigrate s
  | .revoke => Sys2Proof.Machine.execRevoke s
  | .revokeComplete => Sys2Proof.Machine.execRevokeComplete s
  | .revocationSweep => Sys2Proof.Machine.execRevocationSweep s
  | .daSweep => Sys2Proof.Machine.execDaSweep s
  | .harvestComplete => Sys2Proof.Machine.execHarvestComplete s
  | .scrubStep => Sys2Proof.Machine.execScrubStep s
  | .accumulatorScrub => Sys2Proof.Machine.execAccumulatorScrub s
  | .mgCommandComplete => Sys2Proof.Machine.execMgCommandComplete s
  | .mergeClaimTimeout => Sys2Proof.Machine.execMergeClaimTimeout s
  | .mergeClaim => Sys2Proof.Machine.execMergeClaim s
  | .cipherLineDone => Sys2Proof.Machine.execCipherLineDone s
  | .rekey => Sys2Proof.Machine.execRekey s
  | .rekeyComplete => Sys2Proof.Machine.execRekeyComplete s
  | .worldCreate => Sys2Proof.Machine.execWorldCreate s
  | .worldDestroy => Sys2Proof.Machine.execWorldDestroy s
  | .programLoad => Sys2Proof.Machine.execProgramLoad s
  | .coreClear => Sys2Proof.Machine.execCoreClear s
  | .spdmGetMeasurements => Sys2Proof.Machine.execSpdmGetMeasurements s
  | .ltTick => Sys2Proof.Machine.execLtTick s
  | .lineFill => Sys2Proof.Machine.execLineFill s
  | .copyAgeing => Sys2Proof.Machine.execCopyAgeing s
  | .writeRefused => Sys2Proof.Machine.execWriteRefused s
  | .leaseGrant => Sys2Proof.Machine.execLeaseGrant s
  | .leaseAcquireTimeout => Sys2Proof.Machine.execLeaseAcquireTimeout s
  | .leaseRenewResponse => Sys2Proof.Machine.execLeaseRenewResponse s
  | .leaseReleaseResponse => Sys2Proof.Machine.execLeaseReleaseResponse s
  | .leaseExpiry => Sys2Proof.Machine.execLeaseExpiry s
  | .leaseRenewalDue => Sys2Proof.Machine.execLeaseRenewalDue s
  | .bulkGetPage => Sys2Proof.Machine.execBulkGetPage s
  | .jasperWalk => Sys2Proof.Machine.execJasperWalk s
  | .leaseRetry => Sys2Proof.Machine.execLeaseRetry s
  | .checkpointJob => Sys2Proof.Machine.execCheckpointJob s
  | .tmodeWrite => Sys2Proof.Machine.execTmodeWrite s
  | .tenantReset => Sys2Proof.Machine.execTenantReset s
  | .doorbellNotify => Sys2Proof.Machine.execDoorbellNotify s
  | .queueMap => Sys2Proof.Machine.execQueueMap s
  | .queueUnmap => Sys2Proof.Machine.execQueueUnmap s
  | .dispatchWrite => Sys2Proof.Machine.execDispatchWrite s
  | .evciWrite => Sys2Proof.Machine.execEvciWrite s
  | .armTag => Sys2Proof.Machine.execArmTag s
  | .disarmTag => Sys2Proof.Machine.execDisarmTag s
  | .armedMessage => Sys2Proof.Machine.execArmedMessage s
  | .windowOpen => Sys2Proof.Machine.execWindowOpen s
  | .windowClose => Sys2Proof.Machine.execWindowClose s
  | .hostWindowWrite => Sys2Proof.Machine.execHostWindowWrite s
  | .channelUpdate => Sys2Proof.Machine.execChannelUpdate s
  | .channelReset => Sys2Proof.Machine.execChannelReset s
  | .registerWrite => Sys2Proof.Machine.execRegisterWrite s
  | .flitReceive => Sys2Proof.Machine.execFlitReceive s
  | .flitReplay => Sys2Proof.Machine.execFlitReplay s
  | .laneMapChange => Sys2Proof.Machine.execLaneMapChange s
  | .heaterLimit => Sys2Proof.Machine.execHeaterLimit s
  | .vetoTimeout => Sys2Proof.Machine.execVetoTimeout s
  | .microcontrollerReset => Sys2Proof.Machine.execMicrocontrollerReset s
  | .retuneMarginExpiry => Sys2Proof.Machine.execRetuneMarginExpiry s
  | .windowGrant => Sys2Proof.Machine.execWindowGrant s
  | .cumulativeAck => Sys2Proof.Machine.execCumulativeAck s
  | .pathFailureResend => Sys2Proof.Machine.execPathFailureResend s
  | .arbiterGrant => Sys2Proof.Machine.execArbiterGrant s
  | .arbiterRequest => Sys2Proof.Machine.execArbiterRequest s
  | .topologyChangeRequest => Sys2Proof.Machine.execTopologyChangeRequest s
  | .topologyPrepare => Sys2Proof.Machine.execTopologyPrepare s
  | .topologyCommit => Sys2Proof.Machine.execTopologyCommit s
  | .topologyAbort => Sys2Proof.Machine.execTopologyAbort s
  | .prepareTimeout => Sys2Proof.Machine.execPrepareTimeout s
  | .decisionQuery => Sys2Proof.Machine.execDecisionQuery s
  | .coordinatorUnreachable => Sys2Proof.Machine.execCoordinatorUnreachable s
  | .reductionSetup => Sys2Proof.Machine.execReductionSetup s
  | .reductionTeardown => Sys2Proof.Machine.execReductionTeardown s
  | .contributionArrival => Sys2Proof.Machine.execContributionArrival s
  | .ilimSet => Sys2Proof.Machine.execIlimSet s
  | .freezeCycle => Sys2Proof.Machine.execFreezeCycle s
  | .temperatureSample => Sys2Proof.Machine.execTemperatureSample s
  | .voltageDroop => Sys2Proof.Machine.execVoltageDroop s
  | .processSample => Sys2Proof.Machine.execProcessSample s
  | .hardwareError => Sys2Proof.Machine.execHardwareError s
  | .healthLogClear => Sys2Proof.Machine.execHealthLogClear s
  | .packageReset => Sys2Proof.Machine.execPackageReset s
  | .firmwareLoad => Sys2Proof.Machine.execFirmwareLoad s
  | .quiesce => Sys2Proof.Machine.execQuiesce s
  | .powerOff => Sys2Proof.Machine.execPowerOff s
  | .supplyRecovery => Sys2Proof.Machine.execSupplyRecovery s
  | .laneVeto => Sys2Proof.Machine.execLaneVeto s
  | .retuningResume => Sys2Proof.Machine.execRetuningResume s
  | .slotStart => Sys2Proof.Machine.execSlotStart s
  | .prepareAnswer => Sys2Proof.Machine.execPrepareAnswer s
  | .objectCreate => Sys2Proof.Machine.execObjectCreate s
  | .objectDelete => Sys2Proof.Machine.execObjectDelete s
  | .harvestListOpen => Sys2Proof.Machine.execHarvestListOpen s
  | .tstepSet => Sys2Proof.Machine.execTstepSet s
  | .hostLeaseRenewal => Sys2Proof.Machine.execHostLeaseRenewal s

end Sys2Proof.Machine
end

