-- ==== Sys2Proof/Machine/Cycle.lean ====
section
/-! DEFINITION. What a step chooses from: an event performed, the events that are due now, the events that may happen at any
time, and the cycle of a core with the bundle at its PC (R19, R74 to R79, R545). -/

namespace Sys2Proof.Machine

/-- An outcome followed by a change of its next state. -/
def onNext (o : Host.Outcome State Fault Refusal) (f : State → State) : Host.Outcome State Fault Refusal :=
  match o with
  | .next s => .next (f s)
  | .fault r => .fault r
  | .refused r => .refused r

/-- The event at hand is over. -/
def State.clearEvent (s : State) : State := { s with event := none }

/-- An event happens: its row of the table with its operands. -/
def perform (e : Event) (s : State) : Host.Outcome State Fault Refusal :=
  onNext (exec e.instr { s with event := some e }) State.clearEvent

-- Inputs

/-- What the package still takes: in BOOT, and once it has stopped answering, only what its boot ROM, its board and its monitors do
(R542, R548 to R550). -/
def State.hears (s : State) : Event → Bool
  | .packageReset _ => true
  | .powerOff => true
  | .firmwareLoad _ => !s.clocksStopped
  | .temperatureSample .. => !s.clocksStopped && s.power != .off
  | .voltageDroop .. => !s.clocksStopped && s.power != .off
  | .supplyRecovery .. => !s.clocksStopped && s.power != .off
  | .processSample .. => !s.clocksStopped && s.power != .off
  | .hardwareError .. => !s.clocksStopped && s.power != .off
  | .healthLogClear _ => !s.clocksStopped && s.power != .off
  | _ => (s.power == .run || s.power == .quiesce) && !s.stopped

/-- The core whose operation in flight an input names: a residue error strikes an MMA where it is (R303). -/
def State.coreOf (s : State) (e : Event) : Nat :=
  let of := fun (id : Nat) => match s.cores.find? (fun c => c.2.flights.any (fun f => f.id == id)) with
    | some c => c.1
    | none => s.g
  match e with
  | .residueReplay id => of id
  | .residue id _ _ _ => of id
  | _ => s.g

/-- The oldest input taken, or passed over where the package does not take it. -/
def takeInput (e : Event) (rest : List Event) (s : State) : Host.Outcome State Fault Refusal :=
  let s : State := { s with inputs := rest }
  if s.hears e then onNext (perform e (s.focus (s.coreOf e))) (fun t => t.focus s.g) else .next s

/-- A posted write of the host to a function of the part (R506, R508). -/
def Event.isPosted : Event → Bool
  | .hostWindowWrite .. => true
  | .doorbellNotify .. => true
  | .tmodeWrite .. => true
  | .dispatchWrite .. => true
  | .evciWrite .. => true
  | .channelUpdate .. => true
  | .channelReset .. => true
  | .registerWrite .. => true
  | _ => false

/-- The oldest posted write waits for credits, which the link shares: no posted write of any function goes in meanwhile (R508). -/
def State.postedStuck (s : State) : Bool :=
  match s.inputs.find? Event.isPosted with
  | some (.hostWindowWrite t a bytes p) => s.noCredit t a.toNat bytes p
  | _ => false

/-- The oldest input that can be taken now: posted writes wait for credits in order (R508). -/
def State.inputReady (s : State) : Option Event := s.inputs.find? (fun e => !(s.postedStuck && e.isPosted))

-- What is due now

/-- The event that lands an operation in flight. -/
def Flight.event (f : Flight) : Event :=
  if f.what.isBypass then .vectorBypassFill f.id
  else if f.what.isMask then .maskWrite f.id
  else if f.what.isX then .divideResult f.id
  else if f.what.isTile then .tileRetire f.id
  else .vectorLineWrite f.id

/-- An event where its condition holds. -/
def dueIf (b : Bool) (e : Event) : List Event := if b then [e] else []

/-- An event for each of some things. -/
def each {α : Type} (l : List α) (f : α → Event) : List Event := l.map f

/-- The events of each of some things. -/
def eachOf {α : Type} (l : List α) (f : α → List Event) : List Event := (l.map f).flatten

/-- The events of some lists, one list after the other. -/
def inOrder (l : List (List Event)) : List Event := l.flatten

/-- A context's wait is a WAITPH whose object has moved on or whose bound has passed (R353). -/
def State.phaseDue (s : State) (k : BitVec 2) : Bool := (s.ctxAt k).standing && (resolvePhase k s).isSome

/-- The first request of a command that has become active, where it can go out (R320). -/
def State.firstRequest (s : State) (m : Copy) : Option Nat :=
  if m.phase != .active || !m.reqs.isEmpty || m.todo.length != (m.desc.pieces m.op).length then none
  else (m.nextPiece (s.channelOf m).isSome).bind (fun p => if (requestPiece m p s).isSome then some p else none)

/-- What the copy engine of the core at hand does at once: every timed command whose TIME has come becomes eligible before a place is filled (R86);
then commands retired, places filled, first requests sent, and the resident pages of a BGET counted (R319, R320, R335, R342). -/
def State.copiesDue (s : State) : List Event :=
  each (s.cr.copies.filter (fun m => (doTimedEligible m.id s).isSome)) (fun m => .timedEligible m.id) ++
  eachOf s.cr.copies (fun m => inOrder [
    dueIf (doCopyComplete m.id s).isSome (.copyComplete m.id),
    dueIf (doCopyActivate m.id s).isSome (.copyActivate m.id),
    each (s.firstRequest m).toList (.copyLineLand m.id),
    dueIf (doBulkGetPage m.id s).isSome (.bulkGetPage m.id)])

/-- What is due for a context of the core at hand: faults, waits that end, lease requests without an answer. -/
def State.ctxDue (s : State) (k : BitVec 2) : List Event :=
  if (s.ctxAt k).state == .free then []
  else inOrder [
    dueIf (doAsyncFaultDelivery k s).isSome (.asyncFaultDelivery k),
    dueIf (s.phaseDue k) (.waitphTimeout k),
    dueIf (doEngineWaitEnd k s).isSome (.engineWaitEnd k),
    each ((s.ctxAt k).mq.filter (fun o => (doLeaseAcquireTimeout k o.id s).isSome)) (fun o => .leaseAcquireTimeout k o.id)]

/-- What is due at the core at hand: results of this cycle, its copies, its contexts, its clock and its scrubbers (R196, R288). -/
def State.coreDue (s : State) : List Event :=
  inOrder [
    each (s.cr.flights.filter (fun f => f.ready s.cr.cyc)) Flight.event,
    s.copiesDue,
    eachOf allK s.ctxDue,
    dueIf (doWaitCounterExpiry s).isSome .waitCounterExpiry,
    dueIf (doCoreClockGate s).isSome .coreClockGate,
    dueIf (doCoreWake s).isSome .coreWake,
    dueIf (s.cr.scrubAt.toNat + 1024 ≤ s.tnow.toNat) (.scrubStep (BitVec.ofNat 15 s.cr.scrubLine) 0),
    dueIf (s.cr.scrubTileAt.toNat + 1024 ≤ s.tnow.toNat) (.accumulatorScrub (BitVec.ofNat 6 s.cr.scrubTile) 0)]

/-- A cluster whose TLB or whose cores' extents have gathered bits is swept at least once every 2^20 cycles (R411). -/
def State.sweepDue (s : State) (cl : Nat) : Bool :=
  (s.clusterAt cl).sweptAt.toNat + 2 ^ 20 ≤ s.tnow.toNat &&
    ((s.clusterAt cl).tlb.any (fun t => t.d || t.a) || s.resident.any (fun c => clusterOf c.1 == cl && c.2.2.extents.any (fun e => !e.a.isEmpty)))

/-- The clusters that hold translations or contexts. -/
def State.usedClusters (s : State) : List Nat := (s.clusters.map Prod.fst ++ s.resident.map (fun c => clusterOf c.1)).eraseDups

/-- What is due at a dispatch opportunity (R497). -/
def State.dispatchDue (s : State) : List Event :=
  if !s.opportunityNow then []
  else if (doDispatchOpportunity s).isSome then [.dispatchOpportunity]
  else match s.turn with
    | some (.inl key) => [.gangRestore key]
    | _ => []

/-- What is due in the package's memory system, leases, merge units and dispatcher (R411, R424, R425, R434). -/
def State.packageDue (s : State) : List Event :=
  inOrder [
    dueIf (doLtTick s).isSome .ltTick,
    dueIf s.ageingDue .copyAgeing,
    each (s.usedClusters.filter s.sweepDue) .daSweep,
    each (s.bulks.filter (fun b => (doLeaseAcquireTimeout 0 b.id s).isSome)) (fun b => .leaseAcquireTimeout 0 b.id),
    each (s.bulks.filter (fun b => (doBulkGetPage b.id s).isSome)) (fun b => .bulkGetPage b.id),
    eachOf s.clusters (fun e => each (e.2.cache.filter (fun l => l.pin && (doPinRetryTimeout e.1 (l.obj * 2 ^ 33 + l.line) s).isSome))
      (fun l => .pinRetryTimeout e.1 (l.obj * 2 ^ 33 + l.line))),
    eachOf s.merge (fun e => inOrder [
      dueIf (doMgCommandComplete e.1 s).isSome (.mgCommandComplete e.1),
      dueIf (doMergeClaim e.1 s).isSome (.mergeClaim e.1),
      dueIf (doMergeClaimTimeout e.1 s).isSome (.mergeClaimTimeout e.1)]),
    eachOf s.leases (fun l => inOrder [
      dueIf (doLeaseExpiry l.token s).isSome (.leaseExpiry l.token),
      dueIf (doLeaseRenewalDue l.token s).isSome (.leaseRenewalDue l.token)]),
    each (s.launches.filter (fun l => (doLeaseRetry l.key s).isSome)) (fun l => .leaseRetry l.key),
    each (s.passed.filter (fun e => (doGangReserve e.1 s).isSome)) (fun e => .gangReserve e.1),
    s.dispatchDue]

/-- What is due on the links (R521, R522, R526, R527, R530). -/
def State.linksDue (s : State) : List Event :=
  inOrder [
    dueIf (doVetoTimeout s).isSome .vetoTimeout,
    dueIf (doRetuneMarginExpiry 0 s).isSome (.retuneMarginExpiry 0),
    dueIf (doRetuneMarginExpiry 1 s).isSome (.retuneMarginExpiry 1),
    dueIf (doSlotStart s).isSome .slotStart,
    dueIf (doArbiterRequest 0 s).isSome (.arbiterRequest 0),
    dueIf (doArbiterRequest 1 s).isSome (.arbiterRequest 1),
    dueIf (doPrepareTimeout s).isSome .prepareTimeout,
    dueIf (doDecisionQuery none 0 s).isSome (.decisionQuery none 0),
    each (s.links.ins.filter (fun i => (doContributionArrival i.1 s).isSome)) (fun i => .contributionArrival (BitVec.ofNat 12 i.1)),
    dueIf (doCoordinatorUnreachable s).isSome .coordinatorUnreachable]

/-- The events that a rule sets to this moment. -/
def State.due (s : State) : List Event := inOrder [s.coreDue, s.packageDue, s.linksDue]

-- What may happen at any time

/-- How an operation of a queue may go on. -/
def MemOp.events (k : BitVec 2) (s : State) (o : MemOp) : List Event :=
  match o.kind with
  | .load .. => [.loadReturn k o.id]
  | .store .. => [.storeApply k o.id]
  | .gather .. => [.gatherLand k o.id]
  | .atomic _ a .. =>
    .atomicReturn k o.id :: each (([Code.capStale, Code.fenced, Code.capSpace].map Code.num).filter (atomicCanFail s k a)) (.atomicFail k o.id)
  | .lsync => []
  | .release .. => [.releaseComplete k o.id]
  | .acquire .. => [.acquireComplete k o.id]
  | .ainit .. => [.arriveApply k o.id]
  | .arrive .. => [.arriveApply k o.id]
  | .signal .. => [.signalRecordWrite k o.id]
  | .harv .. => [.harvestComplete k o.id]
  | .lease 0 .. => [.leaseGrant k o.id]
  | .lease 1 .. => []
  | .lease _ .. => [.leaseReleaseResponse k o.id]
  | .hwin .. => [.acquireComplete k o.id]

/-- How an active copy may go on, beside what is due (R319 to R337, R342). -/
def Copy.events (s : State) (m : Copy) : List Event :=
  inOrder [
    match m.phase with
    | .acquiring => [.acquireComplete m.k m.id]
    | .active =>
      if m.op = .bget then [.leaseGrant m.k m.id]
      else each (m.reqs ++ (m.nextPiece (s.channelOf m).isSome).toList) (.copyLineLand m.id)
    | _ => [],
    each (copyCause s m).toList (.copyFail m.id)]

/-- The core's contexts and copies (R361 to R376, R278, R334). -/
def State.coreMay (s : State) : List Event :=
  inOrder [
    eachOf allK (fun k => eachOf (s.ctxAt k).mq (MemOp.events k s)),
    each s.wanted (fun a => .lineFill (clusterOf s.g) (BitVec.ofNat 24 a.1.obj) (BitVec.ofNat 33 a.1.line)),
    eachOf s.cr.copies (Copy.events s),
    each (s.cr.cipher.take 1) (fun j => .cipherLineDone j.id),
    eachOf allK (fun k => match (s.ctxAt k).state with
      | .drain => [.drainComplete k]
      | .evicting => [.evictionComplete k]
      | _ => [])]

/-- How a write that has been applied may go on (R334, R365, R430). -/
def WriteRec.events (s : State) (w : WriteRec) : List Event :=
  if w.copy.isSome then [.copyAck w.id] else .writeAck w.id :: each (s.writeRefusal w).toList (fun c => .writeRefused w.id c.num)

/-- The pages that contexts in PAGE, copies, bulk gets and PREFs wait for (R81, R342, R343, R403). -/
def State.awaitedPages (s : State) : List (Nat × Nat) :=
  s.wantedPages ++ s.resident.filterMap (fun c => if c.2.2.state == .page then c.2.2.pageWait.map Prod.snd else none)

/-- Writes under way, updates and translations (R334, R365, R403 to R412, R430). -/
def State.memMay (s : State) : List Event :=
  inOrder [
    eachOf s.writes (WriteRec.events s),
    each s.updates (fun u => .copyAck u.id),
    dueIf (!s.notes.isEmpty) (.arriveApply 0 0),
    each s.walks (fun w => .tlbWalkEnd w.id),
    eachOf s.awaitedPages (fun p =>
      [.pageService (BitVec.ofNat 24 p.1) (BitVec.ofNat 24 p.2), .pageServiceFail (BitVec.ofNat 24 p.1) (BitVec.ofNat 24 p.2)]),
    each s.services (fun v => .pageResident (BitVec.ofNat 24 v.obj) (BitVec.ofNat 24 v.page) none),
    each s.shoots (fun h => if h.why == ShootFor.revoke then .revokeComplete (BitVec.ofNat 24 h.obj)
      else .shootDownComplete (BitVec.ofNat 24 h.obj) (BitVec.ofNat 24 h.page)),
    each (s.clusters.filter (fun e => e.2.tlb.any (fun t => t.d || t.a))) (fun e => .daSweep e.1),
    dueIf (s.clusters.any (fun e => e.2.cache.any (fun l => l.cls == .pool)) || !s.poolLines.isEmpty) .copyAgeing,
    dueIf (s.objects.any (fun o => o.2.gen != 0)) .revocationSweep,
    each s.renewals (fun r => .leaseRenewResponse r.id)]

/-- How a world's region that is being re-keyed may go on (R482). -/
def World.events (w : Nat) (wd : World) : List Event :=
  each (wd.regions.filter (fun r => r.2.state == 2)) (fun r =>
    if r.2.rekeyed then .rekeyComplete (BitVec.ofNat 4 w) (BitVec.ofNat 6 r.1) else .rekey (BitVec.ofNat 4 w) (BitVec.ofNat 6 r.1))

/-- How a topology change may go on (R530). -/
def State.changeEvents (s : State) : List Event :=
  match s.links.change with
  | some c =>
    if !s.links.drained c.tables then []
    else if c.coordinator then dueIf (!c.ready.contains c.coord) (.prepareAnswer (BitVec.ofNat 12 c.coord) true)
    else dueIf (!c.prepared) (.topologyPrepare (BitVec.ofNat 12 c.coord) c.tables)
  | none => []

/-- Launches, gangs and worlds (R84 to R86, R445 to R447, R466 to R468, R482, R497 to R502), and a topology change (R530). -/
def State.controlMay (s : State) : List Event :=
  inOrder [
    each (s.images.filter s.imageOver) (fun i => .gangRestore i.key),
    each (s.queues.filter (fun q => (doQueueMap q.tenant q.q none s).isSome)) (fun q => .queueMap q.tenant (BitVec.ofNat 8 q.q) none),
    each s.nextVictim.toList .gangEvict,
    if s.power == .quiesce then each s.placements (fun p => .gangEvict (Sys2Proof.Machine.gangKey p.tenant p.launch p.gang)) else [],
    eachOf s.launches (fun l => .jasperWalk l.key :: (if l.world = 0 then [] else each s.cores (fun c => .programLoad c.1 l.key))),
    each s.bulks (fun b => .leaseGrant 0 b.id),
    each (([0, 1] : List (BitVec 24)).filter (fun d => s.jobs.any (fun j => j.src % 2 == d.toNat))) (fun d => .checkpointJob false 0 0 d 0),
    each (s.cores.filter (fun c => c.2.clearing)) (fun c => .coreClear c.1),
    eachOf s.worlds (fun w => World.events w.1 w.2),
    each (s.queues.filter Queue.mapped) (fun q => .queueUnmap (BitVec.ofNat 6 q.slot)),
    s.changeEvents]

/-- The events that may happen now. The manual's latencies are typical and not bounds (R358), so any of them may; one that is not
enabled changes nothing. -/
def State.may (s : State) : List Event := inOrder [each s.inputReady.toList id, s.coreMay, s.memMay, s.controlMay]

/-- The next thing that the host's processors do to host memory (R559). -/
def State.hostStep (s : State) : Option State :=
  match s.hostActs with
  | a :: rest => some (({ s with hostActs := rest } : State).hostDo a)
  | [] => none

-- The cycle of a core

/-- The next core's turn: when every core has had its cycle, TNOW goes up by one (R8). -/
def State.nextCore (s : State) : State :=
  match s.others.find? (fun e => s.g < e.1) with
  | some e => s.focus e.1
  | none =>
    let s := s.nextTnow
    match s.others with
    | e :: _ => if e.1 < s.g then s.focus e.1 else s
    | [] => s

/-- The attempt of the context in RUN: one word that is not a no-operation is that instruction; a bundle of none is a no-operation;
several words issue together (R19, R24). -/
def issueAt (s : State) : Host.Outcome State Fault Refusal :=
  if 8192 ≤ s.ctx.pc.toNat then perform (.fetchPastEnd s.cr.cur) s
  else
    match s.activeWords with
    | [] => exec .nop s
    | [w] =>
      match decodeSlot w.1 w.2 with
      | .ok i => exec i s
      | .error _ => .next (attempt [s.wordRes w] s)
    | ws => .next (attempt (ws.map s.wordRes) s)

/-- One cycle of the core at hand: a freeze cycle, or a switch, a wake or an idle cycle, or the attempt of a bundle. -/
def cycle (s : State) : Host.Outcome State Fault Refusal :=
  if s.frozen then onNext (perform .freezeCycle s) State.nextCore
  else
    let ready := allK.filter s.isReady
    match s.openCycle with
    | .inl t => .next (t.closeCycle ready).nextCore
    | .inr t => onNext (issueAt t) (fun u => (u.reselect.closeCycle ready).nextCore)

end Sys2Proof.Machine
end

