-- ==== Sys2Proof/Machine/Step.lean ====
section
/-! DEFINITION. The step of the machine, and the placing of one instruction where the next step fetches it. -/

namespace Sys2Proof.Machine

/-- A step while nothing of the package but its boot ROM runs: the oldest input, what the host does to its memory, or time passes
(R548, R549, R559). -/
def stepIdle (s : State) : Host.Outcome State Fault Refusal :=
  match s.inputs, s.hostStep with
  | e :: rest, _ => takeInput e rest s
  | [], some t => .next t
  | [], none => if s.power == .off then .fault .powerOff else .next (if s.clocksStopped then s else (doLtTick s.nextTnow).getD s.nextTnow)

/-- A step of the running package: an event that is due; else one of those that may happen, the cycle of the core at hand, or a step of the host on
its memory, as the free choice says (R358, R559). -/
def stepRun (s : State) : Host.Outcome State Fault Refusal :=
  match s.due with
  | e :: _ => perform e s
  | [] =>
    match s.may, s.hostStep with
    | [], none => cycle s
    | es, act =>
      let n := Config.choice s.tick % (es.length + 1 + act.toList.length)
      let s : State := { s with tick := s.tick + 1 }
      match es[n]? with
      | some e => if n = 0 && s.inputReady.isSome then takeInput e (s.inputs.erase e) s else perform e s
      | none => if n = es.length then cycle s else match s.hostStep with
        | some t => .next t
        | none => cycle s

/-- One step of the machine. -/
def step (s : State) : Host.Outcome State Fault Refusal :=
  if s.clocksStopped || s.power == .off || s.power == .boot then stepIdle s else stepRun s

/-- The state with one instruction stored in the first bundle of the core at hand, in the slot that the table gives it, and context 0
in RUN at it with a task's allotments: what the load of a program and a dispatch do (R17, R73). -/
def State.withFetchWord (s : State) (nbits w : Nat) : State :=
  let w := w % 2 ^ nbits
  let slot := match tableSlot (BitVec.ofNat 32 w) with
    | some (sl, _) => sl.index
    | none => 0
  let c := s.cr.ctxs[0]
  let sys := { c.sys with
    lcore := 0, die := BitVec.ofNat 3 (s.g / 192), cluster := BitVec.ofNat 4 (s.g / 16 % 12), core := BitVec.ofNat 4 (s.g % 16)
    allocSize := 32768, allocBase := 0, tilesCount := 48, tilesFirst := 0 }
  { s with
    power := .run
    imem := memWrite (memClear s.imem (s.g * 2 ^ 18) (s.g * 2 ^ 18 + 32)) (s.g * 2 ^ 18 + 4 * slot) (leBytes 4 w)
    cr := { s.cr with ctxs := s.cr.ctxs.set 0 { c with state := .run, pc := 0, sys := sys }, cur := 0 }
    placements := s.placements ++ [{ tenant := c.sys.tenant, launch := c.sys.launch, gang := c.sys.gang, stage := c.sys.stage
                                     cluster := clusterOf s.g, cores := [(0, s.g, 0, 32768)] }] }

end Sys2Proof.Machine
end

