-- ==== Sys2Proof/Safety.lean ====
section
/-! DEFINITION. The terms in which claims about the machine are stated: the invariant that every step keeps, when a lone word's
operands are ready, and the state that its issue leaves. -/

namespace Sys2Proof.Machine

-- The invariant

/-- The five memories are in canonical form: rising addresses and no zero byte. -/
abbrev State.Inv (s : State) : Prop :=
  Memory.wf s.scratch = true ∧ Memory.wf s.imem = true ∧ Memory.wf s.hbm = true ∧ Memory.wf s.pool = true ∧ Memory.wf s.host = true

-- Operands

/-- A scalar register can be read now: full and free of poison (R111, R113); x0 always can. -/
abbrev Ctx.xReady (c : Ctx) (r : BitVec 6) : Prop := c.xEmpty r = false ∧ c.xPoison r = false

/-- A capability register can be read now (R157); c0 always can. -/
abbrev Ctx.cReady (c : Ctx) (r : BitVec 5) : Prop := c.cEmpty r = false ∧ c.cPoison r = false

/-- A capability register that can be read holds an unsealed valid capability (R159). -/
abbrev Ctx.cValid (c : Ctx) (r : BitVec 5) : Prop := c.cReady r ∧ (c.cVal r).tag = true ∧ (c.cVal r).otype = 0

-- Accesses

/-- What R124 asks of a capability before the address is resolved: tag, seal, permission, space, bounds and alignment. -/
abbrev Cap.allows (v : Cap) (p : Perm) (spaces : List Space) (a : Word) (n : Nat) : Prop :=
  v.tag = true ∧ v.otype = 0 ∧ v.has p = true ∧ (∃ sp ∈ spaces, spaceOf v.space = some sp) ∧ (boundsOf v).1 ≤ a.toNat ∧
    a.toNat + n ≤ (boundsOf v).2 ∧ a.toNat % n = 0

/-- Where an allowed access goes (R124, R149): a byte of a core whose line is known to be plain (R125), a host address, or a byte of a page of an object
whose generation is the capability's, in a frame that the task's extents, the TLB or a walk gave. -/
inductive State.Reaches (s : State) (v : Cap) (a : Word) (n : Nat) : MAddr → Prop where
  | scratch (g b : Nat) (h : v.space = 1) (r : resolveScratch s s.ctx a.toNat n = some (g, b)) (f : formKnown s s.ctx g b = some .plain) :
      s.Reaches v a n { space := .scratch, obj := g, off := b, full := a }
  | host (h : v.space = 4) (w : s.ctx.sys.world = 0) : s.Reaches v a n
        { space := .host, obj := 0, off := a.toNat, full := a, vf := s.ctx.sys.tenant.toNat + 1 }
  | object (p : Space) (f : Nat) (h : v.space = 2 ∧ p = .local ∨ v.space = 3 ∧ p = .pool) (w : s.ctx.sys.world = 0)
      (g : stale s v (a.toNat / 2 ^ 40) = false) (x : translate s s.ctx p (a.toNat / 2 ^ 40) (a.toNat % 2 ^ 40 / 65536) = .hit f) :
      s.Reaches v a n { space := p, obj := a.toNat / 2 ^ 40, off := a.toNat % 2 ^ 40, frame := f, gen := v.gen, full := a }

/-- The gathered A bit, and D for a write, of the entry that serves an access to an object (R411). -/
def State.touched (s : State) (m : MAddr) (write : Bool) : State :=
  match m.space with
  | .local => markAccess .local m.obj (m.off / 65536) write s
  | .pool => markAccess .pool m.obj (m.off / 65536) write s
  | _ => s

/-- Nothing stands against a write to a place now: no hold of a copy (R314), no line still to be read (R52, R299, R463). -/
abbrev State.mayWrite (s : State) (m : MAddr) : Prop :=
  m.space = .scratch → let l := m.off / 128
    s.mergeReadsLine m.obj l = false ∧
    (m.obj = s.g → (∀ o ∈ s.cr.copies, o.holds s.cr.cur l = false) ∧ ∀ r ∈ s.cr.reads, r.1 = l → r.2 ≤ s.cr.cyc) ∧
    (m.obj ≠ s.g → ∀ r ∈ (s.coreAt m.obj).reads, r.1 = l → r.2 ≤ (s.coreAt m.obj).cyc)

-- The issue of a lone word

/-- An engine used by a word issued at a core's present cycle: busy from that cycle on (R46). -/
def Core.withEngine (c : Core) (sl : Slot) (e : Option (Nat × Nat)) : Core :=
  match e with
  | some (b, w) => c.setEngine sl { until_ := c.cyc + b, replay := 0, owner := c.cur, weight := w }
  | none => c

/-- The state after a bundle whose one word has the effect `f` has issued: its engine is busy (R46), the context at hand is the one
that issued last, its waits are pending (R23), and the sequence goes on as `ctl` says (R22). -/
def State.afterWord (s : State) (sl : Slot) (draw : Nat) (engine : Option (Nat × Nat)) (ctl : Ctl) (ws : List Pending)
    (f : State → State) : State :=
  let t := f (s.leaveLoops ctl)
  let t : State := { t with cr := { t.cr.withEngine sl engine with last := some s.cr.cur, issued := some draw } }
  t.modCtx (fun c => advance ctl s.ctx.atLoopEnd { c with waitCnt := 0, waits := c.waits ++ ws, yielded := false, answers := [] })

/-- A vector or matrix engine that is free of its own work and of replays (R46, R304). -/
def Core.engineFree (c : Core) (sl : Slot) : Prop := ∀ e, c.engineOf sl = some e → e.until_ ≤ c.cyc ∧ e.replay ≤ c.cyc

/-- A line of the context at hand can be read now: in its allotment, full and plain, and no scrub step holds it (R50, R186, R193, R196). -/
abbrev State.lineReady (s : State) (l : Nat) : Prop :=
  l < s.ctx.sys.allocSize.toNat ∧ (s.metaAt (relKey s s.ctx l)).full = true ∧ (s.metaAt (relKey s s.ctx l)).form = .plain ∧
    s.scrubHolds (physLine s.ctx l) = false

/-- A source operand can be read now (R50, R54). -/
abbrev State.sourceReady (s : State) (o : Source) : Prop :=
  if isBypass o.code then (bypassOf s o.code).full = true else ∀ l ∈ groupLines s.ctx o.code o.n, s.lineReady l

/-- A line can be written now: in the allotment, full, plain unless all of it is written (R194), held by no copy (R314) and no scrub step (R196),
and read by no earlier operation still (R52, R463). -/
abbrev State.destReady (s : State) (d : DstLine) : Prop :=
  let m := s.metaAt (relKey s s.ctx d.rel)
  let l := physLine s.ctx d.rel
  m.full = true ∧ (m.form = .plain ∨ d.mask = BitVec.allOnes 128) ∧ (∀ o ∈ s.cr.copies, o.holds s.cr.cur l = false) ∧
    s.scrubHolds l = false ∧ s.mergeReadsLine s.g l = false ∧ ∀ r ∈ s.cr.reads, r.1 = l → r.2 ≤ s.cr.cyc

/-- Everything that a vector word needs is at hand: its engine, its mask and scalars, its sources and its destinations, whose lines are known (R29, R46 to R55,
R238). -/
structure State.VecReady (s : State) (w : VWord) (o : VOut) : Prop where
  engine : s.cr.engineFree (vslot w.u)
  early : w.early = none
  known : w.dstKnown = true
  mask : s.ctx.kEmpty w.k = false
  scalars : ∀ x ∈ w.xs, s.ctx.xReady x
  sources : ∀ r ∈ w.srcs, s.sourceReady r
  range : ∀ l ∈ w.dstRange, l < s.ctx.sys.allocSize.toNat
  dests : ∀ d ∈ o.lines, s.destReady d
  maskDest : ∀ r v, o.mask = some (r, v) → s.ctx.kEmpty r = false
  xDest : ∀ r v, o.xreg = some (r, v) → s.ctx.xEmpty r = false

/-- The state after a vector word has issued alone: its engine is busy, its results are in flight. -/
def State.afterVector (s : State) (w : VWord) (o : VOut) : State :=
  s.afterWord (vslot w.u) 0 (some (w.busy, w.weight)) .fall [] (launchVector s.ctx w o)

/-- Lane `i`, `w` bits wide, of register `j` of a source operand of `n` registers (R233). -/
def State.lane (s : State) (r : BitVec 6) (n w j i : Nat) : Nat := laneAt w (nthReg (operandRegs s s.ctx r n) j) i

/-- Whether lane `i` of every register is enabled by a mask (R234). -/
def State.on (s : State) (k : BitVec 3) (i : Nat) : Bool := (s.ctx.kVal k).getLsbD i

/-- A destination group of `n` registers whose enabled lanes get the values given, and the union of their flags (R234 to R237). -/
def State.lanesOut (s : State) (k : BitVec 3) (d : BitVec 6) (n w : Nat) (fp : Bool) (f : Nat → Nat → Nat × Flags) : VOut :=
  let rs := (List.range n).map (fun j => (List.range (2048 / w)).map (fun i => if s.on k i then f j i else (0, 0)))
  regOut s.ctx d (rs.map (fun r => (packLanes w (r.map Prod.fst), laneBytes w (s.ctx.kVal k))))
    (if fp then some (unionFlags (rs.map (fun r => unionFlags (r.map Prod.snd)))) else none)

/-- The state after an S word that changes only the context has issued: the bundle that follows is next, or the loop body's first
(R139). -/
def State.afterScalar (s : State) (f : Ctx → Ctx) : State := s.afterWord .s 1 none .fall [] (fun t => t.modCtx f)

/-- The state after an attempt that takes a fault: nothing of its bundle has happened, and the answers to its walks are gone (R19). -/
def State.afterFault (s : State) (t : Trap) : State :=
  (s.modCtx (fun c => { c with answers := [] })).takeFault s.cr.cur t s.ctx.pc.toNat t.async

-- Copies

/-- A line can be emptied and filled now: full, held by no copy (R314) and no scrub step (R196), and read by no earlier operation still (R52,
R463). -/
abbrev State.lineFree (s : State) (l : Nat) : Prop :=
  let p := physLine s.ctx l
  (s.metaAt (relKey s s.ctx l)).full = true ∧ (∀ o ∈ s.cr.copies, o.holds s.cr.cur p = false) ∧ s.scrubHolds p = false ∧
    s.mergeReadsLine s.g p = false ∧ ∀ r ∈ s.cr.reads, r.1 = p → r.2 ≤ s.cr.cyc

/-- Everything that a copy command of descriptor `dn` needs to enter the buffer: a legal form (R327), its lines, a place (R317, R318, R370), a
reference that leads to an object (R341, R347), and the checks of R330, R338, R340 and R467 passed. -/
structure State.CopyReady (s : State) (op : CopyOp) (u : CUnit) (dn : BitVec 4) (q r : BitVec 1) (sc : BitVec 3) (x : BitVec 6)
    (place : Option ArrRef) : Prop where
  scope : sc ≠ 0 → q = 1 ∨ r = 1
  extent : (s.ctx.desc dn).len ≠ 0 ∧ (s.ctx.desc dn).nrows op * (s.ctx.desc dn).len.toNat ≤ 2 ^ 24
  rows : 2 ≤ (s.ctx.desc dn).rows.toNat → (op.fillsLines = true → (s.ctx.desc dn).rowLines ≤ (s.ctx.desc dn).lstr.toNat) ∧
    (op.holdsLines = true → (s.ctx.desc dn).len.toNat ≤ (s.ctx.desc dn).rstr.toNat)
  bulk : op = .bget → q ≠ 1 ∧ r ≠ 1 ∧ (s.ctx.desc dn).rows.toNat ≤ 2
  ref : s.ctx.xReady x
  object : match copyRef s.ctx x (s.ctx.desc dn) with
    | none => place = none
    | some v => ∃ a, copyRefPlace s s.ctx op (s.ctx.desc dn) v = .at a ∧ place = some a
  lines : op ≠ .bget → ∀ l ∈ (s.ctx.desc dn).localLines op, l < s.ctx.sys.allocSize.toNat ∧ (op.fillsLines = true → s.lineFree l)
  own : op = .put → ∀ l ∈ putLines s s.ctx op (s.ctx.desc dn), (∀ o ∈ s.cr.copies, o.holds s.cr.cur l = false) ∧ s.mergeReadsLine s.g l = false ∧
    ∀ r ∈ s.cr.reads, r.1 = l → r.2 ≤ s.cr.cyc
  room : entriesFit (s.cr.shortfall s.cr.cur) 1 (s.cr.entriesOf s.cr.cur) (64 - (s.cr.copies.filter (fun m => !m.hasFailed)).length) = true
  records : op.holdsLines = true → s.cr.recordsOf s.cr.cur < 64
  world : copyWorldTrap s s.ctx (cslot u).index op (s.ctx.desc dn) = none
  cap : (s.ctx.desc dn).cap.tag = true ∧ (s.ctx.desc dn).cap.otype = 0 ∧ (s.ctx.desc dn).cap.has op.perm = true
  lease : op = .bget → (s.ctx.desc dn).rows ≠ 0 → (s.ctx.desc dn).cap.has .lease = true
  space : ∃ sp ∈ op.spaces, spaceOf (s.ctx.desc dn).cap.space = some sp
  bounds : op ≠ .getp → ∀ k < (s.ctx.desc dn).nrows op, (boundsOf (s.ctx.desc dn).cap).1 ≤ (s.ctx.desc dn).rowAddr op k ∧
    (s.ctx.desc dn).rowAddr op k + (s.ctx.desc dn).len.toNat ≤ (boundsOf (s.ctx.desc dn).cap).2
  fresh : (s.ctx.desc dn).isStale s op = false
  scratch : spaceOf (s.ctx.desc dn).cap.space = some .scratch → op ≠ .xfer → ∀ k < (s.ctx.desc dn).nrows op,
    let a := (s.ctx.desc dn).rowAddr op k
    let lo := if op = .getp then max a (boundsOf (s.ctx.desc dn).cap).1 else a
    let hi := if op = .getp then min (a + (s.ctx.desc dn).len.toNat) (boundsOf (s.ctx.desc dn).cap).2 else a + (s.ctx.desc dn).len.toNat
    lo < hi → (resolveScratch s s.ctx lo (hi - lo)).isSome = true
  stage : op = .xfer → (s.ctx.desc dn).stage.toNat < s.stageCount s.ctx ∧ ∃ p, s.stagePlacement s.ctx (s.ctx.desc dn).stage = some p ∧
    ∀ k < (s.ctx.desc dn).nrows op, (s.ctx.desc dn).rowAddr op k % 128 = 0 ∧
      (s.resolveIn p ((s.ctx.desc dn).rowAddr op k) (s.ctx.desc dn).len.toNat).isSome = true

end Sys2Proof.Machine
end

