-- ==== Sys2Proof/Certificates/Slice0/Obligations.lean ====
section
/-! DEFINITION. The statements about the machine that the provers are given. -/

open Sys2Proof Sys2Proof.Machine

/-- R116: the three-register instructions, CLZ and POPC give the value that the rule's table names, for every pair of values, and have the words
of its layout; a write to x0 is discarded (`Obligations.HardwiredRegisters`). -/
def Obligations.IntegerResults : Prop :=
  (∀ (s : State) (d a b : BitVec 6) (p : BitVec 4), s.ctx.xReady a → s.ctx.xReady b → s.ctx.xEmpty d = false →
    let x := s.ctx.xVal a
    let y := s.ctx.xVal b
    let n := y.toNat % 64
    ∀ e ∈ ([(.add d a b, x + y), (.sub d a b, x - y), (.mul d a b, x * y),
        (.mulh d a b, BitVec.ofInt 64 (x.toInt * y.toInt / 2 ^ 64)), (.mulhn d a b, BitVec.ofNat 64 (x.toNat * y.toNat / 2 ^ 64)),
        (.and d a b, x &&& y), (.or d a b, x ||| y), (.xor d a b, x ^^^ y),
        (.shl d a b, BitVec.ofNat 64 (x.toNat * 2 ^ n)), (.shr d a b, BitVec.ofNat 64 (x.toNat / 2 ^ n)),
        (.sar d a b, BitVec.ofInt 64 (x.toInt / 2 ^ n)),
        (.min d a b, if x.toInt < y.toInt then x else y), (.max d a b, if x.toInt < y.toInt then y else x),
        (.minn d a b, if x.toNat < y.toNat then x else y), (.maxn d a b, if x.toNat < y.toNat then y else x),
        (.sel d a b p, if s.ctx.pVal p then x else y),
        (.popc d a, BitVec.ofNat 64 ((List.range 64).filter (fun i => x.getLsbD i)).length),
        (.clz d a, BitVec.ofNat 64 ((List.range 64).filter (fun i => x.toNat < 2 ^ i)).length)] : List (Instr × Word)),
      exec e.1 s = .next (s.afterScalar (fun c => c.setX d e.2)))
  ∧ (∀ (d a b : BitVec 6) (p : BitVec 4), let word := fun (op x y : Nat) => BitVec.ofNat 32 (op * 2 ^ 24 + d.toNat * 2 ^ 18 + a.toNat * 2 ^ 12 + x * 2 ^ 6 + y)
    ∀ e ∈ ([(.add d a b, word 0x01 b.toNat 0), (.sub d a b, word 0x02 b.toNat 0), (.mul d a b, word 0x03 b.toNat 0), (.mulh d a b, word 0x04 b.toNat 0),
        (.mulhn d a b, word 0x05 b.toNat 0), (.and d a b, word 0x0A b.toNat 0), (.or d a b, word 0x0B b.toNat 0), (.xor d a b, word 0x0C b.toNat 0),
        (.shl d a b, word 0x0D b.toNat 0), (.shr d a b, word 0x0E b.toNat 0), (.sar d a b, word 0x0F b.toNat 0), (.min d a b, word 0x10 b.toNat 0),
        (.max d a b, word 0x11 b.toNat 0), (.minn d a b, word 0x12 b.toNat 0), (.maxn d a b, word 0x13 b.toNat 0), (.clz d a, word 0x14 0 0),
        (.popc d a, word 0x15 0 0), (.sel d a b p, word 0x16 b.toNat (p.toNat * 4))] : List (Instr × SlotWord)),
      decodeSlot .s e.2 = .ok e.1)

/-- R118 and R119: the register-immediate and long-immediate instructions give the value that the rules name. R120 to R122: the compares and the predicate instructions write pd with the condition's value; each has the word of its rule's layout. -/
def Obligations.ImmediateAndPredicateResults : Prop :=
  (∀ (s : State) (d a j : BitVec 6) (i : BitVec 12) (l : BitVec 18), s.ctx.xReady a → s.ctx.xEmpty d = false → s.ctx.xPoison d = false →
    let x := s.ctx.xVal a
    ∀ e ∈ ([(.addi d a i, x + BitVec.ofInt 64 i.toInt), (.andi d a i, x &&& BitVec.ofNat 64 i.toNat),
        (.ori d a i, x ||| BitVec.ofNat 64 i.toNat), (.xori d a i, x ^^^ BitVec.ofNat 64 i.toNat),
        (.muli d a i, x * BitVec.ofInt 64 i.toInt), (.shli d a j, BitVec.ofNat 64 (x.toNat * 2 ^ j.toNat)),
        (.shri d a j, BitVec.ofNat 64 (x.toNat / 2 ^ j.toNat)), (.sari d a j, BitVec.ofInt 64 (x.toInt / 2 ^ j.toNat)),
        (.movi d l, BitVec.ofInt 64 l.toInt), (.movs d l, BitVec.ofNat 64 ((s.ctx.xVal d).toNat * 2 ^ 18 + l.toNat))] : List (Instr × Word)),
      exec e.1 s = .next (s.afterScalar (fun c => c.setX d e.2)))
  ∧ (∀ (s : State) (p q r : BitVec 4) (a b : BitVec 6) (i : BitVec 12), s.ctx.xReady a → s.ctx.xReady b →
    let x := s.ctx.xVal a
    let y := s.ctx.xVal b
    ∀ e ∈ ([(.cmpEq p a b, decide (x = y)), (.cmpNe p a b, decide (x ≠ y)), (.cmpLt p a b, decide (x.toInt < y.toInt)),
        (.cmpLe p a b, decide (x.toInt ≤ y.toInt)), (.cmpLtn p a b, decide (x.toNat < y.toNat)), (.cmpLen p a b, decide (x.toNat ≤ y.toNat)),
        (.cmpiEq p a i, decide (x.toInt = i.toInt)), (.cmpiNe p a i, decide (x.toInt ≠ i.toInt)), (.cmpiLt p a i, decide (x.toInt < i.toInt)),
        (.cmpiLe p a i, decide (x.toInt ≤ i.toInt)), (.cmpiGt p a i, decide (i.toInt < x.toInt)), (.cmpiGe p a i, decide (i.toInt ≤ x.toInt)),
        (.pand p q r, s.ctx.pVal q && s.ctx.pVal r), (.por p q r, s.ctx.pVal q || s.ctx.pVal r),
        (.pxor p q r, s.ctx.pVal q != s.ctx.pVal r), (.pnot p q, !s.ctx.pVal q)] : List (Instr × Bool)),
      exec e.1 s = .next (s.afterScalar (fun c => c.setP p e.2)))
  ∧ (∀ (d a b j : BitVec 6) (i : BitVec 12) (l : BitVec 18) (p q r : BitVec 4),
    let word := fun (op x y z : Nat) => BitVec.ofNat 32 (op * 2 ^ 24 + x + y * 2 ^ 12 + z)
    let xd := d.toNat * 2 ^ 18
    let pd := p.toNat * 2 ^ 20
    ∀ e ∈ ([(.addi d a i, word 0x20 xd a.toNat i.toNat), (.andi d a i, word 0x21 xd a.toNat i.toNat), (.ori d a i, word 0x22 xd a.toNat i.toNat),
        (.xori d a i, word 0x23 xd a.toNat i.toNat), (.shli d a j, word 0x24 xd a.toNat j.toNat), (.shri d a j, word 0x25 xd a.toNat j.toNat),
        (.sari d a j, word 0x26 xd a.toNat j.toNat), (.muli d a i, word 0x27 xd a.toNat i.toNat), (.movi d l, word 0x28 xd 0 l.toNat),
        (.movs d l, word 0x29 xd 0 l.toNat), (.cmpEq p a b, word 0x30 pd a.toNat (b.toNat * 64)), (.cmpNe p a b, word 0x31 pd a.toNat (b.toNat * 64)),
        (.cmpLt p a b, word 0x32 pd a.toNat (b.toNat * 64)), (.cmpLe p a b, word 0x33 pd a.toNat (b.toNat * 64)),
        (.cmpLtn p a b, word 0x34 pd a.toNat (b.toNat * 64)), (.cmpLen p a b, word 0x35 pd a.toNat (b.toNat * 64)),
        (.cmpiEq p a i, word 0x38 pd a.toNat i.toNat), (.cmpiNe p a i, word 0x39 pd a.toNat i.toNat), (.cmpiLt p a i, word 0x3A pd a.toNat i.toNat),
        (.cmpiLe p a i, word 0x3B pd a.toNat i.toNat), (.cmpiGt p a i, word 0x3C pd a.toNat i.toNat), (.cmpiGe p a i, word 0x3D pd a.toNat i.toNat),
        (.pand p q r, word 0x40 pd (q.toNat * 16 + r.toNat) 0), (.por p q r, word 0x41 pd (q.toNat * 16 + r.toNat) 0),
        (.pxor p q r, word 0x42 pd (q.toNat * 16 + r.toNat) 0), (.pnot p q, word 0x43 pd (q.toNat * 16) 0)] : List (Instr × SlotWord)),
      decodeSlot .s e.2 = .ok e.1)

/-- R117: a division has the word of the three-register layout, empties xd at issue and gives its quotient or remainder at c + 18, by zero and at −2^63 / −1 too. -/
def Obligations.DivisionResults : Prop :=
  (∀ (s : State) (d a b : BitVec 6), s.ctx.xReady a → s.ctx.xReady b → s.ctx.xEmpty d = false →
    let x := s.ctx.xVal a
    let y := s.ctx.xVal b
    ∀ e ∈ ([(.div d a b, if y = 0 then -1 else if x.toInt = -2 ^ 63 ∧ y = -1 then x else BitVec.ofInt 64 (x.toInt.tdiv y.toInt)),
        (.rem d a b, if y = 0 then x else if x.toInt = -2 ^ 63 ∧ y = -1 then 0 else BitVec.ofInt 64 (x.toInt.tmod y.toInt)),
        (.divn d a b, if y = 0 then -1 else BitVec.ofNat 64 (x.toNat / y.toNat)),
        (.remn d a b, if y = 0 then x else BitVec.ofNat 64 (x.toNat % y.toNat))] : List (Instr × Word)),
      exec e.1 s = .next (s.afterWord .s 1 none .fall [] (fun t =>
        if d = 0 then t else (t.modCtx (fun c => c.emptyX d)).addFlight .s s.cr.cur (s.cr.cyc + 18) (.xreg d e.2))))
  ∧ (∀ (d a b : BitVec 6), ∀ e ∈ ([(.div d a b, 0x06), (.divn d a b, 0x07), (.rem d a b, 0x08), (.remn d a b, 0x09)] : List (Instr × Nat)),
      decodeSlot .s (BitVec.ofNat 32 (e.2 * 2 ^ 24 + d.toNat * 2 ^ 18 + a.toNat * 2 ^ 12 + b.toNat * 2 ^ 6)) = .ok e.1)

/-- R96, R97 and R99: MFS and TIME read a system register into xd, MTS writes one, once no operation that updates it is pending
(R98), and for MTS where the value is allowed and the end of an iteration does not write the same register (R26). R97: MTS to VRS with 0 or more than 1024, and to VRB with VRS or more, raises ILLEGAL with TRAPI the number of slot S, once xa
is full; nothing else of the bundle takes effect. R97 with R88 to R93: a system register that MTS wrote reads back with the bits outside its fields zero, and every other system
register that is no field of VRB or of a loop entry reads as before. -/
def Obligations.SystemRegisterMoves : Prop :=
  ((∀ (s : State) (d a n : BitVec 6), sysBusy s n.toNat = false →
    (s.ctx.xEmpty d = false → sysAssigned n.toNat = true →
      exec (.mfs d n) s = .next (s.afterScalar (fun c => c.setX d (sysRead s s.ctx n.toNat)))) ∧
    (s.ctx.xReady a → sysWritable n.toNat = true → mtsBad s.ctx n.toNat (s.ctx.xVal a) = false →
      Dest.sys n.toNat ∉ loopEndDests s.ctx → (n = 10 → Dest.sys 11 ∉ loopEndDests s.ctx) →
      exec (.mts a n) s = .next (s.afterScalar (fun c => sysWrite c n.toNat (s.ctx.xVal a)))) ∧
    (s.ctx.xEmpty d = false → exec (.time d) s = .next (s.afterScalar (fun c => c.setX d (s.tnow - s.ctx.sys.frz)))))
  ∧ (∀ (s : State) (a n : BitVec 6), s.ctx.xReady a → n = 10 ∨ n = 11 → mtsBad s.ctx n.toNat (s.ctx.xVal a) = true →
    exec (.mts a n) s = .next (s.afterFault { code := 0x01, trapi := 0 })))
  ∧ (∀ (s : State) (c : Ctx) (v : Word),
    (∀ e ∈ ([(8, 0x7FFE), (9, 0x7FFE), (10, 0x7FF), (11, 0x3FF), (12, 7), (13, 0x1F), (14, 0xFFFFFFFF), (24, 0x1FFF),
        (25, -1), (26, -1), (27, -1), (28, -1), (29, 0xFFFFFFFF), (30, 0xFFFFFFFF), (31, 0xFFFFFFFF), (32, 0xFFFFFFFF),
        (41, 0x0000FFFFFFFFFFFF), (42, 1), (44, -1), (45, -1), (46, -1), (47, -1)] : List (Nat × Word)),
      sysRead s (sysWrite c e.1 v) e.1 = v &&& e.2) ∧
    (∀ n m : Nat, n ≠ m → ¬(n = 10 ∧ m = 11) → sysRead s (sysWrite c n v) m = sysRead s c m) ∧
    sysRead s (sysWrite c 10 v) 11 = 0)

/-- R324 and R291: MTD and MTSTR write one field of a descriptor or stream where the value is allowed. -/
def Obligations.DescriptorMoves : Prop :=
  ∀ (s : State) (r e : BitVec 4) (a : BitVec 6) (k : BitVec 5),
    (s.ctx.cReady k → exec (.mtdCap r k) s =
      .next (s.afterScalar (fun c => { c with d := c.d.set r.toNat { c.d[r.toNat] with cap := s.ctx.cVal k } }))) ∧
    (s.ctx.xReady a → 1 ≤ e.toNat → e.toNat ≤ 8 → mtdBad e.toNat (s.ctx.xVal a).toNat = false → exec (.mtdValue r e a) s =
      .next (s.afterScalar (fun c => { c with d := c.d.set r.toNat (c.d[r.toNat].setField e.toNat (s.ctx.xVal a)) }))) ∧
    (s.ctx.xReady a → e.toNat ≤ 5 → mtstrBad e.toNat (s.ctx.xVal a).toNat = false → exec (.mtstr r e a) s =
      .next (s.afterScalar (fun c => { c with s := c.s.set r.toNat (c.s[r.toNat].setField e.toNat (s.ctx.xVal a)) })))

/-- R160: CLIM and CLIMX give the source with bounds at the cursor, at the smallest exponent at which they fit. -/
def Obligations.NewBounds : Prop :=
  ∀ (s : State) (d a : BitVec 5) (b : BitVec 6) (e : Nat), s.ctx.cEmpty d = false → s.ctx.cValid a → s.ctx.xReady b →
    let v := s.ctx.cVal a
    let lo := v.cursor.toNat
    let hi := lo + (s.ctx.xVal b).toNat
    let big := fun e => (hi + 2 ^ e - 1) / 2 ^ e - lo / 2 ^ e > 2 ^ 14 - 1
    let nb := lo / 2 ^ e * 2 ^ e
    let nt := (hi + 2 ^ e - 1) / 2 ^ e * 2 ^ e
    let w := v.withBounds (BitVec.ofNat 6 e) (BitVec.ofNat 14 (lo / 2 ^ e)) (BitVec.ofNat 14 ((nt - nb) / 2 ^ e)) v.cursor
    e ≤ 26 → ¬big e → (∀ f < e, big f) → (boundsOf v).1 ≤ nb → nt ≤ (boundsOf v).2 →
      exec (.clim d a b) s = .next (s.afterScalar (fun c => c.setC d w)) ∧
      (nb = lo → nt = hi → exec (.climx d a b) s = .next (s.afterScalar (fun c => c.setC d w)))

/-- R161 to R163 and R165: CMASK, CADV, CADVI and CPOS of a valid capability, and CMOV, CCLR and CGET of any, give the value that the
rules name; a cursor that is not representable (R152) clears the tag. R164: CSEAL and CUNSEAL set and clear the object type where the authority allows it. -/
def Obligations.CapabilityDerivations : Prop :=
  (∀ (s : State) (d a : BitVec 5) (b x : BitVec 6) (i : BitVec 14), s.ctx.cEmpty d = false → s.ctx.cReady a → s.ctx.xReady b →
    let v := s.ctx.cVal a
    let y := s.ctx.xVal b
    let moved := fun (n : Word) => ({ v.withCursor n with tag := v.tag && representable v n } : Cap)
    (s.ctx.cValid a →
      ∀ e ∈ ([(.cmask d a b, v.withPerms (v.perms &&& y.setWidth 12)), (.cadv d a b, moved (v.cursor + y)),
          (.cadvi d a i, moved (v.cursor + i.signExtend 64)), (.cpos d a b, moved y)] : List (Instr × Cap)),
        exec e.1 s = .next (s.afterScalar (fun c => c.setC d e.2))) ∧
    exec (.cmov d a) s = .next (s.afterScalar (fun c => c.setC d v)) ∧
    exec (.cclr d a) s = .next (s.afterScalar (fun c => c.setC d { v with tag := false })) ∧
    (s.ctx.xEmpty x = false →
      ∀ e ∈ ([(0, BitVec.ofNat 64 (boundsOf v).1), (1, BitVec.ofNat 64 (min ((boundsOf v).2 - (boundsOf v).1) (2 ^ 64 - 1))),
          (2, v.cursor), (3, v.perms.setWidth 64), (4, v.otype.setWidth 64), (5, v.space.setWidth 64), (6, v.gen.setWidth 64),
          (7, if v.tag then 1 else 0), (8, if v.space = 2 ∨ v.space = 3 then v.cursor >>> 40 else 0)] : List (BitVec 4 × Word)),
        exec (.cget x a e.1) s = .next (s.afterScalar (fun c => c.setX x e.2))))
  ∧ (∀ (s : State) (d a r : BitVec 5), s.ctx.cEmpty d = false → s.ctx.cReady a → (s.ctx.cVal a).tag = true → s.ctx.cValid r →
    let w := s.ctx.cVal r
    let o := w.cursor.toNat
    w.space = 6 → (boundsOf w).1 ≤ o → o < (boundsOf w).2 →
    ((s.ctx.cVal a).otype = 0 → w.has .seal = true → 1 ≤ o → o ≤ 14 →
      exec (.cseal d a r) s = .next (s.afterScalar (fun c => c.setC d ((s.ctx.cVal a).withOtype (BitVec.ofNat 4 o))))) ∧
    ((s.ctx.cVal a).otype ≠ 0 → w.has .unseal = true → o = (s.ctx.cVal a).otype.toNat →
      exec (.cunseal d a r) s = .next (s.afterScalar (fun c => c.setC d ((s.ctx.cVal a).withOtype 0)))))

/-- R159: the seven derivations raise CAP_TAG for an untagged source and CAP_SEALED for a sealed one, with TRAPI the register's number,
before any other check of theirs. R113 and R157: a scalar or capability source that carries poison raises INTEGRITY with TRAPI the register's number. -/
def Obligations.SourceFaults : Prop :=
  (∀ (s : State) (d a r : BitVec 5) (b : BitVec 6) (i : BitVec 14), s.ctx.cReady a →
    ∀ j ∈ ([.clim d a b, .climx d a b, .cmask d a b, .cadv d a b, .cadvi d a i, .cpos d a b, .cseal d a r] : List Instr),
      ((s.ctx.cVal a).tag = false → exec j s = .next (s.afterFault { code := 0x04, trapi := a.setWidth 64 })) ∧
      ((s.ctx.cVal a).tag = true → (s.ctx.cVal a).otype ≠ 0 →
        exec j s = .next (s.afterFault { code := 0x07, trapi := a.setWidth 64 })))
  ∧ (∀ (s : State) (d a b : BitVec 6) (e k : BitVec 5) (p : BitVec 4) (i : BitVec 12),
    (s.ctx.xPoison a = true →
      ∀ j ∈ ([.add d a b, .sub d a b, .mul d a b, .and d a b, .shl d a b, .min d a b, .clz d a, .popc d a, .addi d a i, .cmpEq p a b,
          .cmpiLt p a i, .div d a b, .rem d a b] : List Instr),
        exec j s = .next (s.afterFault { code := 0x0E, trapi := a.setWidth 64 })) ∧
    (s.ctx.cPoison k = true →
      ∀ j ∈ ([.cmov e k, .cclr e k, .cadv e k b, .cget d k 2] : List Instr),
        exec j s = .next (s.afterFault { code := 0x0E, trapi := k.setWidth 64 })))

/-- R159 to R162: no derivation grants anything: what CLIM and CLIMX give has bounds within those of their source, a cursor moved with the
tag kept leaves the bounds as they are, and a mask leaves them too. -/
def Obligations.CapabilityMonotonic : Prop :=
  ∀ (v : Cap) (x : Word) (exact : Bool),
    (∀ w, limitCap exact v x = some w → (boundsOf v).1 ≤ (boundsOf w).1 ∧ (boundsOf w).2 ≤ (boundsOf v).2 ∧ w.perms = v.perms ∧
      w.space = v.space ∧ w.gen = v.gen ∧ w.otype = v.otype ∧ w.tag = v.tag ∧ w.cursor = v.cursor) ∧
    ((moveCursor v x).tag = true → v.e.toNat ≤ 50 ∨ v.e.toNat = 63 → boundsOf (moveCursor v x) = boundsOf v ∧
      (moveCursor v x).perms = v.perms) ∧
    ((v.withPerms (v.perms &&& x.setWidth 12)).perms = v.perms &&& x.setWidth 12 ∧ boundsOf (v.withPerms (v.perms &&& x.setWidth 12)) = boundsOf v)

/-- R166: CTEST of a capability register and a scalar register that can be read writes pd with the value of its condition: 0 the tag; 1 valid,
unsealed and with the `xb` bytes at the cursor within bounds; 2 valid with every permission of the mask; 3 valid and sealed; 4 valid and of the object's
own generation, without a walk for a capability that is not valid or names no object, and else once a walk has given the page.
It rests on the model's own choices: log 47, 48. -/
def Obligations.CapabilityTests : Prop :=
  ∀ (s : State) (p : BitVec 4) (a : BitVec 5) (b : BitVec 6), s.ctx.cReady a → s.ctx.xReady b →
    let v := s.ctx.cVal a
    let y := s.ctx.xVal b
    let gives := fun (z : Bool) => s.afterScalar (fun c => c.setP p z)
    exec (.ctest p a 0 0) s = .next (gives v.tag) ∧
    exec (.ctest p a b 1) s = .next (gives (decide (v.tag = true ∧ v.otype = 0 ∧ (boundsOf v).1 ≤ v.cursor.toNat ∧
      v.cursor.toNat + y.toNat ≤ (boundsOf v).2))) ∧
    exec (.ctest p a b 2) s = .next (gives (decide (v.tag = true ∧ v.perms &&& y.setWidth 12 = y.setWidth 12))) ∧
    exec (.ctest p a 0 3) s = .next (gives (decide (v.tag = true ∧ v.otype ≠ 0))) ∧
    (v.tag = false → exec (.ctest p a 0 4) s = .next (gives false)) ∧
    (v.space ≠ 2 → v.space ≠ 3 → exec (.ctest p a 0 4) s = .next (gives v.tag)) ∧
    (∀ sp o, v.space = 2 ∧ sp = .local ∨ v.space = 3 ∧ sp = .pool → tabGet s.objects (v.cursor.toNat / 2 ^ 40) = some o →
      translate s s.ctx sp (v.cursor.toNat / 2 ^ 40) (v.cursor.toNat % 2 ^ 40 / 65536) ≠ .walk →
      exec (.ctest p a 0 4) s = .next (gives (decide (v.tag = true ∧ o.deleted = false ∧ o.retired = false ∧ o.gen = v.gen))))

/-- R123 to R126 and R131: a load whose capability allows it and whose page is at hand marks xd empty and joins its context's queue; a
load aimed at x0 marks nothing (R27). R123, R124, R127, R131 and R367: a store whose capability allows it, whose page is at hand and whose line may be written joins the
queue with the low bytes of xs, and its tracker entry counts it.
It rests on the model's own choices: log 24, 171. -/
def Obligations.MemoryIssue : Prop :=
  (∀ (s : State) (x : BitVec 6) (c : BitVec 5) (o : BitVec 13) (m : MAddr), s.ctx.xEmpty x = false → s.ctx.cReady c → s.outstanding < 1024 →
    ∀ e ∈ ([(.ldI8 x c o, 1, true), (.ldN8 x c o, 1, false), (.ldI16 x c o, 2, true), (.ldN16 x c o, 2, false), (.ldI32 x c o, 4, true),
        (.ldN32 x c o, 4, false), (.ldI64 x c o, 8, true)] : List (Instr × Nat × Bool)),
      let n := e.2.1
      let a := BitVec.ofInt 64 ((s.ctx.cVal c).cursor.toNat + o.toInt * n)
      (s.ctx.cVal c).allows .ld [.scratch, .local, .pool, .host] a n → s.Reaches (s.ctx.cVal c) a n m →
        exec e.1 s = .next (s.afterWord .s 1 none .fall [] (fun t =>
          enqueue (.load m n (.x x e.2.2)) false ((t.modCtx (fun k => k.emptyX x)).touched m false))))
  ∧ (∀ (s : State) (x : BitVec 6) (c : BitVec 5) (o : BitVec 13) (m : MAddr), s.ctx.xReady x → s.ctx.cReady c → s.outstanding < 1024 → s.mayWrite m →
    ∀ e ∈ ([(.st8 x c o, 1), (.st16 x c o, 2), (.st32 x c o, 4), (.st64 x c o, 8)] : List (Instr × Nat)),
      let n := e.2
      let a := BitVec.ofInt 64 ((s.ctx.cVal c).cursor.toNat + o.toInt * n)
      (s.ctx.cVal c).allows .st [.scratch, .local, .pool, .host] a n → s.Reaches (s.ctx.cVal c) a n m →
        exec e.1 s = .next (s.afterWord .s 1 none .fall [] (fun t =>
          enqueueTracked (.store m (leBytes n (s.ctx.xVal x).toNat) 0) .store (capRange (s.ctx.cVal c)) (t.touched m true))))

/-- R168 to R170: LDC and STC of an allowed access; STC of a tagged value needs STCAP, no host space and, outside the scratchpad, GLOBAL. -/
def Obligations.CapabilityTransfers : Prop :=
  ∀ (s : State) (d c : BitVec 5) (o : BitVec 13) (m : MAddr), s.ctx.cReady c → s.outstanding < 1024 →
    let v := s.ctx.cVal c
    let a := BitVec.ofInt 64 (v.cursor.toNat + o.toInt * 16)
    s.Reaches v a 16 m →
    (s.ctx.cEmpty d = false → v.allows .ld [.scratch, .local, .pool, .host] a 16 →
      exec (.ldc d c o) s = .next (s.afterWord .s 1 none .fall [] (fun t =>
        enqueue (.load m 16 (.cap d (v.has .ldcap))) false ((t.modCtx (fun k => k.emptyC d)).touched m false)))) ∧
    (s.ctx.cReady d → v.allows .st [.scratch, .local, .pool, .host] a 16 → s.mayWrite m →
      ((s.ctx.cVal d).tag = true → v.space ≠ 4 ∧ v.has .stcap = true ∧ ((s.ctx.cVal d).has .global = true ∨ v.space = 1)) →
      exec (.stc d c o) s = .next (s.afterWord .s 1 none .fall [] (fun t =>
        enqueueTracked (.store m (leBytes 16 (s.ctx.cVal d).bits.toNat)
          (if (s.ctx.cVal d).tag then BitVec.ofNat 8 (2 ^ (m.off % 128 / 16)) else 0)) .store (capRange v) (t.touched m true))))

/-- R124, R169 and R382: the first check of a load, a store, LDC, STC or an atomic that fails, in the rule's order, delivers its fault, with TRAPI the
address and no effect of the word; a LOST page is ECC_UNCORR at that bundle (R398). R170: the further checks of STC of a tagged value come after those. R81, R124
and R399: an access to a page that a walk found missing raises PAGE: TRAPC, TRAPI and the PC are those of the bundle, the context is in PAGE and remembers the page.
R330: a copy command's LINE_RANGE for its first local line outside the allotment, and the capability checks of R175, in the order of R124, with TRAPI the lowest
failing address.
It rests on the model's own choices: log 24, 32, 48, 171. -/
def Obligations.AccessFaults : Prop :=
  (∀ (s : State) (x y : BitVec 6) (d c : BitVec 5) (o : BitVec 13) (sc : BitVec 3) (q r : BitVec 1), s.ctx.cReady c →
    let v := s.ctx.cVal c
    let all : List Space := [.scratch, .local, .pool, .host]
    let at_ := fun (n : Nat) => BitVec.ofInt 64 (v.cursor.toNat + o.toInt * n)
    let object := v.space = 2 ∨ v.space = 3
    let page := fun (a : Word) (w : Xlat) => ∃ p, (v.space = 2 ∧ p = .local ∨ v.space = 3 ∧ p = .pool) ∧
      translate s s.ctx p (a.toNat / 2 ^ 40) (a.toNat % 2 ^ 40 / 65536) = w
    let checks := fun (p : Perm) (spaces : List Space) (a : Word) (n : Nat) => ([(v.tag = false, 0x04), (v.otype ≠ 0, 0x07), (v.has p = false, 0x06),
      (¬(∃ sp ∈ spaces, spaceOf v.space = some sp), 0x09), (a.toNat < (boundsOf v).1 ∨ (boundsOf v).2 < a.toNat + n, 0x05),
      (a.toNat % n ≠ 0, 0x0A), (object ∧ stale s v (a.toNat / 2 ^ 40) = true, 0x08), (s.ctx.sys.world ≠ 0 ∧ v.space ≠ 1, 0x18),
      (v.space = 1 ∧ resolveScratch s s.ctx a.toNat n = none, 0x0B), (page a .lost, 0x14),
      (v.space = 1 ∧ ∃ g b f, resolveScratch s s.ctx a.toNat n = some (g, b) ∧ formKnown s s.ctx g b = some f ∧ f ≠ .plain, 0x0D)] : List (Prop × BitVec 8))
    let both := fun (op : AtomOp) (z : BitVec 6) => if op = .acas2 then [z, z + 1] else [z]
    let words : List (Instr × Prop × Perm × List Space × Word × Nat) :=
      (([(.ldI8 x c o, 1), (.ldN8 x c o, 1), (.ldI16 x c o, 2), (.ldN16 x c o, 2), (.ldI32 x c o, 4), (.ldN32 x c o, 4), (.ldI64 x c o, 8)]
        : List (Instr × Nat)).map (fun e => (e.1, s.ctx.xEmpty x = false, .ld, all, at_ e.2, e.2))) ++
      (([(.st8 x c o, 1), (.st16 x c o, 2), (.st32 x c o, 4), (.st64 x c o, 8)]
        : List (Instr × Nat)).map (fun e => (e.1, s.ctx.xReady x, .st, all, at_ e.2, e.2))) ++
      [(.ldc d c o, s.ctx.cEmpty d = false, .ld, all, at_ 16, 16), (.stc d c o, s.ctx.cReady d, .st, all, at_ 16, 16)] ++
      (([(.aaddI32 y c x sc q r, .aaddI32), (.aaddI64 y c x sc q r, .aaddI64), (.aminI64 y c x sc q r, .aminI64), (.amaxI64 y c x sc q r, .amaxI64),
        (.aminnN64 y c x sc q r, .aminnN64), (.amaxnN64 y c x sc q r, .amaxnN64), (.aand y c x sc q r, .aand), (.aor y c x sc q r, .aor),
        (.axor y c x sc q r, .axor), (.axchg y c x sc q r, .axchg), (.acas y c x sc q r, .acas), (.acas2 y c x sc q r, .acas2),
        (.afaddF32 y c x sc q r, .afaddF32)] : List (Instr × AtomOp)).map (fun e => (e.1, e.1.wellFormed = true ∧ (∀ z ∈ both e.2 x, s.ctx.xReady z) ∧
          (∀ z ∈ both e.2 y, s.ctx.xEmpty z = false) ∧ (e.2 = .acas ∨ e.2 = .acas2 → ∀ z ∈ both e.2 y, s.ctx.xPoison z = false), .atom,
          (if s.cxl ∨ e.2 = .acas ∨ e.2 = .acas2 then all else [.scratch, .local, .pool]), v.cursor, e.2.size)))
    (∀ e ∈ words, e.2.1 → ∀ before f after, checks e.2.2.1 e.2.2.2.1 e.2.2.2.2.1 e.2.2.2.2.2 = before ++ f :: after → f.1 → (∀ g ∈ before, ¬g.1) →
      exec e.1 s = .next (s.afterFault { code := f.2, trapi := e.2.2.2.2.1 })) ∧
    (s.ctx.cReady d → (s.ctx.cVal d).tag = true → v.allows .st all (at_ 16) 16 → (∃ m, s.Reaches v (at_ 16) 16 m) →
      (v.space = 4 → exec (.stc d c o) s = .next (s.afterFault { code := 0x09, trapi := at_ 16 })) ∧
      (v.space ≠ 4 → v.has .stcap = false ∨ ((s.ctx.cVal d).has .global = false ∧ v.space ≠ 1) →
        exec (.stc d c o) s = .next (s.afterFault { code := 0x06, trapi := at_ 16 }))) ∧
    (∀ e ∈ words, e.2.1 → ∀ p, v.allows e.2.2.1 e.2.2.2.1 e.2.2.2.2.1 e.2.2.2.2.2 → (v.space = 2 ∧ p = .local ∨ v.space = 3 ∧ p = .pool) →
      s.ctx.sys.world = 0 → stale s v (e.2.2.2.2.1.toNat / 2 ^ 40) = false →
      translate s s.ctx p (e.2.2.2.2.1.toNat / 2 ^ 40) (e.2.2.2.2.1.toNat % 2 ^ 40 / 65536) = .absent →
        ∃ t, exec e.1 s = .next t ∧ t.ctx.state = .page ∧ t.ctx.pc = s.ctx.pc ∧
          t.ctx.pageWait = some (p, e.2.2.2.2.1.toNat / 2 ^ 40, e.2.2.2.2.1.toNat % 2 ^ 40 / 65536) ∧ t.ctx.sys.trapi = e.2.2.2.2.1 ∧
          t.ctx.sys.trapc = BitVec.ofNat 64 (s.ctx.pc.toNat % 8192 * 65536 + 0x0F) ∧ t.ctx.x = s.ctx.x ∧ t.ctx.c = s.ctx.c ∧
          t.scratch = s.scratch ∧ t.hbm = s.hbm ∧ t.pool = s.pool ∧ t.host = s.host))
  ∧ (∀ (s : State) (u : CUnit) (dn : BitVec 4) (q r : BitVec 1) (sc : BitVec 3) (m : BitVec 1) (x : BitVec 6) (g : BitVec 8),
    let d := s.ctx.desc dn
    let v := d.cap
    let size := s.ctx.sys.allocSize.toNat
    ∀ e ∈ ([(.getc u dn q r sc m x g, .get), (.putc u dn q r sc m x g, .put), (.getp u dn q r sc m x g, .getp), (.xfer u dn q r sc m x g, .xfer),
        (.putr u dn q r sc m x g, .putr), (.bget u dn m x g, .bget)] : List (Instr × CopyOp)),
      let op := e.2
      let outside := fun (a : Nat) => ∃ k < d.nrows op, d.rowAddr op k ≤ a ∧ a < d.rowAddr op k + d.len.toNat ∧ (a < (boundsOf v).1 ∨ (boundsOf v).2 ≤ a)
      let lowest := fun (a : Nat) => op ≠ .getp ∧ outside a ∧ ∀ b < a, ¬outside b
      e.1.wellFormed = true → copyIllegal op d (op ≠ .bget ∧ (q = 1 ∨ r = 1)) (if op = .bget then 0 else sc) = false → s.ctx.xReady x →
      (∀ l, op ≠ .bget → (d.localLines op).find? (fun l => size ≤ l) = some l →
        exec e.1 s = .next (s.afterFault { code := 0x0B, trapi := BitVec.ofNat 64 ((cslot u).index + l % 2 ^ 24 * 256) })) ∧
      ((op ≠ .bget → ∀ l ∈ d.localLines op, l < size ∧ (op.fillsLines = true → s.lineFree l)) →
        (op = .put → ∀ l ∈ putLines s s.ctx op d, (∀ o ∈ s.cr.copies, o.holds s.cr.cur l = false) ∧ s.mergeReadsLine s.g l = false ∧
          ∀ r ∈ s.cr.reads, r.1 = l → r.2 ≤ s.cr.cyc) →
        (op.holdsLines = true → s.cr.recordsOf s.cr.cur < 64) → (∀ w, copyRef s.ctx x d = some w → ∃ a, copyRefPlace s s.ctx op d w = .at a) →
        copyWorldTrap s s.ctx (cslot u).index op d = none →
        ∀ before f after, ([(v.tag = false, 0x04, d.rowAddr op 0), (v.otype ≠ 0, 0x07, d.rowAddr op 0),
            (v.has op.perm = false ∨ (op = .bget ∧ d.rows ≠ 0 ∧ v.has .lease = false), 0x06, d.rowAddr op 0),
            (¬(∃ sp ∈ op.spaces, spaceOf v.space = some sp), 0x09, d.rowAddr op 0)] : List (Prop × BitVec 8 × Nat)) = before ++ f :: after →
          (∀ g ∈ before, ¬g.1) →
          (f.1 → exec e.1 s = .next (s.afterFault { code := f.2.1, trapi := BitVec.ofNat 64 f.2.2 })) ∧
          (¬f.1 → after = [] →
            (∀ a, lowest a → exec e.1 s = .next (s.afterFault { code := 0x05, trapi := BitVec.ofNat 64 a })) ∧
            ((∀ a, ¬lowest a) → d.isStale s op = true →
              exec e.1 s = .next (s.afterFault { code := 0x08, trapi := BitVec.ofNat 64 (d.rowAddr op 0) })))))

/-- R22, R24, R100, R101, R106, R133 to R138 and R192: the B-slot words that transfer control, LOOP and ROT, and NOP, YIELD and END: what
each does to the sequence (`AdvanceRules` says where it goes on). R23, R201, R312, R346 and R353: a wait issues with its bundle and stays pending. -/
def Obligations.ControlWords : Prop :=
  (∀ (s : State) (p : BitVec 4) (n : BitVec 1) (o i : BitVec 19) (a : BitVec 6) (st : BitVec 5) (e : BitVec 13) (r : BitVec 10),
    let c := s.ctx
    let act := c.pVal p = (n == 0#1)
    let v := c.xVal a
    let last := c.pc.toNat + e.toNat
    (0 ≤ (c.pc.toNat : Int) + o.toInt → (c.pc.toNat : Int) + o.toInt ≤ 8191 → exec (.br p n o) s =
      .next (s.afterWord .b 1 none (if act then .goto ((c.pc.toNat : Int) + o.toInt).toNat true else .fall) [] id)) ∧
    (i.toNat ≤ 8191 → exec (.jmp p n i) s = .next (s.afterWord .b 1 none (if act then .goto i.toNat true else .fall) [] id)) ∧
    (c.xReady a → (act → v.toNat ≤ 8191) →
      exec (.jmpx p n a) s = .next (s.afterWord .b 1 none (if act then .goto v.toNat true else .fall) [] id)) ∧
    (i.toNat ≤ 8191 → c.pc.toNat < 8191 → exec (.call p n i) s = .next (if act then s.afterWord .b 1 none (.goto i.toNat false) []
        (fun t => t.modCtx (fun k => { k with sys := { k.sys with lnk := BitVec.ofNat 13 (c.pc.toNat + 1) } }))
      else s.afterWord .b 1 none .fall [] id)) ∧
    exec (.ret p n) s = .next (s.afterWord .b 1 none (if act then .goto c.sys.lnk.toNat false else .fall) [] id) ∧
    (c.xReady a → e ≠ 0 → last ≤ 8191 → (c.loops[0].v = true → last < c.loops[0].last.toNat) → (v ≠ 0 → c.loops[3].v = false) →
      exec (.loop a st e) s = .next (s.afterWord .b 1 none (if v = 0 then .skip (last + 1) else .push
        { cnt := v, v := true, step := st, start := BitVec.ofNat 13 (c.pc.toNat + 1), last := BitVec.ofNat 13 last }) [] id)) ∧
    (c.sys.vrs ≠ 0 → (c.atLoopEnd = true → c.loops[0].step = 0) → exec (.rot r) s = .next (s.afterWord .b 1 none .fall [] (fun t =>
      t.modCtx (fun k => { k with sys := { k.sys with
        vrb := BitVec.ofInt 10 (((c.sys.vrb.toNat : Int) - r.toNat) % c.sys.vrs.toNat) } })))) ∧
    exec .nop s = .next (s.afterWord .s 0 none .fall [] id) ∧
    exec .yield s = .next ((s.afterWord .y 2 none .fall [] id).modCtx (fun k => { k with yielded := true })) ∧
    exec .taskEnd s = .next (s.afterWord .b 1 none .finish [] id))
  ∧ (∀ (s : State) (d a : BitVec 6) (n : BitVec 11) (t : BitVec 6) (w : BitVec 8) (ph : BitVec 4) (l : BitVec 8) (r : ArrRef),
    (s.ctx.xReady a → (s.ctx.xVal a).toNat + (n.toNat + 1) ≤ s.ctx.sys.allocSize.toNat →
      exec (.waitl a n) s = .next (s.afterWord .b 1 none .fall [.lines (s.ctx.xVal a).toNat (n.toNat + 1)] id)) ∧
    (t.toNat < 48 → t.toNat < s.ctx.sys.tilesCount.toNat → exec (.waitt t) s = .next (s.afterWord .b 1 none .fall [.tile t] id)) ∧
    (w.toNat ≤ 64 → exec (.waitc w) s = .next (s.afterWord .b 1 none .fall [.copies w.toNat] id)) ∧
    (s.ctx.xReady a → s.ctx.xEmpty d = false → resolveRef s s.ctx (s.placementOf s.ctx) (s.ctx.xVal a) = .at r →
      exec (.waitph d a ph l) s = .next (s.afterWord .y 2 none .fall
        [.phase d r ph (if l = 255 then none else some (s.tnow + l.setWidth 64 * 256))] (fun t => t.modCtx (fun c => c.emptyX d)))))

/-- R22, R106, R138 and R139: where the sequence goes on after a bundle: past it, at the end of an iteration to the loop body's first bundle or past
the body with the count lower and VRB rotated, to a target, into a body, or nowhere after END. R141: a transfer takes the entries from the stack that
do not hold its target, from the innermost on, until entry 0 holds it or no entry is valid; nothing else touches the stack before the bundle's effects.
It rests on the model's own choices: log 25, 26, 169. -/
def Obligations.AdvanceRules : Prop :=
  (∀ (c : Ctx) (t : Nat) (u ended : Bool) (e : LoopEntry),
    let z := c.loops[0]
    let rot : Nat := z.step.toNat % c.sys.vrs.toNat
    let turned := if rot = 0 then c.sys.vrb else BitVec.ofNat 10 ((c.sys.vrb.toNat + c.sys.vrs.toNat - rot) % c.sys.vrs.toNat)
    (c.atLoopEnd = true ↔ z.v = true ∧ z.last.toNat = c.pc.toNat) ∧
    advance .fall false c = { c with pc := c.pc + 1 } ∧
    (z.cnt ≠ 1 → advance .fall true c =
      { c with loops := c.loops.set 0 { z with cnt := z.cnt - 1 }, sys := { c.sys with vrb := turned }, pc := BitVec.ofNat 14 z.start.toNat }) ∧
    (z.cnt = 1 → advance .fall true c =
      { c with loops := #v[c.loops[1], c.loops[2], c.loops[3], {}], sys := { c.sys with vrb := turned },
               pc := BitVec.ofNat 14 (z.last.toNat + 1) }) ∧
    advance (.goto t u) ended c = { c with pc := BitVec.ofNat 14 t } ∧
    advance (.push e) ended c = { c with pc := c.pc + 1, loops := #v[e, c.loops[0], c.loops[1], c.loops[2]] } ∧
    advance (.skip t) ended c = { c with pc := BitVec.ofNat 14 t } ∧
    advance .finish ended c = { c with state := .drain, waits := [] })
  ∧ (∀ (s : State) (ctl : Ctl), (∀ t, ctl ≠ .goto t true) → s.leaveLoops ctl = s)
  ∧ (∀ (s : State) (t : Nat),
    let l := s.ctx.loops
    let inside := fun (e : LoopEntry) => e.v = true ∧ e.start.toNat ≤ t ∧ t ≤ e.last.toNat
    ∃ n ≤ 4, ∃ m : Vector LoopEntry 4, s.leaveLoops (.goto t true) = s.modCtx (fun c => { c with loops := m }) ∧
      (∀ i (h : i < 4), m[i] = if h : i + n < 4 then l[i + n] else {}) ∧ (∀ i (h : i < 4), i < n → ¬inside l[i]) ∧
      (inside m[0] ∨ ∀ i (h : i < 4), m[i].v = false))

/-- R103 and R104: TRAP and BRK take effect after their bundle: the sequence has gone on, TRAPC names the bundle, TRAPI the immediate, and
the context is in HALT; its record is in the tenant's ring. R14, R103, R536, R538 and R541: what taking a fault does under fault policy 00: TRAPC, TRAPI and TRAPL are written; PAGE puts the context
into PAGE and posts nothing; INTEGRITY, RESIDUE and ECC_UNCORR end the task; every other code halts it; and the PC stays. R103, R104 and R539: TRAP and BREAK halt their context under every policy and touch no other. R536, R538 and R539:
under fault policies 01, 10 and 11 a fault other than PAGE, TRAP and BREAK ends the task; policy 10 ends the live tasks of its gang too, policy 11 those of its
launch, on every core, in every stage and in the images of evicted gangs, and then no further gang of the launch is dispatched. A context whose image is written
ends there (a DESIGN CHOICE of the log).
It rests on the model's own choices: log 32, 33, 113, 206. -/
def Obligations.FaultEntry : Prop :=
  (∀ (s : State) (i : BitVec 16),
    (exec (.trap i) s = .next ((s.afterWord .y 2 none .fall [] id).takeFault s.cr.cur { code := 0x15, trapi := i.setWidth 64 } s.ctx.pc.toNat false)) ∧
    (exec (.brk i) s = .next ((s.afterWord .b 1 none .fall [] id).takeFault s.cr.cur { code := 0x16, trapi := i.setWidth 64 } s.ctx.pc.toNat false)))
  ∧ (∀ (s : State) (k : BitVec 2) (t : Trap) (pc : Nat) (async : Bool), s.fpol (s.ctxAt k) = 0 →
    let u := s.takeFault k t pc async
    let c := u.ctxAt k
    c.sys.trapc = BitVec.ofNat 64 (pc % 8192 * 65536 + (if async then 256 else 0) + t.code.toNat) ∧ c.sys.trapi = t.trapi ∧
    c.sys.trapl1 ++ c.sys.trapl0 = t.trapl ∧ c.pc = (s.ctxAt k).pc ∧ c.x = (s.ctxAt k).x ∧ c.c = (s.ctxAt k).c ∧ c.p = (s.ctxAt k).p ∧
    (t.code = 0x0F → c.state = .page ∧ u.tenants = s.tenants) ∧
    (t.code = 0x0E ∨ t.code = 0x13 ∨ t.code = 0x14 → c.state = .drain) ∧
    (t.code ≠ 0x0F → t.code ≠ 0x0E → t.code ≠ 0x13 → t.code ≠ 0x14 → c.state = .halt ∧ c.waits = (s.ctxAt k).waits) ∧
    (t.code ≠ 0x0F → let ring := (s.tenant c.sys.tenant).ring
      let posted := Record.fault (faultRecord s.tnow c (fateOf 0 t.code))
      (u.tenant c.sys.tenant).ring =
        (if ring.pi - ring.ci = 4096 ∨ ring.overflow ≠ [] then { ring with overflow := ring.overflow ++ [posted] }
         else { ring with slots := tabSet ring.slots (ring.pi.toNat % 4096) posted, pi := ring.pi + 1 })) ∧
    u.scratch = s.scratch ∧ u.hbm = s.hbm ∧ u.pool = s.pool ∧ u.host = s.host ∧ u.imem = s.imem)
  ∧ (∀ (s : State) (k : BitVec 2) (t : Trap) (pc : Nat) (async : Bool), t.code = 0x15 ∨ t.code = 0x16 →
    let u := s.takeFault k t pc async
    let c := u.ctxAt k
    c.state = .halt ∧ c.pc = (s.ctxAt k).pc ∧ c.waits = (s.ctxAt k).waits ∧ c.sys.trapi = t.trapi ∧
    c.sys.trapc = BitVec.ofNat 64 (pc % 8192 * 65536 + (if async then 256 else 0) + t.code.toNat) ∧
    (∀ j, j ≠ k → u.ctxAt j = s.ctxAt j) ∧ u.others = s.others ∧ u.images = s.images ∧ u.launches = s.launches)
  ∧ (∀ (s : State) (k : BitVec 2) (t : Trap) (pc : Nat) (async : Bool), t.code ≠ 0x0F → t.code ≠ 0x15 → t.code ≠ 0x16 →
    let u := s.takeFault k t pc async
    let c := s.ctxAt k
    let work := fun (o : Ctx) => o.sys.tenant = c.sys.tenant ∧ o.sys.launch = c.sys.launch ∧ (s.fpol c = 3 ∨ o.sys.gang = c.sys.gang)
    let ended := fun (o : Ctx) => if o.state ≠ .free ∧ o.state ≠ .drain ∧ work o then { o with state := .drain, waits := [] } else o
    let resident := fun (o : Ctx) => if o.state = .evicting ∧ o.drainRel = true then o else ended o
    (1 ≤ s.fpol c → (u.ctxAt k).state = .drain) ∧
    (s.fpol c = 1 → (∀ j, j ≠ k → u.ctxAt j = s.ctxAt j) ∧ u.others = s.others ∧ u.images = s.images) ∧
    (s.fpol c = 2 ∨ s.fpol c = 3 → (∀ j, j ≠ k → u.ctxAt j = resident (s.ctxAt j)) ∧
      u.others = s.others.map (fun e => (e.1, { e.2 with ctxs := e.2.ctxs.map resident })) ∧
      u.images = s.images.map (fun i => { i with ctxs := i.ctxs.map ended })) ∧
    (s.fpol c = 3 → ∀ l ∈ u.launches, l.tenant = c.sys.tenant → l.number = c.sys.launch → l.stopping = true))
  ∧ (∀ (s : State) (l : Launch), l.stopping = true → s.candidate l = false)

/-- R18, R66, R75 to R79, R105, R537, R539 and R545: the events of a core's contexts: a context resumes or ends from HALT, the running
context's fetch past the end faults, a due fault is delivered, a wait ends, the selector obeys the wait counter, and the clock gates and
wakes.
It rests on the model's own choices: log 33, 35, 36, 39, 40, 192. -/
def Obligations.ContextEvents : Prop :=
  ∀ (s : State) (k : BitVec 2),
    let c := s.ctxAt k
    (∀ g, s.event = some (.contextResume g k) → ((s.coreAt g).ctxs[k.toNat]).state = .halt → (s.focus g).pageDrained k = true → ∃ t, exec .contextResume s = .next t ∧
      (t.coreAt g).ctxs[k.toNat] = { (s.coreAt g).ctxs[k.toNat] with state := .ready }) ∧
    (∀ g, s.event = some (.contextEnd g k) → ((s.coreAt g).ctxs[k.toNat]).state = .halt → ∃ t, exec .contextEnd s = .next t ∧
      (t.coreAt g).ctxs[k.toNat] = { (s.coreAt g).ctxs[k.toNat] with state := .drain, waits := [] }) ∧
    (s.event = some (.fetchPastEnd k) → c.state = .run → c.waits = [] → (∀ o ∈ c.mq, o.hold = false) → 8192 ≤ c.pc.toNat →
      exec .fetchPastEnd s = .next (s.takeFault k { code := 0x01, trapi := 0xFF } 8191 false)) ∧
    (∀ f, s.event = some (.asyncFaultDelivery k) → c.state = .ready ∨ c.state = .run ∨ c.state = .wait → firstDue c.due = some f →
      exec .asyncFaultDelivery s = .next ((s.setCtxAt k { c with due := c.due.erase f }).takeFault k
        { code := f.code, trapi := f.trapi, async := true } (f.pc.getD c.pc.toNat) true)) ∧
    (∀ w, s.event = some (.engineWaitEnd k) → c.state = .ready ∨ c.state = .run ∨ c.state = .wait →
      c.waits.find? (s.pendingMet k) = some w →
      (s.coveredCopy k w = none → exec .engineWaitEnd s = .next (s.setCtxAt k { c with waits := c.waits.erase w })) ∧
      (∀ m, s.coveredCopy k w = some m →
        exec .engineWaitEnd s = .next ((retireCopy m.id s).takeFault k m.fault c.pc.toNat true))) ∧
    (s.event = some (.engineWaitEnd k) → c.state = .wait → c.waits = [] → (∀ o ∈ c.mq, o.hold = false) → s.outlook k ≠ some .engine →
      exec .engineWaitEnd s = .next (s.setCtxAt k { c with state := .ready })) ∧
    (∀ j, s.event = some .waitCounterExpiry → s.running = some j → j ≠ k → s.longestWait = some k → s.cr.switchLeft = 0 →
      exec .waitCounterExpiry s = .next (s.switchTo k 4)) ∧
    (s.event = some .coreClockGate → s.cr.gated = false → 64 ≤ s.cr.idle →
      exec .coreClockGate s = .next { s with cr := { s.cr with gated := true } }) ∧
    (s.event = some .coreWake → s.cr.gated = true → s.isReady k = true →
      exec .coreWake s = .next { s with cr := { s.cr with gated := false, idle := 0, wakeLeft := 2 } }) ∧
    (s.event = some .freezeCycle → s.frozen = true → ∃ t, exec .freezeCycle s = .next t ∧ t.cr.cyc = s.cr.cyc ∧ t.cr.flights = s.cr.flights ∧
      t.cr.draws = (0 :: s.cr.draws).take 31 ∧
      t.ctxAt k = if c.state = .free then c else { c with sys := { c.sys with frz := c.sys.frz + 1 } })

/-- R239 to R243, R252 and R253: the element-wise floating-point words: when all that they need is at hand, each issues with lane `i` of its
registers in flight as the rule's function of the sources' lanes `i`, its flags with them.
It rests on the model's own choices: log 173. -/
def Obligations.VectorFloat : Prop :=
  ∀ (s : State) (u : VUnit) (n : BitVec 2) (k : BitVec 3) (t : BitVec 1) (d a b : BitVec 6),
    let m := 2 ^ n.toNat
    let fpm := s.ctx.sys.fpm
    let ftz := fpm.getLsbD 2
    let rm := fpm.toNat % 4
    let word := fun (srcs : List (BitVec 6)) (readsD : Bool) => ({ u := u, t := t, busy := m, weight := 5, k := k, readsD := readsD, dst := d
                                                                   dstRange := groupLines s.ctx d m, srcs := srcs.map (fun r => ⟨r, m⟩) } : VWord)
    let sub := fun (r : Nat) (x y : FVal) => addF r x y.negate
    let mul := fun (_ : Nat) (x y : FVal) => mulF x y
    let sign := fun (flip : Bool) (v : Nat) =>
      let x := flushIn 24 ftz v
      if (decodeF 24 x).isNan then (0x7FC00000, if (decodeF 24 x).isSnan then flagNV else 0)
      else (if flip then x ^^^ 2 ^ 31 else x % 2 ^ 31, (0 : Flags))
    (∀ e ∈ ([(.vaddF32 u n k t d a b, 24, arith2 24 fpm addF), (.vsubF32 u n k t d a b, 24, arith2 24 fpm sub),
        (.vmulF32 u n k t d a b, 24, arith2 24 fpm mul), (.vmaxF32 u n k t d a b, 24, chooseF 24 true ftz),
        (.vminF32 u n k t d a b, 24, chooseF 24 false ftz), (.vaddBf16 u n k t d a b, 8, arith2 8 fpm addF),
        (.vsubBf16 u n k t d a b, 8, arith2 8 fpm sub), (.vmulBf16 u n k t d a b, 8, arith2 8 fpm mul),
        (.vmaxBf16 u n k t d a b, 8, chooseF 8 true ftz), (.vminBf16 u n k t d a b, 8, chooseF 8 false ftz)]
        : List (Instr × Nat × (Nat → Nat → Nat × Flags))),
      let w := e.2.1 + 8
      let o := s.lanesOut k d m w true (fun j i => e.2.2 (s.lane a m w j i) (s.lane b m w j i))
      e.1.wellFormed = true → s.VecReady (word [a, b] false) o → exec e.1 s = .next (s.afterVector (word [a, b] false) o)) ∧
    (∀ e ∈ ([(.vfmaF32 u n k t d a b, 24, false), (.vfmsF32 u n k t d a b, 24, true), (.vfmaBf16 u n k t d a b, 8, false),
        (.vfmsBf16 u n k t d a b, 8, true)] : List (Instr × Nat × Bool)),
      let w := e.2.1 + 8
      let o := s.lanesOut k d m w true (fun j i => arith3 e.2.1 fpm e.2.2 (s.lane d m w j i) (s.lane a m w j i) (s.lane b m w j i))
      e.1.wellFormed = true → s.VecReady (word [a, b, d] true) o → exec e.1 s = .next (s.afterVector (word [a, b, d] true) o)) ∧
    (∀ e ∈ ([(.vabsF32 u n k t d a, sign false), (.vnegF32 u n k t d a, sign true),
        (.vcvtF32I32 u n k t d a, fun x => let r := toIntF rm 32 (decodeF 24 (flushIn 24 ftz x)); ((r.1 % 2 ^ 32).toNat, r.2)),
        (.vcvtI32F32 u n k t d a, fun x => ofIntF 24 rm ftz (sextN 32 x))] : List (Instr × (Nat → Nat × Flags))),
      let o := s.lanesOut k d m 32 true (fun j i => e.2 (s.lane a m 32 j i))
      e.1.wellFormed = true → s.VecReady (word [a] false) o → exec e.1 s = .next (s.afterVector (word [a] false) o))

/-- R244 to R246 and R251: the element-wise integer, bit and shift words and VMOV: lane `i` of each register is the rule's function of the
sources' lanes `i`, and no flag is touched. -/
def Obligations.VectorInteger : Prop :=
  ∀ (s : State) (u : VUnit) (n : BitVec 2) (k : BitVec 3) (t : BitVec 1) (d a b : BitVec 6),
    let m := 2 ^ n.toNat
    let word := fun (srcs : List (BitVec 6)) => ({ u := u, t := t, busy := m, weight := 3, k := k, dst := d
                                                   dstRange := groupLines s.ctx d m, srcs := srcs.map (fun r => ⟨r, m⟩) } : VWord)
    let sat := fun (w : Nat) (v : Int) => min (max v (-(2 ^ (w - 1)))) (2 ^ (w - 1) - 1)
    (∀ e ∈ ([(.vaddI32 u n k t d a b, 32, fun x y => x + y), (.vsubI32 u n k t d a b, 32, fun x y => x - y),
        (.vmulI32 u n k t d a b, 32, fun x y => x * y), (.vmulhI32 u n k t d a b, 32, fun x y => x * y / 2 ^ 32),
        (.vmaxI32 u n k t d a b, 32, fun x y => max x y), (.vminI32 u n k t d a b, 32, fun x y => min x y),
        (.vaddI16 u n k t d a b, 16, fun x y => x + y), (.vsubI16 u n k t d a b, 16, fun x y => x - y),
        (.vmulI16 u n k t d a b, 16, fun x y => x * y), (.vmaxI16 u n k t d a b, 16, fun x y => max x y),
        (.vminI16 u n k t d a b, 16, fun x y => min x y), (.vaddsI16 u n k t d a b, 16, fun x y => sat 16 (x + y)),
        (.vsubsI16 u n k t d a b, 16, fun x y => sat 16 (x - y)), (.vaddI8 u n k t d a b, 8, fun x y => x + y),
        (.vsubI8 u n k t d a b, 8, fun x y => x - y), (.vmaxI8 u n k t d a b, 8, fun x y => max x y),
        (.vminI8 u n k t d a b, 8, fun x y => min x y), (.vaddsI8 u n k t d a b, 8, fun x y => sat 8 (x + y)),
        (.vsubsI8 u n k t d a b, 8, fun x y => sat 8 (x - y))] : List (Instr × Nat × (Int → Int → Int))),
      let w := e.2.1
      let o := s.lanesOut k d m w false (fun j i => ((e.2.2 (sextN w (s.lane a m w j i)) (sextN w (s.lane b m w j i)) % 2 ^ w).toNat, 0))
      e.1.wellFormed = true → s.VecReady (word [a, b]) o → exec e.1 s = .next (s.afterVector (word [a, b]) o)) ∧
    (∀ e ∈ ([(.vand u n k t d a b, fun x y => x &&& y), (.vor u n k t d a b, fun x y => x ||| y), (.vxor u n k t d a b, fun x y => x ^^^ y),
        (.vshlI32 u n k t d a b, fun x y => x * 2 ^ (y % 32)), (.vshrI32 u n k t d a b, fun x y => x / 2 ^ (y % 32)),
        (.vsarI32 u n k t d a b, fun x y => (sextN 32 x / 2 ^ (y % 32) % 2 ^ 32).toNat)] : List (Instr × (Nat → Nat → Nat))),
      let o := s.lanesOut k d m 32 false (fun j i => (e.2 (s.lane a m 32 j i) (s.lane b m 32 j i), 0))
      e.1.wellFormed = true → s.VecReady (word [a, b]) o → exec e.1 s = .next (s.afterVector (word [a, b]) o)) ∧
    (∀ e ∈ ([(.vabsI32 u n k t d a, fun x => ((sextN 32 x).natAbs % 2 ^ 32)), (.vnegI32 u n k t d a, fun x => ((-(sextN 32 x)) % 2 ^ 32).toNat),
        (.vnot u n k t d a, fun x => 2 ^ 32 - 1 - x), (.vmov u n k t d a, fun x => x)] : List (Instr × (Nat → Nat))),
      let o := s.lanesOut k d m 32 false (fun j i => (e.2 (s.lane a m 32 j i), 0))
      e.1.wellFormed = true → s.VecReady (word [a]) o → exec e.1 s = .next (s.afterVector (word [a]) o))

/-- R247 to R250 and R272: a compare sets bit 64·j + i of its mask from lane `i` of register `j`, NV as the rule's table says; VSEL takes each
lane from va or vb by its mask; VBCX and VIOTA fill the enabled lanes from an x register. -/
def Obligations.VectorCompareSelect : Prop :=
  ∀ (s : State) (u : VUnit) (n : BitVec 2) (k kd : BitVec 3) (t : BitVec 1) (d a b x : BitVec 6),
    let c := s.ctx
    let m := 2 ^ n.toNat
    let ftz := c.sys.fpm.getLsbD 2
    let cmp : VWord := { u := u, t := t, busy := m, weight := 3, k := k, srcs := [⟨a, m⟩, ⟨b, m⟩] }
    let fp := fun (quiet : Bool) (f : FVal → FVal → Bool) (p q : Nat) =>
      let x := decodeF 24 (flushIn 24 ftz p)
      let y := decodeF 24 (flushIn 24 ftz q)
      (f x y, if x.isSnan || y.isSnan || (!quiet && (x.isNan || y.isNan)) then flagNV else 0)
    let int := fun (f : Int → Int → Bool) (p q : Nat) => (f (sextN 32 p) (sextN 32 q), (0 : Flags))
    (∀ e ∈ ([(.vcmpF32Eq u n k t kd a b, true, fp true eqF), (.vcmpF32Ne u n k t kd a b, true, fp true (fun p q => !eqF p q)),
        (.vcmpF32Lt u n k t kd a b, true, fp false ltF), (.vcmpF32Le u n k t kd a b, true, fp false (fun p q => ltF p q || eqF p q)),
        (.vcmpI32Eq u n k t kd a b, false, int (fun p q => p == q)), (.vcmpI32Ne u n k t kd a b, false, int (fun p q => p != q)),
        (.vcmpI32Lt u n k t kd a b, false, int (fun p q => p < q)), (.vcmpI32Le u n k t kd a b, false, int (fun p q => p ≤ q))]
        : List (Instr × Bool × (Nat → Nat → Bool × Flags))),
      let bit := fun (j i : Nat) => if s.on k i then e.2.2 (s.lane a m 32 j i) (s.lane b m 32 j i) else (false, 0)
      let all := ((List.range m).map (fun j => (List.range 64).map (bit j))).flatten
      let o : VOut := {
        mask := some (kd, if kd = 0 then BitVec.allOnes 256 else BitVec.ofNat 256 (packNat 1 (all.map (fun r => if r.1 then 1 else 0))))
        bypass := some (packLanes 32 ((List.range 64).map (fun i => if (bit (m - 1) i).1 then 2 ^ 32 - 1 else 0)))
        flags := if e.2.1 then some (unionFlags (all.map Prod.snd)) else none }
      e.1.wellFormed = true → s.VecReady cmp o → exec e.1 s = .next (s.afterVector cmp o)) ∧
    (let pick := expandBytes (laneBytes 32 (c.kVal k))
     let o := regOut c d ((List.range m).map (fun j =>
       ((nthReg (operandRegs s c a m) j &&& pick) ||| (nthReg (operandRegs s c b m) j &&& ~~~pick), BitVec.allOnes 256))) none
     let w : VWord := { u := u, t := t, busy := m, weight := 3, k := k, dst := d, dstRange := groupLines c d m, srcs := [⟨a, m⟩, ⟨b, m⟩] }
     (Instr.vsel u n k t d a b).wellFormed = true → s.VecReady w o → exec (.vsel u n k t d a b) s = .next (s.afterVector w o)) ∧
    (∀ e ∈ ([(.vbcx32 u n k t d x, 32, fun v _ _ => v), (.vbcx16 u n k t d x, 16, fun v _ _ => v),
        (.viota32 u n k t d x, 32, fun v j i => v + 64 * j + i)] : List (Instr × Nat × (Nat → Nat → Nat → Nat))),
      let o := regOut c d ((List.range m).map (fun j => (packLanes e.2.1 ((List.range (2048 / e.2.1)).map (fun i =>
        e.2.2 (c.xVal x).toNat j i)), laneBytes e.2.1 (c.kVal k)))) none
      let w : VWord := { u := u, t := t, busy := m, weight := 3, k := k, xs := [x], dst := d, dstRange := groupLines c d m }
      e.1.wellFormed = true → s.VecReady w o → exec e.1 s = .next (s.afterVector w o))

/-- R252 and R253: the narrowing and widening conversions: a source register gives one line of the run, or two registers. -/
def Obligations.VectorConversions : Prop :=
  ∀ (s : State) (u : VUnit) (n : BitVec 2) (k : BitVec 3) (t : BitVec 1) (d a : BitVec 6),
    let c := s.ctx
    let m := 2 ^ n.toNat
    let fpm := c.sys.fpm
    let cvt := fun (p q : Nat) => convertF p q (fpm.toNat % 4) (fpm.getLsbD 2)
    let sat := fun (w : Nat) (v : Int) => (min (max v (-(2 ^ (w - 1)))) (2 ^ (w - 1) - 1) % 2 ^ w).toNat
    (∀ e ∈ ([(.vcvtF32Bf16 u n k t d a, 32, true, cvt 24 8), (.vcvtI32I16 u n k t d a, 32, false, fun x => (sat 16 (sextN 32 x), 0)),
        (.vcvtI16I8 u n k t d a, 16, false, fun x => (sat 8 (sextN 16 x), 0))] : List (Instr × Nat × Bool × (Nat → Nat × Flags))),
      let w := e.2.1
      let rs := (List.range m).map (fun j => (List.range (2048 / w)).map (fun i => if s.on k i then e.2.2.2 (s.lane a m w j i) else (0, 0)))
      let bytes := BitVec.ofNat 128 (packNat (w / 16) ((List.range (2048 / w)).map (fun i => if s.on k i then 2 ^ (w / 16) - 1 else 0)))
      let o := runOut c d (rs.map (fun r => (BitVec.ofNat 1024 (packNat (w / 2) (r.map Prod.fst)), bytes)))
        (if e.2.2.1 then some (unionFlags (rs.flatten.map Prod.snd)) else none)
      let v : VWord := { u := u, t := t, busy := m, weight := 5, k := k, dst := d
                         dstRange := (List.range m).map (fun j => regLine c d (j / 2) + j % 2), srcs := [⟨a, m⟩] }
      e.1.wellFormed = true → s.VecReady v o → exec e.1 s = .next (s.afterVector v o)) ∧
    (∀ e ∈ ([(.vcvtBf16F32 u n k t d a, 16, true, cvt 8 24), (.vcvtI16I32 u n k t d a, 16, false, fun x => ((sextN 16 x % 2 ^ 32).toNat, 0)),
        (.vcvtI8I16 u n k t d a, 8, false, fun x => ((sextN 8 x % 2 ^ 16).toNat, 0))] : List (Instr × Nat × Bool × (Nat → Nat × Flags))),
      let w := e.2.1
      let half := 1024 / w
      let rs := (List.range (2 * m)).map (fun h => (List.range half).map (fun i =>
        let l := h % 2 * half + i
        if s.on k l then (e.2.2.2 (s.lane a m w (h / 2) l), true) else ((0, 0), false)))
      let o := regOut c d (rs.map (fun r => (packLanes (2 * w) (r.map (fun x => x.1.1)),
          BitVec.ofNat 256 (packNat (w / 4) (r.map (fun x => if x.2 then 2 ^ (w / 4) - 1 else 0))))))
        (if e.2.2.1 then some (unionFlags (rs.map (fun r => unionFlags (r.map (fun x => x.1.2))))) else none)
      let v : VWord := { u := u, t := t, busy := m, weight := 5, k := k, dst := d, dstRange := groupLines c d (2 * m), srcs := [⟨a, m⟩] }
      e.1.wellFormed = true → s.VecReady v o → exec e.1 s = .next (s.afterVector v o))

/-- R254 to R257: VQNT writes the codes of its lanes as a byte run and raises AMAX, VAMAX raises AMAX alone, VDQNT gives FP32 lanes, and VPLN
and VUPLN exchange byte-form rows and plane rows. -/
def Obligations.VectorBlockScaled : Prop :=
  ∀ (s : State) (u : VUnit) (n : BitVec 2) (k : BitVec 3) (t : BitVec 1) (d a b : BitVec 6),
    let c := s.ctx
    let m := 2 ^ n.toNat
    let ftz := c.sys.fpm.getLsbD 2
    let mag := fun (x : Nat) => if x % 2 ^ 31 > 0x7F800000 then (0, flagNV) else (x % 2 ^ 31, (0 : Flags))
    (∀ e ∈ ([(.vqntMx8 u n k t d a b, 8), (.vqntMx6 u n k t d a b, 6), (.vqntMx4 u n k t d a b, 4)] : List (Instr × Nat)),
      let lane := fun (j i : Nat) =>
        let x := flushIn 24 ftz (s.lane a m 32 j i)
        let q := quantMx e.2 (decodeF 24 x) (s.lane b 1 8 0 (2 * j + i / 32))
        ((q.1 % 256).toNat, q.2 ||| (mag x).2, (mag x).1)
      let rs := ((List.range m).map (fun j => (List.range 64).map (fun i => if s.on k i then (lane j i, true) else ((0, 0, 0), false)))).flatten
      let line := fun (h : Nat) =>
        let part := (rs.drop (128 * h)).take 128
        (BitVec.ofNat 1024 (packNat 8 (part.map (fun r => r.1.1))), BitVec.ofNat 128 (packNat 1 (part.map (fun r => if r.2 then 1 else 0))))
      let o : VOut := { runOut c d ((List.range ((m + 1) / 2)).map line) (some (unionFlags (rs.map (fun r => r.1.2.1)))) with
        amax := some (BitVec.ofNat 32 ((rs.map (fun r => r.1.2.2)).foldl max 0)) }
      let v : VWord := { u := u, t := t, busy := m, weight := 5, k := k, dst := d
                         dstRange := (List.range ((m + 1) / 2)).map (fun i => regLine c d (i / 2) + i % 2), srcs := [⟨a, m⟩, ⟨b, 1⟩] }
      e.1.wellFormed = true → s.VecReady v o → exec e.1 s = .next (s.afterVector v o)) ∧
    (∀ e ∈ ([(.vamaxF32 u n k t a, 24), (.vamaxBf16 u n k t a, 8)] : List (Instr × Nat)),
      let w := e.2 + 8
      let rs := ((List.range m).map (fun j => (List.range (2048 / w)).map (fun i =>
        if s.on k i then mag (flushIn e.2 ftz (s.lane a m w j i) * 2 ^ (24 - e.2)) else (0, 0)))).flatten
      let o : VOut := { flags := some (unionFlags (rs.map Prod.snd)), amax := some (BitVec.ofNat 32 ((rs.map Prod.fst).foldl max 0)) }
      let v : VWord := { u := u, t := t, busy := m, weight := 5, k := k, srcs := [⟨a, m⟩] }
      e.1.wellFormed = true → s.VecReady v o → exec e.1 s = .next (s.afterVector v o)) ∧
    (∀ e ∈ ([(.vdqntMx8 u n k t d a b, 8), (.vdqntMx6 u n k t d a b, 6), (.vdqntMx4 u n k t d a b, 4)] : List (Instr × Nat)),
      let src := (m + 3) / 4
      let rs := (List.range m).map (fun j => (List.range 64).map (fun i => if s.on k i then
        deliver 24 0 false (decodeMx e.2 (s.lane a src 8 (j / 4) (64 * (j % 4) + i)) (s.lane b 1 8 0 (2 * j + i / 32))) else (0, 0)))
      let o := regOut c d (rs.map (fun r => (packLanes 32 (r.map Prod.fst), laneBytes 32 (c.kVal k)))) (some (unionFlags (rs.flatten.map Prod.snd)))
      let v : VWord := { u := u, t := t, busy := m, weight := 5, k := k, dst := d, dstRange := groupLines c d m, srcs := [⟨a, src⟩, ⟨b, 1⟩] }
      e.1.wellFormed = true → s.VecReady v o → exec e.1 s = .next (s.afterVector v o)) ∧
    (∀ e ∈ ([(.vplnMx8 u n t d a, 8), (.vplnMx6 u n t d a, 6), (.vplnMx4 u n t d a, 4)] : List (Instr × Nat)),
      let bytes := runNat (operandRegs s c a m)
      let rows := (List.range (4 * m)).map (fun r => packNat 128 ((List.range (e.2 / 2)).map (fun j =>
        packNat 2 ((List.range 64).map (fun x => bytes / 2 ^ (8 * (64 * r + x)) % 256 % 2 ^ e.2 / 4 ^ j % 4)))))
      let ls := runToLines (packNat (64 * e.2) rows) (32 * m * e.2)
      let o := runOut c d ls none
      let v : VWord := { u := u, t := t, busy := m, weight := 5, dst := d
                         dstRange := (List.range ls.length).map (fun i => regLine c d (i / 2) + i % 2), srcs := [⟨a, m⟩] }
      e.1.wellFormed = true → s.VecReady v o → exec e.1 s = .next (s.afterVector v o)) ∧
    (∀ e ∈ ([(.vuplnMx8 u n t d a, 8), (.vuplnMx6 u n t d a, 6), (.vuplnMx4 u n t d a, 4)] : List (Instr × Nat)),
      let src := (32 * m * e.2 + 255) / 256
      let run := runNat (operandRegs s c a src)
      let row := fun (r : Nat) => (List.range 64).map (fun x => (sextN e.2 (((List.range (e.2 / 2)).map (fun j =>
        run / 2 ^ (64 * e.2 * r) % 2 ^ (64 * e.2) / 2 ^ (128 * j + 2 * x) % 4 * 4 ^ j)).foldl (· + ·) 0) % 256).toNat)
      let o := regOut c d ((List.range m).map (fun j =>
        (packLanes 8 ((((List.range (4 * m)).map row).drop (4 * j)).take 4).flatten, BitVec.allOnes 256))) none
      let v : VWord := { u := u, t := t, busy := m, weight := 5, dst := d, dstRange := groupLines c d m, srcs := [⟨a, src⟩] }
      e.1.wellFormed = true → s.VecReady v o → exec e.1 s = .next (s.afterVector v o))

/-- R258 to R266: the approximate functions, the reductions, VSCAN and VTOPK issue with the results that their rules give. R266: the reduction's order of candidates is a strict order on those that are no NaN: what VTOPK keeps is sorted by it.
It rests on the model's own choices: log 51. -/
def Obligations.VectorReductions : Prop :=
  (∀ (s : State) (u : VUnit) (n : BitVec 2) (k : BitVec 3) (t : BitVec 1) (d a x : BitVec 6),
    let c := s.ctx
    let m := 2 ^ n.toNat
    let fpm := c.sys.fpm
    let ftz := fpm.getLsbD 2
    (∀ e ∈ ([(.vrcpa u n k t d a, rcpLane ftz), (.vrsqa u n k t d a, rsqLane ftz), (.vexp2a u n k t d a, exp2Lane ftz),
        (.vlog2a u n k t d a, log2Lane ftz)] : List (Instr × (Nat → Nat × Flags))),
      let o := s.lanesOut k d m 32 true (fun j i => e.2 (s.lane a m 32 j i))
      let v : VWord := { u := u, t := t, busy := 2 * m, weight := 4, k := k, dst := d, dstRange := groupLines c d m, srcs := [⟨a, m⟩] }
      e.1.wellFormed = true → s.VecReady v o → exec e.1 s = .next (s.afterVector v o)) ∧
    (∀ e ∈ ([(.vrsumF32 u n k t d a, 5, true, leafF ftz, arith2 24 fpm addF, 0), (.vrsumI32 u n k t d a, 3, false, fun v => (v, 0),
          fun p q => ((p + q) % 2 ^ 32, 0), 0), (.vrmaxF32 u n k t d a, 5, true, leafF ftz, chooseF 24 true ftz, 0xFF800000),
          (.vrminF32 u n k t d a, 5, true, leafF ftz, chooseF 24 false ftz, 0x7F800000)]
        : List (Instr × Nat × Bool × (Nat → Nat × Flags) × (Nat → Nat → Nat × Flags) × Nat)),
      let one := fun (v : VReg) =>
        let ls := (List.range 64).map (fun i => if s.on k i then (some (e.2.2.2.1 (laneAt 32 v i)).1, (e.2.2.2.1 (laneAt 32 v i)).2) else (none, 0))
        let r := reduceTree e.2.2.2.2.1 6 (ls.map Prod.fst)
        (r.1.getD e.2.2.2.2.2, unionFlags (r.2 :: ls.map Prod.snd))
      let rs := (operandRegs s c a m).map one
      let o := runOut c d [(BitVec.ofNat 1024 (packNat 32 (rs.map Prod.fst)), BitVec.allOnes 128)]
        (if e.2.2.1 then some (unionFlags (rs.map Prod.snd)) else none)
      let v : VWord := { u := u, t := t, busy := m, weight := e.2.1, k := k, dst := d, dstRange := [regLine c d 0], srcs := [⟨a, m⟩] }
      e.1.wellFormed = true → s.VecReady v o → exec e.1 s = .next (s.afterVector v o)) ∧
    (let o := regOut c d ((operandRegs s c a m).map (fun v => (packLanes 32 (scanLanes (c.kVal k) v 64 0 0), laneBytes 32 (c.kVal k)))) none
     let v : VWord := { u := u, t := t, busy := m, weight := 3, k := k, dst := d, dstRange := groupLines c d m, srcs := [⟨a, m⟩] }
     (Instr.vscanI32 u n k t d a).wellFormed = true → s.VecReady v o → exec (.vscanI32 u n k t d a) s = .next (s.afterVector v o)) ∧
    (let top := (c.xVal x).toNat
     let cand := ((List.range m).map (fun j => (List.range 64).filterMap (fun i =>
       if s.on k i then some (flushIn 24 ftz (s.lane a m 32 j i), 64 * j + i) else none))).flatten
     let best := (cand.filter (fun e => !(decodeF 24 e.1).isNan)).foldl (fun l e => (insertTop e l).take top) []
     let o := regOut c d
       [(packLanes 32 ((List.range 64).map (fun i => match (if i < top then best[i]? else none) with | some e => e.1 | none => 0xFF800000)), BitVec.allOnes 256),
        (packLanes 32 ((List.range 64).map (fun i => match (if i < top then best[i]? else none) with | some e => e.2 | none => 0xFFFFFFFF)), BitVec.allOnes 256)]
       (some (if (cand.filter (fun e => (decodeF 24 e.1).isNan)).isEmpty then 0 else flagNV))
     let v : VWord := { u := u, t := t, busy := m, weight := 5, k := k, xs := [x], dst := d, dstRange := groupLines c d 2, srcs := [⟨a, m⟩] }
     (Instr.vtopkF32 u n k t d a x).wellFormed = true → 1 ≤ top → top ≤ 64 → s.VecReady v o →
       exec (.vtopkF32 u n k t d a x) s = .next (s.afterVector v o)))
  ∧ (∀ (cand : List (Nat × Nat)) (top : Nat), (∀ e ∈ cand, e.1 < 2 ^ 32) → (cand.map Prod.snd).Nodup →
    let best := cand.foldl (fun l e => (insertTop e l).take top) []
    best.Pairwise (fun x y => topBefore x y = true) ∧ best.length = min top cand.length ∧
      ∀ x ∈ cand, x ∉ best → ∀ y ∈ best, topBefore y x = true)

/-- R267 to R275: the permutes, VROTL, VZIP and VUNZIP, VXTR and VINS, VLTLD and VLUT. -/
def Obligations.VectorMoves : Prop :=
  ∀ (s : State) (u : VUnit) (n : BitVec 2) (k : BitVec 3) (t : BitVec 1) (d a b x y : BitVec 6),
    let c := s.ctx
    let m := 2 ^ n.toNat
    (∀ e ∈ ([(.vperm32 u n k t d a b, 32), (.vperm16 u n k t d a b, 16), (.vperm8 u n k t d a b, 8)] : List (Instr × Nat)),
      let w := e.2
      let o := regOut c d ((List.range m).map (fun j => (packLanes w ((List.range (2048 / w)).map (fun i =>
        s.lane a m w j (s.lane b m w j i % (2048 / w)))), laneBytes w (c.kVal k)))) none
      let v : VWord := { u := u, t := t, busy := m, weight := 3, k := k, dst := d, dstRange := groupLines c d m, srcs := [⟨a, m⟩, ⟨b, m⟩] }
      e.1.wellFormed = true → s.VecReady v o → exec e.1 s = .next (s.afterVector v o)) ∧
    (let o := regOut c d ((operandRegs s c a m).map (fun v => (packLanes 32 ((List.range 64).map (fun i =>
       laneAt 32 v ((i + (c.xVal x).toNat % 64) % 64))), laneBytes 32 (c.kVal k)))) none
     let v : VWord := { u := u, t := t, busy := m, weight := 3, k := k, xs := [x], dst := d, dstRange := groupLines c d m, srcs := [⟨a, m⟩] }
     (Instr.vrotl32 u n k t d a x).wellFormed = true → s.VecReady v o → exec (.vrotl32 u n k t d a x) s = .next (s.afterVector v o)) ∧
    (∀ e ∈ ([(.vzip32 u n t d a b, fun j h l => s.lane (if l % 2 = 0 then a else b) m 32 j (32 * h + l / 2)),
        (.vunzip32 u n t d a b, fun j h l => if 2 * l + h < 64 then s.lane a m 32 j (2 * l + h) else s.lane b m 32 j (2 * l + h - 64))]
        : List (Instr × (Nat → Nat → Nat → Nat))),
      let o := regOut c d ((List.range (2 * m)).map (fun h => (packLanes 32 ((List.range 64).map (e.2 (h / 2) (h % 2))), BitVec.allOnes 256))) none
      let v : VWord := { u := u, t := t, busy := m, weight := 3, dst := d, dstRange := groupLines c d (2 * m), srcs := [⟨a, m⟩, ⟨b, m⟩] }
      e.1.wellFormed = true → (∀ l ∈ groupLines c a m ++ groupLines c b m, l ∉ groupLines c d (2 * m)) → s.VecReady v o →
        exec e.1 s = .next (s.afterVector v o)) ∧
    (let o : VOut := { xreg := some (d, BitVec.ofNat 64 (s.lane a 1 32 0 ((c.xVal x).toNat % 64))) }
     let v : VWord := { u := u, t := t, busy := 1, weight := 3, xs := [x], srcs := [⟨a, 1⟩] }
     (Instr.vxtr32 u t d a x).wellFormed = true → s.VecReady v o → exec (.vxtr32 u t d a x) s = .next (s.afterVector v o)) ∧
    (let i := (c.xVal x).toNat % 64
     let v : VReg := BitVec.ofNat 2048 ((c.xVal y).toNat % 2 ^ 32 * 2 ^ (32 * i))
     let bytes : BitVec 256 := if s.on k i then BitVec.ofNat 256 (15 * 2 ^ (4 * i)) else 0
     let o : VOut := {
       lines := [⟨regLine c d 0 + i / 32, (v >>> (1024 * (i / 32))).setWidth 1024, (bytes >>> (128 * (i / 32))).setWidth 128⟩]
       bypass := some (bypassValue v bytes) }
     let w : VWord := { u := u, t := t, busy := 1, weight := 3, k := k, xs := [x, y], dst := d, dstRange := groupLines c d 1
                        srcs := [⟨d, 1⟩], readsD := true }
     (Instr.vins32 u k t d x y).wellFormed = true → s.VecReady w o → exec (.vins32 u k t d x y) s = .next (s.afterVector w o)) ∧
    (let r := (nthReg (operandRegs s c a 1) 0).toNat
     let o : VOut := { ctab := some #v[BitVec.ofNat 64 r, BitVec.ofNat 64 (r / 2 ^ 64), BitVec.ofNat 64 (r / 2 ^ 128), BitVec.ofNat 64 (r / 2 ^ 192)] }
     let v : VWord := { u := u, t := t, busy := 1, weight := 3, srcs := [⟨a, 1⟩] }
     (Instr.vltld u t a).wellFormed = true → s.VecReady v o → exec (.vltld u t a) s = .next (s.afterVector v o)) ∧
    (let src := (m + 3) / 4
     let run := runNat (operandRegs s c a src)
     let entry := fun (i : Nat) => (c.sys.ctab[i / 4]?.getD 0).toNat / 2 ^ (16 * (i % 4)) % 65536
     let o := regOut c d ((List.range m).map (fun j => (packLanes 16 ((List.range 128).map (fun i =>
       entry (run / 2 ^ (4 * (128 * j + i)) % 16))), laneBytes 16 (c.kVal k)))) none
     let v : VWord := { u := u, t := t, busy := m, weight := 5, k := k, dst := d, dstRange := groupLines c d m, srcs := [⟨a, src⟩] }
     (Instr.vlutBf16 u n k t d a).wellFormed = true → s.VecReady v o → exec (.vlutBf16 u n k t d a) s = .next (s.afterVector v o))

/-- R276 to R279: a gather or scatter whose capability allows every enabled lane and whose pages are at hand: a gather empties its lines and
puts each enabled lane in the load queue as one request, a scatter puts one store for each enabled lane in the store queue, in order of register and lane.
It rests on the model's own choices: log 54. -/
def Obligations.GatherScatter : Prop :=
  ∀ (s : State) (n : BitVec 2) (k : BitVec 3) (t : BitVec 1) (d a : BitVec 6) (cr : BitVec 5) (place : Nat → Nat → MAddr),
    let c := s.ctx
    let cap := c.cVal cr
    let m := 2 ^ n.toNat
    let lanes := fun (z : Nat) => ((List.range m).map (fun j => (List.range (256 / z)).filterMap (fun i => if s.on k i then some (j, i) else none))).flatten
    let address := fun (z j i : Nat) =>
      BitVec.ofInt 64 (cap.cursor.toNat + sextN 32 (s.lane a (m * 4 / z) 32 ((256 / z * j + i) / 64) ((256 / z * j + i) % 64)) * z)
    let ready := fun (p : Perm) (z : Nat) =>
      c.cReady cr ∧ cap.tag = true ∧ cap.otype = 0 ∧ cap.has p = true ∧ 1 ≤ cap.space.toNat ∧ cap.space.toNat ≤ 3 ∧ cap.cursor.toNat % z = 0 ∧
      (cap.space = 1 ∨ (c.sys.world = 0 ∧ stale s cap (cap.cursor.toNat / 2 ^ 40) = false)) ∧ s.outstanding + (lanes z).length ≤ 1024 ∧
      ∀ l ∈ lanes z, (boundsOf cap).1 ≤ (address z l.1 l.2).toNat ∧ (address z l.1 l.2).toNat + z ≤ (boundsOf cap).2 ∧
        s.Reaches cap (address z l.1 l.2) z (place l.1 l.2)
    let later := fun (z : Nat) => laterReads c s.cr.cyc 1 (4 / z) ⟨a, m * 4 / z⟩
    (∀ e ∈ ([(.vgath32 n k t d a cr, 4), (.vgath16 n k t d a cr, 2)] : List (Instr × Nat)),
      let z := e.2
      let o := regOut c d ((List.range m).map (fun _ => (0, laneBytes (8 * z) (c.kVal k)))) none
      let at_ := fun (l : Nat × Nat) => l.1 * (256 / z) + l.2
      let waiting := o.lines.zipIdx.map (fun l => ({
        index := l.2, write := { line := physLine c l.1.rel, data := 0, mask := l.1.mask }
        lanes := ((lanes z).map at_).filter (fun i => i * z / 128 = l.2), last := decide (2 * (m - 1) ≤ l.2) } : GatherLine))
      e.1.wellFormed = true → ready .ld z →
      s.VecReady { u := .a, t := t, busy := m, weight := 3, k := k, dst := d, dstRange := groupLines c d m, srcs := [⟨a, m * 4 / z⟩] } o →
      exec e.1 s = .next (s.afterWord .va 0 (some (m, 3)) .fall [] (fun u =>
        let u := (lanes z).foldl (fun u l => u.touched (place l.1 l.2) false) u
        let u := o.lines.foldl (fun u l => u.setFull (relKey u c l.rel) false) u
        let u : State := { u with cr := { u.cr.takeBypass .a with reads := u.cr.reads ++ later z } }
        (lanes z).foldl (fun w l => enqueue (.gather (at_ l) (place l.1 l.2) z u.nextId) false w)
          (u.addFlight .va u.cr.cur (u.cr.cyc + m + 4) (.gather waiting 0 true))))) ∧
    (∀ e ∈ ([(.vscat32 n k t d a cr, 4), (.vscat16 n k t d a cr, 2)] : List (Instr × Nat)),
      let z := e.2
      e.1.wellFormed = true → ready .st z → (∀ l ∈ lanes z, s.mayWrite (place l.1 l.2)) →
      s.VecReady { u := .a, t := t, busy := m, weight := 3, k := k, readsD := true, srcs := [⟨a, m * 4 / z⟩, ⟨d, m⟩] } {} →
      exec e.1 s = .next (s.afterWord .va 0 (some (m, 3)) .fall [] (fun u =>
        let u := (lanes z).foldl (fun u l => u.touched (place l.1 l.2) true) u
        let u : State := { u with cr := { u.cr with reads := u.cr.reads ++ later z ++ laterReads c u.cr.cyc 1 1 ⟨d, m⟩ } }
        (lanes z).foldl (fun w l => enqueueLane u.nextId (.store (place l.1 l.2) (leBytes z (s.lane d m (8 * z) l.1 l.2)) 0) (capRange cap) w) u)))

/-- R49, R53 to R55, R237, R254, R270 and R273: from the issue of a vector word at cycle c, b cycles long, its destination lines, its bypass
register and its mask are empty, and its results are in flight: bypass and mask to land at c + b + 1, lines, flags, AMAX and a scalar result
at c + b + 4; CTAB is written at once.
It rests on the model's own choices: log 42, 43, 54. -/
def Obligations.VectorLaunch : Prop :=
  ∀ (s : State) (w : VWord) (o : VOut),
    let t := launchVector s.ctx w o s
    let flying := fun (due : Nat) (what : Landing) => ∃ f ∈ t.cr.flights, f.k = s.cr.cur ∧ f.due = s.cr.cyc + w.busy + due ∧ f.what = what
    (∀ d ∈ o.lines, (t.metaAt (relKey s s.ctx d.rel)).full = false) ∧
    (∀ v, o.bypass = some v → (t.cr.bypass w.u).full = false ∧ flying 1 (.bypass w.u v)) ∧
    (∀ r v, o.mask = some (r, v) → (r ≠ 0 → t.ctx.kEmpty r = true) ∧ flying 1 (.mask r v)) ∧
    (o.lines ≠ [] → flying 4 (.lines (o.lines.map (fun d => { line := physLine s.ctx d.rel, data := d.data, mask := d.mask })))) ∧
    (∀ f, o.flags = some f → flying 4 (.fstat f)) ∧ (∀ v, o.amax = some v → flying 4 (.amax v)) ∧
    (∀ r v, o.xreg = some (r, v) → (r ≠ 0 → t.ctx.xEmpty r = true) ∧ flying 4 (.xreg r v)) ∧
    (∀ v, o.ctab = some v → t.ctx.sys.ctab = v) ∧
    (∀ r, t.ctx.xVal r = s.ctx.xVal r) ∧ t.scratch = s.scratch ∧ t.hbm = s.hbm ∧ t.pool = s.pool ∧ t.host = s.host

/-- R282 to R286, R290 and R294 to R311: the matrix words whose tile is in the allotment and free (an MMA may follow MMAs), whose lines can be
read or written and whose engine is free issue, busy as long as their rule says, with their tile results or lines in flight.
It rests on the model's own choices: log 41, 55. -/
def Obligations.MatrixWords : Prop :=
  ∀ (s : State) (a b : BitVec 4) (t v : BitVec 6) (g cf ff : BitVec 4),
    let c := s.ctx
    let sa := c.s[a.toNat]
    let sb := c.s[b.toNat]
    let tile := c.sys.tilesFirst.toNat + t.toNat
    let busy := (g.toNat + 1) * fmtPlanes sa.fmt
    let lines := (mmaLines sa sb (g.toNat + 1)).eraseDups
    let free := s.cr.tileBusy tile = false
    let after := fun (busy weight : Nat) (f : State → State) => s.afterWord .m 0 (some (busy, weight)) .fall [] f
    s.cr.engineFree .m → t.toNat < c.sys.tilesCount.toNat → s.mergeReads tile = false →
    (∀ e ∈ ([(.mma a b t g, false), (.mmaOw a b t g, true)] : List (Instr × Bool)),
      3 ≤ sa.fmt.toNat → sa.fmt.toNat ≤ 5 → sb.fmt.toNat ≤ 2 → (∀ l ∈ lines, s.lineReady l) → (free ∨ s.cr.tileMmaOnly tile = true) → e.1.wellFormed = true →
      exec e.1 s = .next (after busy (if sb.fmt = 2 then 36 else 32) (fun u =>
        ({ u with cr := { u.cr with reads := u.cr.reads ++ lines.map (fun l => (physLine c l, u.cr.cyc + busy)) } } : State).addFlight .m u.cr.cur
          (u.cr.cyc + busy + 12) (.mma tile e.2 (mmaRows s c sa sb (g.toNat + 1)) busy c.sys.rchk false c.pc.toNat t)))) ∧
    (free → ∀ e ∈ ([(.mzero t, false), (.mres t, true)] : List (Instr × Bool)), e.1.wellFormed = true →
      exec e.1 s = .next (after 1 2 (fun u => u.addFlight .m u.cr.cur (u.cr.cyc + 1) (.tileClear tile e.2)))) ∧
    (let n := cf.toNat + 1
     let first := 4 * ff.toNat
     let row := s.tileRow s.g tile
     let bf := fun (r : VReg) => packNat 16 ((lanesOf 32 r).map (fun x => (nebf16 (BitVec.ofNat 32 x)).toNat))
     let best := fun (r : VReg) => (lanesOf 32 r).foldl (fun m x => (chooseF 24 true false m x).1) 0xFF800000
     free → ∀ e ∈ ([(.mrdF32 v t cf ff, 4 * n, (List.range (4 * n)).map (fun m => row (first + m))),
         (.mrdBf16 v t cf ff, 2 * n, (List.range (2 * n)).map (fun m =>
           BitVec.ofNat 2048 (bf (row (first + 2 * m)) + 2 ^ 1024 * bf (row (first + 2 * m + 1))))),
         (.mrowmax v t cf ff, n, [packLanes 32 ((List.range 64).map (fun i =>
           if first ≤ i ∧ i < first + 4 * n then best (row i) else 0xFF800000))])] : List (Instr × Nat × List VReg)),
       let out := regLines c v (e.2.2.map (fun r => (r, BitVec.allOnes 256)))
       let rels := groupLines c v e.2.2.length
       e.1.wellFormed = true → (∀ l ∈ rels, l < c.sys.allocSize.toNat ∧ s.destReady ⟨l, 0, BitVec.allOnes 128⟩) →
       exec e.1 s = .next (after e.2.1 6 (fun u =>
         let u := rels.foldl (fun u l => u.setFull (relKey u c l) false) u
         let u := u.addFlight .m u.cr.cur (s.cr.cyc + e.2.1 + 4) (.lines (out.map (fun d => { line := physLine c d.rel, data := d.data, mask := d.mask })))
         u.addFlight .m u.cr.cur (s.cr.cyc + e.2.1 + 4) (.tileFree tile)))) ∧
    (let n := cf.toNat + 1
     let first := 4 * ff.toNat
     let scale := nthReg (operandRegs s c v 1) 0
     free → ∀ e ∈ ([(.mwrF32 v t cf ff, 4 * n, 4 * n, (operandRegs s c v (4 * n)).zipIdx.map (fun r => (first + r.2, r.1))),
         (.mscl v t cf ff, n, 1, (List.range (4 * n)).map (fun m => (first + m, packLanes 32 ((lanesOf 32 (s.tileRow s.g tile (first + m))).map (fun x =>
           (mul32 (BitVec.ofNat 32 x) (BitVec.ofNat 32 (laneAt 32 scale (first + m)))).toNat)))))] : List (Instr × Nat × Nat × List (Nat × VReg))),
       e.1.wellFormed = true → s.sourceReady ⟨v, e.2.2.1⟩ → (∀ l ∈ groupLines c v e.2.2.1, l < c.sys.allocSize.toNat) →
       exec e.1 s = .next (after e.2.1 6 (fun u =>
         ({ u with cr := { u.cr with reads := u.cr.reads ++ laterReads c u.cr.cyc (e.2.1 / max 1 e.2.2.1) 1 ⟨v, e.2.2.1⟩ } } : State).addFlight .m
           u.cr.cur (u.cr.cyc + e.2.1 + 4) (.tileRows tile e.2.2.2))))

/-- R317 to R347: a copy command that has all it needs enters the buffer of its core: its destination lines become empty, its descriptor is
taken as it stands, and its tracker entry counts it; PREF of a legal extent asks for its pages where the checks pass and changes nothing else; CFLUSH cancels its tag's commands that wait for
their time. R317, R319, R323 and R331: what a copy's entry holds after it entered the buffer.
It rests on the model's own choices: log 99, 107, 195, 197. -/
def Obligations.CopyWords : Prop :=
  (∀ (s : State) (u : CUnit) (dn : BitVec 4) (q r : BitVec 1) (sc : BitVec 3) (m : BitVec 1) (x : BitVec 6) (g : BitVec 8) (place : Option ArrRef),
    let d := s.ctx.desc dn
    (∀ e ∈ ([(.getc u dn q r sc m x g, .get), (.putc u dn q r sc m x g, .put), (.getp u dn q r sc m x g, .getp),
        (.xfer u dn q r sc m x g, .xfer), (.putr u dn q r sc m x g, .putr)] : List (Instr × CopyOp)),
      e.1.wellFormed = true → s.CopyReady e.2 u dn q r sc x place →
        exec e.1 s = .next (s.afterWord (cslot u) 2 none .fall [] (startCopy e.2 (cslot u).index d (q = 1) (r = 1) (m = 1) sc g place
          (copyRange s s.ctx e.2 d)))) ∧
    ((Instr.bget u dn m x g).wellFormed = true → s.CopyReady .bget u dn 0 0 0 x place →
      exec (.bget u dn m x g) s = .next (s.afterWord (cslot u) 2 none .fall [] (startCopy .bget (cslot u).index d false false (m = 1) 0 g place
        (copyRange s s.ctx .bget d)))) ∧
    ((Instr.pref u dn).wellFormed = true → d.len ≠ 0 → max d.rows.toNat 1 * d.len.toNat ≤ 2 ^ 24 →
      exec (.pref u dn) s = .next (s.afterWord (cslot u) 2 none .fall [] (prefetch d))) ∧
    ((Instr.cflush u g).wellFormed = true → exec (.cflush u g) s = .next (s.afterWord (cslot u) 2 none .fall [] (fun t =>
      (t.cr.copies.filter (fun o => o.k == t.cr.cur && o.phase == .timed && o.tag == g)).foldl (fun t o => cancelCopy o t) t))))
  ∧ (∀ (s : State) (op : CopyOp) (slot : Nat) (d : Desc) (acq rel timed : Bool) (sc : BitVec 3) (tag : BitVec 8) (ref : Option ArrRef) (range : Range),
    let t := startCopy op slot d acq rel timed sc tag ref range s
    ∃ m, t.cr.copies = s.cr.copies ++ [m] ∧ m.id = s.nextId ∧ t.nextId = s.nextId + 1 ∧ m.k = s.cr.cur ∧ m.op = op ∧ m.desc = d ∧ m.tag = tag ∧
      m.ref = ref ∧ m.rel = rel ∧ m.acq = (if acq then some sc else none) ∧ m.bytesLeft = d.nrows op * d.len.toNat ∧ m.acks = [] ∧
      m.phase = (if timed = true ∧ (lclk s.tnow s.ctx).toNat < d.time.toNat then .timed else .eligible s.tnow.toNat) ∧
      (op.fillsLines = true → ∀ l ∈ d.localLines op, (t.metaAt (relKey s s.ctx l)).full = false) ∧
      (op.fillsLines = false → t.lineMeta = s.lineMeta) ∧ t.scratch = s.scratch ∧ t.hbm = s.hbm ∧ t.pool = s.pool ∧ t.host = s.host)
  ∧ (∀ (s : State) (d : Desc),
    let t := prefetch d s
    let refused := (∃ l ∈ d.localLines .get, s.ctx.sys.allocSize.toNat ≤ l) ∨ (d.arrV = true ∧ s.ctx.sys.allocSize.toNat ≤ d.arrIdx.toNat / 8) ∨ ∃ f ∈ copyCapTraps s .get d, f ≠ none
    t = { s with prefs := t.prefs, rdc := t.rdc } ∧ (refused → t = s) ∧
    (∀ k a sp, ¬refused → d.cap.space = 2 ∧ sp = .local ∨ d.cap.space = 3 ∧ sp = .pool → k < d.nrows .get → d.rowAddr .get k ≤ a →
      a < d.rowAddr .get k + d.len.toNat → (s.leafOf (a / 2 ^ 40) (a % 2 ^ 40 / 65536)).state ≠ .resident →
      (s.g / 192, sp, a / 2 ^ 40, a % 2 ^ 40 / 65536) ∈ t.prefs))

/-- R380 and R381: FENCE whose capability fields that are not c0 hold valid capabilities, and FENCEALL, put their release, their acquire or both in
the queue (R371, R374); a release of no range is complete at issue. R364: LSYNC puts a mark in the queue that stays while a load before it has still to bind
or a store or atomic before it to be applied. R382 to R389: each atomic whose capability allows it and whose page is at hand marks xd empty and joins the
queue with its operands, behind its release and before its acquire; R387: what it stores, from the old value, xd before the bundle and xs.
It rests on the model's own choices: log 72. -/
def Obligations.FencesAndAtomics : Prop :=
  (∀ (s : State) (a b c : BitVec 5) (sc : BitVec 3) (kd : BitVec 2),
    let fenced := fun (ranges : Option (List Range)) (t : State) =>
      let rel := kd.getLsbD 0 = true
      let acq := kd.getLsbD 1 = true
      if rel ∧ ranges ≠ some [] then
        let u := startRelease sc ranges t
        if acq then enqueue (.acquire sc (some (u.nextId - 1))) true u else u
      else if acq then enqueue (.acquire sc none) true t
      else if rel ∧ 2 ≤ sc.toNat then t.endPins (clusterOf t.g) else t
    let fields := [a, b, c].filter (· != 0)
    ((Instr.fence a b c sc kd).wellFormed = true → (∀ y ∈ fields, s.ctx.cReady y ∧ (s.ctx.cVal y).tag = true) →
      exec (.fence a b c sc kd) s = .next (s.afterWord .y 2 none .fall [] (fenced (some (fields.map (fun y => capRange (s.ctx.cVal y))))))) ∧
    ((Instr.fenceall sc kd).wellFormed = true → exec (.fenceall sc kd) s = .next (s.afterWord .y 2 none .fall [] (fenced none))) ∧
    (exec .lsync s = .next (s.afterWord .y 2 none .fall [] (fun t =>
      (enqueue .lsync false t).modCtx (fun c => { c with mq := dropLsync c.mq })))))
  ∧ (∀ (l : List MemOp), (∀ o ∈ l, o.kind.isLsync = false → o.kind.binds = false ∧ o.kind.applies = false) →
    dropLsync l = l.filter (fun o => !o.kind.isLsync))
  ∧ (∀ (l r : List MemOp) (o : MemOp), (∀ p ∈ l, p.kind.isLsync = false ∧ p.kind.binds = false ∧ p.kind.applies = false) →
    (o.kind.binds = true ∨ o.kind.applies = true) → dropLsync (l ++ o :: r) = l ++ o :: r)
  ∧ (∀ (s : State) (a : BitVec 5) (sc : BitVec 3) (d x : BitVec 6) (q r : BitVec 1) (m : MAddr),
    let v := s.ctx.cVal a
    let val := fun (op : AtomOp) (y : BitVec 6) => if op = .acas2 then (s.ctx.xVal y).setWidth 128 ||| (s.ctx.xVal (y + 1)).setWidth 128 <<< 64
      else (s.ctx.xVal y).setWidth 128
    ∀ e ∈ ([(.aaddI32 d a x sc q r, .aaddI32), (.aaddI64 d a x sc q r, .aaddI64), (.aminI64 d a x sc q r, .aminI64), (.amaxI64 d a x sc q r, .amaxI64),
        (.aminnN64 d a x sc q r, .aminnN64), (.amaxnN64 d a x sc q r, .amaxnN64), (.aand d a x sc q r, .aand), (.aor d a x sc q r, .aor),
        (.axor d a x sc q r, .axor), (.axchg d a x sc q r, .axchg), (.acas d a x sc q r, .acas), (.acas2 d a x sc q r, .acas2),
        (.afaddF32 d a x sc q r, .afaddF32)] : List (Instr × AtomOp)),
      let op := e.2
      let both := fun (y : BitVec 6) => if op = .acas2 then [y, y + 1] else [y]
      e.1.wellFormed = true → s.ctx.cReady a → (∀ y ∈ both x, s.ctx.xReady y) → (∀ y ∈ both d, s.ctx.xEmpty y = false) →
      (op = .acas ∨ op = .acas2 → ∀ y ∈ both d, s.ctx.xPoison y = false) → s.outstanding < 1024 →
      v.allows .atom (if s.cxl ∨ op = .acas ∨ op = .acas2 then [.scratch, .local, .pool, .host] else [.scratch, .local, .pool]) v.cursor op.size →
      s.Reaches v v.cursor op.size m → s.mayWrite m →
        exec e.1 s = .next (s.afterWord .y 2 none .fall [] (fun t =>
          let t := (t.modCtx (fun k => (both d).foldl Ctx.emptyX k)).touched m true
          let t := if r = 1 then startRelease sc none t else t
          let t := enqueueTracked (.atomic op m sc d (val op d) (val op x)) .atomic (capRange v) t
          if q = 1 then enqueue (.acquire sc none) true t else t)))
  ∧ (∀ m xd xs : BitVec 128,
    let a := m.toNat % 2 ^ 64
    let b := xs.toNat % 2 ^ 64
    let num := fun (n : Nat) => BitVec.ofNat 128 n
    ∀ e ∈ ([(.aaddI32, num ((m.toNat + xs.toNat) % 2 ^ 32)), (.aaddI64, num ((a + b) % 2 ^ 64)),
        (.aminI64, num (if sextN 64 b < sextN 64 a then b else a)), (.amaxI64, num (if sextN 64 a < sextN 64 b then b else a)),
        (.aminnN64, num (min a b)), (.amaxnN64, num (max a b)), (.aand, num (a &&& b)), (.aor, num (a ||| b)), (.axor, num (a ^^^ b)), (.axchg, num b),
        (.acas, num (if a = xd.toNat % 2 ^ 64 then b else a)), (.acas2, if m = xd then xs else m),
        (.afaddF32, num (add32 (BitVec.ofNat 32 m.toNat) (BitVec.ofNat 32 xs.toNat)).toNat)] : List (AtomOp × BitVec 128)),
      e.1.newValue m xd xs = e.2)

/-- R102, R351, R352, R413, R434 to R438, R501 and R510: AINIT, ARRIVE, SIGNAL, HWIN, HARV, LACQ, LRENEW and LREL whose operands are at hand and
pass the checks mark xd empty and put their work in the queue; an impossible range or an unknown token answers at once.
It rests on the model's own choices: log 73, 74. -/
def Obligations.ObjectWords : Prop :=
  ∀ (s : State) (d a x n : BitVec 6) (num im : BitVec 12) (cr : BitVec 5) (obj : ArrRef),
    let c := s.ctx
    let v := c.cVal cr
    let after := fun (f : State → State) => s.afterWord .y 2 none .fall [] f
    let empty := fun (t : State) => t.modCtx (fun k => k.emptyX d)
    let ring := (s.tenant c.sys.tenant).ring
    let range := capRange v
    let sent : LeaseSent := { now := s.tnow, lt := s.lt, gen := v.gen }
    let behind := fun (op : Nat → MemKind) (t : State) =>
      let u := startRelease 4 (some [range]) (empty t)
      enqueue (op (u.nextId - 1)) false u
    let leased := c.xReady x ∧ c.xEmpty d = false ∧ c.cReady cr ∧ v.tag = true ∧ v.otype = 0 ∧ v.has .lease = true ∧ v.space = 3 ∧
      stale s v (v.cursor.toNat / 2 ^ 40) = false
    (c.xReady a → resolveRef s c (s.placementOf c) (c.xVal a) = .at obj → num ≠ 0 → exec (.ainit a num) s = .next (after (enqueue (.ainit obj num) false))) ∧
    (c.xReady a → resolveRef s c (s.placementOf c) (c.xVal a) = .at obj → n ≠ 0 → c.xReady x → c.xEmpty d = false →
      -(2 ^ 39) ≤ (c.xVal x).toInt → (c.xVal x).toInt < 2 ^ 39 → exec (.arrive d a x n) s =
        .next (after (fun t => enqueue (.arrive obj d n (c.xVal x).toInt c.pc.toNat (arriveWaits (empty t))) false (empty t)))) ∧
    (c.xReady a → ring.isFull = false → ring.overflow = [] →
      exec (.signal a im) s = .next (after (fun t => enqueue (.signal ring.pi (.signal c.sys.tenant c.sys.launch c.sys.gang c.sys.task c.sys.stage
        c.pc.toNat im (if c.sys.world = 0 then c.xVal a else 0) s.tnow)) false (t.modTenant c.sys.tenant (fun te => { te with ring := te.ring.reserve }))))) ∧
    (∀ w, c.cReady cr → c.xEmpty d = false → c.sys.world = 0 → v.tag = true → v.otype = 0 → v.has .st = true → v.space = 2 →
      s.windowOf c.sys.tenant v = some w → stale s v (v.cursor.toNat / 2 ^ 40) = false →
      exec (.hwin d cr) s = .next (after (fun t => enqueue (.hwin d w t.tnow.toNat) true (empty t)))) ∧
    (leased → (c.xVal x).toNat < 65536 → (tabGet (s.tenant c.sys.tenant).lists (c.xVal x).toNat).isSome = true →
      exec (.harv d cr x) s = .next (after (behind (.harv d range (c.xVal x).toNat)))) ∧
    (leased → (c.xVal x).toNat ≤ 2 ^ 20 → ∀ e ∈ ([(.lacqR d cr x, false), (.lacqW d cr x, true)] : List (Instr × Bool)),
      exec e.1 s = .next (after (fun t => if range.pages = none then t.modCtx (fun k => k.setX d 3)
        else enqueue (.lease 0 d range e.2 (if c.xVal x = 0 then 2000 else c.xVal x) sent none) true (empty t)))) ∧
    (leased → s.heldLease c.sys.tenant range (c.xVal x) = none → exec (.lrenew d cr x) s = .next (after (fun t => t.modCtx (fun k => k.setX d 1)))) ∧
    (∀ l, leased → s.heldLease c.sys.tenant range (c.xVal x) = some l → exec (.lrenew d cr x) s = .next (after (fun t =>
      let u := enqueue (.lease 1 d range false (c.xVal x) sent none) false (empty t)
      { u with renewals := u.renewals ++ [{ id := t.nextId, tenant := l.tenant, obj := l.obj, page := l.page, count := l.count, token := l.token
                                            sent := sent, hw := false }] }))) ∧
    (leased → exec (.lrel d cr x) s = .next (after (behind (fun rel => .lease 2 d range false (c.xVal x) sent (some rel)))))

/-- R467 and R475 to R478: SEAL and OPEN in a protected world, of lines that may be taken, into or from a writable or readable region that is
held: the lines become empty, a SEAL takes the next minor counters of its region, and the command joins the cipher unit. R477 and R478: what the start of a SEAL or OPEN leaves: empty lines, one more command in the unit, and for a SEAL each line's minor counter one
higher, with the new counters in the command; from a line whose counter stands at 255 on the counters are left to a re-key, which the region asks
for.
It rests on the model's own choices: log 128. -/
def Obligations.SealAndOpen : Prop :=
  (∀ (s : State) (xa xb : BitVec 6) (cr : BitVec 5) (r : Nat) (g : Region),
    let c := s.ctx
    let v := c.cVal cr
    let a := v.cursor.toNat
    let l := (c.xVal xa).toNat
    let n := (c.xVal xb).toNat
    let w := c.sys.world
    w ≠ 0 → c.xReady xa → c.xReady xb → c.cReady cr → l < 2 ^ 15 → 1 ≤ n → n ≤ 2048 → v.tag = true → v.otype = 0 → v.space = 2 ∨ v.space = 3 →
    (boundsOf v).1 ≤ a → a + 128 * n ≤ (boundsOf v).2 → a % 128 = 0 → stale s v (a / 2 ^ 40) = false → s.rangeRegion w a n = some (r, g) →
    g.state ≠ 0 → g.state ≠ 2 → g.state ≠ 3 → s.cr.cipherOf s.cr.cur < 4 → (∀ i < n, l + i < c.sys.allocSize.toNat ∧ s.lineFree (l + i)) →
    (v.has .cpout = true → g.kind ≠ 3 → (∀ i < n, (s.metaAt (relKey s c (l + i))).form = .plain) →
      exec (.sealLines xa xb cr) s = .next (s.afterWord .y 2 none .fall [] (startCipher false l n w r (g.index a)))) ∧
    (v.has .cpin = true → (g.kind = 3 → a % 4096 = 0 ∧ n % 32 = 0) → (∀ i < n, (s.metaAt (relKey s c (l + i))).form = .cipher) →
      exec (.openLines xa xb cr) s = .next (s.afterWord .y 2 none .fall [] (startCipher true l n w r (g.index a)))))
  ∧ (∀ (s : State) (op : Bool) (l n : Nat) (w : BitVec 4) (r index : Nat),
    let t := startCipher op l n w r index s
    let minor := fun (u : State) (i : Nat) => (tabGet (u.region w.toNat r).minors i).getD 0
    (∀ i < n, (t.metaAt (relKey s s.ctx (l + i))).full = false) ∧ t.scratch = s.scratch ∧ t.hbm = s.hbm ∧ t.pool = s.pool ∧
    (op = true → t.worlds = s.worlds) ∧
    ∃ m, t.cr.cipher = s.cr.cipher ++ [m] ∧ m.open_ = op ∧ m.first = physLine s.ctx l ∧ m.count = n ∧ m.region = r ∧ m.index = index ∧
      ∀ j ≤ n, op = false → (tabGet s.worlds w.toNat).isSome = true → (∀ i < j, minor s (index + i) ≠ 255) → (j = n ∨ minor s (index + j) = 255) →
        m.minors = (List.range j).map (fun i => minor t (index + i)) ∧ m.majors = List.replicate j (s.region w.toNat r).major ∧
        (∀ i < j, minor t (index + i) = minor s (index + i) + 1) ∧ (∀ i, i < index ∨ index + j ≤ i → minor t i = minor s i) ∧
        (t.region w.toNat r).state = (if j = n then (s.region w.toNat r).state else 2))

/-- R449 to R463: the merge unit's commands whose fields, map and lines pass their checks: MGMATCH takes the unit for its context, and each command
joins the queue with the lines it reads held and the lines it writes empty.
It rests on the model's own choices: log 123, 124. -/
def Obligations.MergeWords : Prop :=
  ∀ (s : State) (t a b x : BitVec 6),
    let c := s.ctx
    let u := s.mergeAt (clusterOf s.g)
    let va := (c.xVal a).toNat
    let vb := (c.xVal b).toNat
    let vx := (c.xVal x).toNat
    let after := fun (f : State → State) => s.afterWord .y 2 none .fall [] f
    let map := readMap s s.g (physLine c va)
    let reads := fun (ls : List Nat) => ∀ l ∈ ls, s.lineReady l
    let writes := fun (ls : List Nat) => ∀ l ∈ ls, l < c.sys.allocSize.toNat ∧ s.lineFree l
    let rl := vx / 65536
    c.xReady a → c.xReady b → u.count s.g s.cr.cur < 4 →
    (let row := va % 2048
     let rows := va / 65536 % 128
     let col := vb % 2048
     let cols := vb / 65536 % 128
     let fresh := va / 2 ^ 23 % 2 = 1
     let tile := c.sys.tilesFirst.toNat + t.toNat
     (Instr.mgmatch t a b).wellFormed = true → va / 2048 % 32 = 0 → va < 2 ^ 24 → vb / 2048 % 32 = 0 → vb < 2 ^ 23 → 1 ≤ rows → rows ≤ 64 → row + rows ≤ 2048 →
     1 ≤ cols → cols ≤ 64 → col + cols ≤ 2048 → t.toNat < c.sys.tilesCount.toNat → s.mergeReads tile = false → s.cr.tileBusy tile = false →
     (u.owner = some (s.g, s.cr.cur) ∨ u.owner = none) → u.selecting s.g s.cr.cur = false → (fresh ∨ c.sys.mgMatch = true) →
       exec (.mgmatch t a b) s = .next (after (fun t =>
         let t := t.modMerge (clusterOf s.g) (fun u => { u with
           owner := some (s.g, s.cr.cur), claims := u.claims.filter (fun c => !(c.1 == s.g && c.2.1 == s.cr.cur)) })
         let t := t.modCtx (fun c => { c with sys := { c.sys with mgOwn := true, mgMatch := true, mgLost := false } })
         startMerge (.match_ tile row rows col cols fresh) (rows + 4) [] [] t))) ∧
    (let init := vx / 2 ^ 13 = 1
     let n := if init then vx % 2 ^ 13 else map.nc
     va < 2 ^ 15 → c.xReady x → vx < 2 ^ 14 → (¬init → vx = 0) → u.matching s.g s.cr.cur = false → c.sys.mgMatch = true →
     reads (mapLines va) → writes (mapLines va) → mgselBad map u vb n init = false →
       exec (.mgsel a b x) s = .next (after (startMerge (.sel va vb n init) (n + 2 * (if init then n else map.n0) + 16) [] (mapLines va)))) ∧
    (va < 2 ^ 15 → vb < 2 ^ 15 → reads (mapLines va) → map.headerOk = true →
     (c.xReady x → vx % 65536 < 2 ^ 15 → 1 ≤ rl → rl ≤ 64 →
       (map.sizeOk = true → map.lastOk = true → map.layers ≠ 0 → reads (rowLines vb rl map.oldn) → writes (rowLines (vx % 65536) rl map.nc) →
         exec (.mgmerge a b x) s = .next (after (startMerge (.merge va vb (vx % 65536) rl) (map.oldn * rl + map.nc + 16)
           (mapLines va ++ rowLines vb rl map.oldn) (rowLines (vx % 65536) rl map.nc)))) ∧
       (map.posOk = true → reads (rowLines vb rl map.nc) → writes (rowLines (vx % 65536) rl map.n0) →
         exec (.mgunm a b x) s = .next (after (startMerge (.unmerge va vb (vx % 65536) rl) (map.n0 * rl + 8)
           (mapLines va ++ rowLines vb rl map.nc) (rowLines (vx % 65536) rl map.n0))))) ∧
     (map.sizeOk = true → writes (rowLines vb 1 ((2 * map.nc + 127) / 128)) →
       exec (.mglogs a b) s = .next (after (startMerge (.logs va vb) ((map.nc + 63) / 64 + 8) (mapLines va) (rowLines vb 1 ((2 * map.nc + 127) / 128))))))

/-- R126, R128, R130, R169 and R171: a load whose turn has come and whose data is there binds: its register takes the bytes found, or poison, it
leaves the queue, and nothing else of the context's registers and no memory changes.
It rests on the model's own choices: log 12, 67. -/
def Obligations.LoadsReturn : Prop :=
  ∀ (s : State) (k : BitVec 2) (id n : Nat) (o : MemOp) (pre : List MemOp) (a : MAddr) (dst : LoadDst), s.event = some (.loadReturn k id) →
    s.queued k id = some (o, pre) → o.kind = .load a n dst → s.bindsNow k id pre o.kind = true → s.loadReady k id a = true →
    let f := s.loadFrom a n
    ∃ t, exec .loadReturn s = .next t ∧ (∀ q ∈ (t.ctxAt k).mq, q.id ≠ id) ∧ (t.ctxAt k).p = (s.ctxAt k).p ∧ (t.ctxAt k).k = (s.ctxAt k).k ∧
      (t.ctxAt k).sys = (s.ctxAt k).sys ∧ (t.ctxAt k).pc = (s.ctxAt k).pc ∧ t.scratch = s.scratch ∧ t.hbm = s.hbm ∧ t.pool = s.pool ∧ t.host = s.host ∧
      (∀ r sg, dst = .x r sg → (t.ctxAt k).c = (s.ctxAt k).c ∧ (∀ q : BitVec 6, q ≠ r → (t.ctxAt k).x[q.toNat] = (s.ctxAt k).x[q.toNat]) ∧ (r ≠ 0 →
        (t.ctxAt k).xEmpty r = false ∧ (t.ctxAt k).xPoison r = f.poison ∧ (f.poison = false →
          (t.ctxAt k).xVal r = if sg then BitVec.ofInt 64 (sextN (8 * n) (leNat f.bytes)) else BitVec.ofNat 64 (leNat f.bytes)))) ∧
      (∀ r ld, dst = .cap r ld → (t.ctxAt k).x = (s.ctxAt k).x ∧ (∀ q : BitVec 5, q ≠ r → (t.ctxAt k).c[q.toNat] = (s.ctxAt k).c[q.toNat]) ∧ (r ≠ 0 →
        (t.ctxAt k).cEmpty r = false ∧ (t.ctxAt k).cPoison r = f.poison ∧ (f.poison = false → let bits := BitVec.ofNat 128 (leNat f.bytes)
          (t.ctxAt k).cVal r = { tag := f.tag && ld && !untaggable bits, bits := bits })))

/-- R127, R128, R361 and R366: a store whose turn has come is applied: at a scratchpad line its bytes are the stored ones and every other byte of
every memory is as before; at an object the cluster's copy takes them and no memory changes until the write is acknowledged; at the host they
are sent. No register changes. R372 and R386: so is a store before a release that waits in the queue, and the cluster's pins end behind it where a
release at DIE scope or more, of the queue or of a copy, covers it.
It rests on the model's own choices: log 64, 67, 175. -/
def Obligations.StoresApply : Prop :=
  ∀ (s : State) (k : BitVec 2) (id : Nat) (o : MemOp) (pre : List MemOp) (a : MAddr) (bytes : List (BitVec 8)) (tags : BitVec 8),
    s.event = some (.storeApply k id) → s.queued k id = some (o, pre) → o.kind = .store a bytes tags → s.appliesNow k id pre o.kind = true →
    s.loadReady k id a = true → a.off % 128 + bytes.length ≤ 128 →
    let covered := (∃ q ∈ (s.ctxAt k).mq, q.id ≠ id ∧ ∃ sc waits, q.kind = .release sc waits ∧ 2 ≤ sc.toNat ∧ id ∈ waits) ∨
      ∃ m ∈ s.cr.copies, m.k = k ∧ m.phase = .releasing ∧ 2 ≤ m.scope.toNat ∧ id ∈ m.relWaits
    ∃ t, (covered → exec .storeApply s = .next (t.endPins (clusterOf s.g))) ∧ (¬covered → exec .storeApply s = .next t) ∧ (∀ q ∈ (t.ctxAt k).mq, q.id ≠ id) ∧ (t.ctxAt k).x = (s.ctxAt k).x ∧ (t.ctxAt k).c = (s.ctxAt k).c ∧
      (t.ctxAt k).p = (s.ctxAt k).p ∧ (t.ctxAt k).k = (s.ctxAt k).k ∧ (t.ctxAt k).sys = (s.ctxAt k).sys ∧ (t.ctxAt k).pc = (s.ctxAt k).pc ∧
      t.hbm = s.hbm ∧ t.pool = s.pool ∧ t.imem = s.imem ∧
      (∀ b, memByte t.scratch b = if a.space = .scratch ∧ a.obj * 2 ^ 22 + a.off ≤ b ∧ b < a.obj * 2 ^ 22 + a.off + bytes.length
        then bytes.getD (b - (a.obj * 2 ^ 22 + a.off)) 0 else memByte s.scratch b) ∧
      (∀ b, memByte t.host b = if a.space = .host ∧ a.off ≤ b ∧ b < a.off + bytes.length then bytes.getD (b - a.off) 0 else memByte s.host b) ∧
      (a.space ≠ .scratch → ∃ w, t.writes = s.writes ++ [w] ∧ w.id = id ∧ w.a = a ∧ w.bytes = bytes ∧ w.k = k ∧ w.g = s.g) ∧
      (a.space = .local ∨ a.space = .pool → ∀ l, (s.clusterAt (clusterOf s.g)).find a.obj a.line = some l →
        ∃ m, (t.clusterAt (clusterOf s.g)).find a.obj a.line = some m ∧ m.val = l.val.write (a.off % 128) bytes tags ∧ m.unacked = l.unacked + 1)

/-- R102, R278, R280, R348 to R353, R361, R371 to R376, R384, R387 and R390: the other operations of a context's queue, each when its turn has come: a
gather's lane binds, an atomic gives its old value or fails, a release or an acquire completes, AINIT and ARRIVE are applied to their object, a SIGNAL
record is written.
It rests on the model's own choices: log 53, 71, 73, 74. -/
def Obligations.QueueEvents : Prop :=
  ∀ (s : State) (k : BitVec 2) (id : Nat) (o : MemOp) (pre : List MemOp), s.queued k id = some (o, pre) →
    let gone := fun (t : State) (f : Ctx → Ctx) => t.modCtxAt k (fun c => (f c).unqueue id)
    (∀ lane a z fid, s.event = some (.gatherLand k id) → o.kind = .gather lane a z fid → s.bindsNow k id pre o.kind = true → s.loadReady k id a = true →
      exec .gatherLand s = .next (gone { s with cr := { s.cr with flights := s.cr.flights.map (fun f =>
        if f.id = fid then { f with what := f.what.takeLane z lane (s.loadFrom a z) } else f) } } (fun c => c))) ∧
    (∀ op a sc d xd xs, s.event = some (.atomicReturn k id) → o.kind = .atomic op a sc d xd xs → s.bindsNow k id pre o.kind = true →
      s.appliesNow k id pre o.kind = true → (∀ w ∈ s.writes, w.id ≠ id) →
      let left := fun (t : State) (f : Ctx → Ctx) => (t.modCtxAt k (fun c => ((f c).unqueue id).retireAccess id)).endPinsFor k id
      (a.space = .scratch → s.lineOpen k id a.obj a.off = true →
        let old := BitVec.ofNat 128 (leNat (s.scratchRead a.obj a.off op.size))
        let poisoned := (s.metaAt (lineKey a.obj (a.off / 128))).form = .poison
        (poisoned → exec .atomicReturn s = .next (left s (fun c => c.poisonAtomic op d))) ∧
        (¬poisoned → exec .atomicReturn s =
          .next (left (s.storeScratch a.obj a.off (leBytes op.size (op.newValue old xd xs).toNat) 0) (fun c => c.deliverAtomic op d old)))) ∧
      (a.space = .host →
        let old := BitVec.ofNat 128 (leNat (memRead s.host a.off op.size))
        exec .atomicReturn s = .next (left { s with host := memWrite s.host a.off (leBytes op.size (op.newValue old xd xs).toNat) }
          (fun c => c.deliverAtomic op d old))) ∧
      (∀ t old, a.space = .local ∨ a.space = .pool → s.atomRetry a = false → (∀ w ∈ t.writes, w.id ≠ id) →
        performAtomic k id (s.lineOpen k id a.obj a.off) op a sc xd xs s = some (t, some old) →
        exec .atomicReturn s = .next (left t (fun c => c.deliverAtomic op d old)))) ∧
    (∀ op a sc d xd xs code, s.event = some (.atomicFail k id code) → o.kind = .atomic op a sc d xd xs → s.bindsNow k id pre o.kind = true →
      s.appliesNow k id pre o.kind = true → atomicCanFail s k a code = true → exec .atomicFail s =
        .next (((if a.space = .pool then s.johel s.lt else s).modCtxAt k (fun c => ((c.failAtomic op d).unqueue id).retireAccess id)).addDue k code a.full none)) ∧
    (∀ sc waits, s.event = some (.releaseComplete k id) → o.kind = .release sc waits → (∀ q ∈ pre, q.kind.binds = false ∧ q.kind.isRelease = false) →
      s.copyReleasing k id = false → (∀ w ∈ waits, s.reached (s.ctxAt k) sc w = true) → exec .releaseComplete s = .next (gone s (fun c => c))) ∧
    (∀ sc after, s.event = some (.acquireComplete k id) → o.kind = .acquire sc after → (∀ q ∈ pre, q.kind.binds = false ∧ q.kind.isAcquire = false) →
      (∀ r, after = some r → ∀ q ∈ pre, q.id ≠ r) → (s.clusterAt (clusterOf s.g)).flash ≤ s.tnow.toNat → exec .acquireComplete s =
        .next ((s.refresh sc).1.modCtxAt k (fun c => if (s.refresh sc).2 then c.rekind id (.acquire 0 none) else c.unqueue id))) ∧
    (∀ r n, s.event = some (.arriveApply k id) → id ≠ 0 → o.kind = .ainit r n → sameObject pre r = false → fullAt s r.g r.byte = true →
      s.mergeReadsLine r.g (r.byte / 128) = false →
      s.objectPlain r = true → exec .arriveApply s = .next (gone (s.setObject r (BitVec.ofNat 128 (n.toNat * 256))) (fun c => c))) ∧
    (∀ r d n b pc waits, s.event = some (.arriveApply k id) → id ≠ 0 → o.kind = .arrive r d n b pc waits → sameObject pre r = false →
      (∀ q ∈ pre, q.kind.isRelease = false) → s.copyReleasing k id = false → arriveReady s k waits = true → fullAt s r.g r.byte = true →
      s.mergeReadsLine r.g (r.byte / 128) = false → s.objectPlain r = true →
      let x := s.object r
      let pb := arrPb x + b
      let bad := arrExp x = 0 ∨ arrReserved x = true ∨ arrExp x < arrCnt x + n.toNat ∨ pb < -(2 ^ 39) ∨ 2 ^ 39 ≤ pb
      (bad → exec .arriveApply s = .next ((gone (s.setObject r (putField x 4 4 1)) (fun c => c.setX d (BitVec.allOnes 64))).addDue
          k 0x11 (overrunInfo r pc) none)) ∧
      (¬bad → exec .arriveApply s =
        .next (gone (s.setObject r (completePhase (putField (putField x 31 20 (arrCnt x + n.toNat)) 71 32 (pb % 2 ^ 40).toNat)))
          (fun c => c.setX d ((x.setWidth 4 : BitVec 4).setWidth 64))))) ∧
    (∀ slot rec, s.event = some (.signalRecordWrite k id) → o.kind = .signal slot rec →
      (∀ q ∈ pre, q.kind.isRelease = false ∧ ∀ a b, q.kind ≠ .signal a b) → s.copyReleasing k id = false → exec .signalRecordWrite s =
        .next (gone (s.modTenant (s.ctxAt k).sys.tenant (fun te => { te with ring := te.ring.fill slot rec })) (fun c => c)))

/-- R353, R355, R365, R373, R377, R386, R418, R424, R425 and R430: what the memory system does by itself: a write is granted by its home, dropped from the
remote-data caches, forwarded to the pool home and acknowledged, or refused; a line is filled, a pin ends, LT ticks, old copies are marked, and the bound
of a WAITPH passes.
It rests on the model's own choices: log 60, 63, 64, 65, 66, 174, 175, 196, 200. -/
def Obligations.MemorySystemEvents : Prop :=
  ∀ (s : State),
    (∀ w, s.writes.find? (fun v => v.id == w.id && v.copy.isNone) = some w → s.event = some (.writeAck w.id) →
      let object := w.a.space = .local ∨ w.a.space = .pool
      let last := fun (t : State) => (t.dropWrite w).mapCtxs (fun c => c.retireAccess w.id)
      (w.a.space = .host → s.cxl = true → exec .writeAck s = .next (last s)) ∧
      (w.a.space = .host → s.cxl = false →
        let read := (s.releaseWaits w).find? (fun l => l.contains w.id &&
          !((s.coreAt w.g).ctxs[w.k.toNat]).mq.any (fun o => l.contains o.id && w.sameFunction o.kind))
        (∀ waits, read = some waits → exec .writeAck s = .next (((s.hostStores w).filter (fun v => waits.contains v.id)).foldl State.finishWrite s)) ∧
        (read = none → s.mustAck w = true → exec .writeAck s = .next ((s.hostStores w).foldl State.finishWrite s))) ∧
      (object → w.granted = false → (∀ v ∈ s.writesBefore w, v.cluster = w.cluster → v.meets w = true → v.granted = true) →
        (∀ l ∈ (s.clusterAt w.cluster).cache, l.obj = w.a.obj → l.line = w.a.line → l.pin = false) → s.pinnedElsewhere w.cluster w.a = none →
        s.writeRefusal w = none →
        let t := s.grantWrite w.a w.bytes w.tags
        exec .writeAck s = .next { t with writes := s.writes.filter (fun v => v.id != w.id) ++
          [{ w with granted := true, drops := (s.rdc.filter (fun r => r.obj == w.a.obj && r.line == w.a.line)).map RLine.die }] }) ∧
      (∀ die rest, object → w.granted = true → w.drops = die :: rest →
        let t : State := { s with rdc := s.rdc.filter (fun r => !(r.die == die && r.obj == w.a.obj && r.line == w.a.line)) }
        exec .writeAck s = .next (t.setWrite { w with drops := rest })) ∧
      (w.granted = true → w.drops = [] →
        (w.a.space = .local → exec .writeAck s = .next (last s)) ∧
        (w.a.space = .pool → w.homeAcked = false → exec .writeAck s =
          .next (s.setWrite { w with homeAcked := true, token := s.tokenFor w.tenant w.a.obj (w.a.off / 65536), lt := s.lt })) ∧
        (w.a.space = .pool → w.homeAcked = true → s.writeRefusal w = none →
          (∀ v ∈ s.writesBefore w, v.onLine w.a = true → v.granted = false) → exec .writeAck s = .next (last (s.writePool w.lt w.a w.bytes w.tags))))) ∧
    (∀ w c, s.writes.find? (fun v => v.id == w.id && v.copy.isNone && v.g == s.g) = some w → s.event = some (.writeRefused w.id c.num) →
      s.writeRefusal w = some c →
      let t := (s.dropWrite w).dropCopies w.a
      exec .writeRefused s = .next (((if w.a.space = .pool then t.johel w.lt else t).modCtxAt w.k (fun o => o.retireAccess w.id)).addDue
        w.k c.num w.a.full none)) ∧
    (∀ (obj : BitVec 24) (line : BitVec 33) a k, s.event = some (.lineFill (clusterOf s.g) obj line) →
      s.wanted.find? (fun p => p.1.obj == obj.toNat && p.1.line == line.toNat) = some (a, k) →
      let cl := clusterOf s.g
      s.cacheHit cl a = none → s.pinnedElsewhere cl a = none →
      (∀ t, s.fillLine cl a (s.llenOf (s.ctxAt k)) = some t → exec .lineFill s = .next t) ∧
      (a.space = .local → frameDie a.frame = dieOfCluster cl → s.oldAtHome a = false → (∀ w ∈ s.writes, w.onLine a = false) →
        (s.clusterAt cl).cache.length < 16 → exec .lineFill s = .next (s.modCluster cl (fun c => { c with
          cache := c.cache.filter (fun l => !(l.obj == a.obj && l.line == a.line)) ++
            [{ obj := a.obj, line := a.line, val := s.hbmLine a.hbmLine, cls := .own, gen := c.gOwn, rts := 0, frame := a.frame, unacked := 0 }] })))) ∧
    (∀ cl key l since, s.event = some (.pinRetryTimeout cl key) → (s.clusterAt cl).find (key / 2 ^ 33) (key % 2 ^ 33) = some l → l.pin = true →
      l.retrySince = some since → since.toNat + 2 ^ 20 ≤ s.tnow.toNat → exec .pinRetryTimeout s = .next (s.endPin cl l)) ∧
    (∀ cl l, (s.clusterAt cl).find l.obj l.line = some l →
      let a : MAddr := { space := .local, obj := l.obj, off := l.line * 128, frame := l.frame }
      (∀ w ∈ s.writes, w.cluster = cl → w.onLine a = false) →
      let t := s.endPin cl l
      t.hbm = (s.setHbmLine a.hbmLine l.val).hbm ∧ t.rdc = s.rdc.filter (fun r => !(r.obj == l.obj && r.line == l.line)) ∧ t.writes = s.writes ∧
      (t.clusterAt cl).find l.obj l.line = some { l with pin := false, retrySince := none }) ∧
    (s.event = some .ltTick → s.lastTick ≠ s.tnow → s.tnow.toNat % s.tstep.toNat = 0 →
      exec .ltTick s = .next { s with lt := s.lt + 1, lastTick := s.tnow }) ∧
    (s.event = some .copyAgeing → ∃ t, exec .copyAgeing s = .next t ∧
      let kept := fun (now ts : BitVec 24) => (ts - now).toNat < 2 ^ 22 ∨ ts = now - 2 ^ 22
      t.homeAged = s.ht ∧ t.partAged = s.lt ∧ t.hbm = s.hbm ∧ t.pool = s.pool ∧ t.scratch = s.scratch ∧
      (∀ e ∈ t.clusters, ∀ l ∈ e.2.cache, l.cls = .pool → kept s.lt l.rts) ∧ (∀ r ∈ t.rdc, r.pool = true → kept s.lt r.rts) ∧
      (∀ e ∈ t.frameTs, kept s.lt e.2.2) ∧ (∀ e ∈ t.poolLines, (s.ht - e.2.rts).toNat < 2 ^ 22 ∨ e.2.rts = s.ht - 2 ^ 22)) ∧
    (∀ k d r ph dl, s.event = some (.waitphTimeout k) → (s.ctxAt k).waits.find? (fun w => match w with | .phase .. => true | _ => false) =
        some (.phase d r ph (some dl)) → sameInit (s.ctxAt k).mq r = false → dl.toNat ≤ s.tnow.toNat → (s.object r).setWidth 4 = ph →
      exec .waitphTimeout s = .next (s.setCtxAt k { ((s.ctxAt k).setX d 1) with
        waits := (s.ctxAt k).waits.filter (fun w => w != .phase d r ph (some dl)) }))

/-- R53 to R55, R117, R237, R254, R270, R278, R284, R301 and R303 to R307: an operation in flight whose cycle has come leaves the list and lands: the
bypass register, the lines, FSTAT, AMAX, the mask or the scalar register takes its result, a tile its rows; a gather lands the lines whose lanes are in
and keeps the others in flight; a checked MMA with a compared block that a residue check finds wrong is replayed once, a cycle of its length later, its
replay is counted when its terms are accepted, and a second disagreement before that ends with RESIDUE due.
It rests on the model's own choices: log 37, 56, 57. -/
def Obligations.LandingEvents : Prop :=
  ∀ (s : State) (id : Nat) (f : Flight), s.cr.flights.find? (fun o => o.id == id) = some f → (∀ o ∈ s.cr.flights, o.id = id → o = f) →
    let without := s.cr.flights.filter (fun o => o.id != id)
    let t : State := { s with cr := { s.cr with flights := without } }
    (f.due ≤ s.cr.cyc →
      (s.event = some (.vectorBypassFill id) → ∀ u v, f.what = .bypass u v → exec .vectorBypassFill s = .next { t with cr := t.cr.setBypass u { val := v, full := true } }) ∧
      (s.event = some (.vectorLineWrite id) →
        (∀ ws, f.what = .lines ws → exec .vectorLineWrite s = .next (ws.foldl State.landLineWrite t)) ∧
        (∀ fl, f.what = .fstat fl → exec .vectorLineWrite s = .next (t.modCtxAt f.k (fun c => { c with sys := { c.sys with fstat := c.sys.fstat ||| fl } }))) ∧
        (∀ v, f.what = .amax v → exec .vectorLineWrite s = .next (t.modCtxAt f.k (fun c =>
          let held := c.sys.amax.toNat % 2 ^ 31
          let top := BitVec.ofNat 32 (max (if 0x7F800000 < held then 0 else held) (v.toNat % 2 ^ 31))
          { c with sys := { c.sys with amax := top } }))) ∧
        (∀ ws v b, f.what = .gather ws v b → (∃ w ∈ ws, w.lanes = []) →
          let whole := (ws.filter (fun w => w.lanes.isEmpty)).map GatherLine.write
          let rest := ws.filter (fun w => !w.lanes.isEmpty)
          let lastLeft := rest.any GatherLine.last
          let t : State := { s with cr := { s.cr with flights := s.cr.flights.filterMap (fun o => if o.id != id then some o else if rest = [] then none
            else some { o with what := .gather rest v (b && lastLeft) }) } }
          let u := whole.foldl State.landLineWrite t
          exec .vectorLineWrite s = .next (if b = true ∧ lastLeft = false then { u with cr := { u.cr with bp0 := { val := v, full := true } } } else u))) ∧
      (s.event = some (.maskWrite id) → ∀ r v, f.what = .mask r v → exec .maskWrite s = .next (t.modCtxAt f.k (fun c => c.setK r { bits := v }))) ∧
      (s.event = some (.divideResult id) → ∀ r v, f.what = .xreg r v → exec .divideResult s = .next (t.modCtxAt f.k (fun c => c.setX r v))) ∧
      (s.event = some (.tileRetire id) →
        (∀ tile ow rows b chk again pc tf, f.what = .mma tile ow rows b chk again pc tf →
          exec .tileRetire s = .next (rows.zipIdx.foldl (fun u r => u.setTileRow s.g tile r.2 (applyTerms ow (u.tileRow s.g tile r.2) r.1)) t)) ∧
        (∀ b, f.what = .accepted b → exec .tileRetire s = .next (t.modCtxAt f.k (fun c => { c with sys := { c.sys with
          replays := BitVec.ofNat 16 (min 65535 (c.sys.replays.toNat + 1)), beats := BitVec.ofNat 32 (min (2 ^ 32 - 1) (c.sys.beats.toNat + b)) } }))) ∧
        (∀ tile rows, f.what = .tileRows tile rows → exec .tileRetire s = .next (rows.foldl (fun u r => u.setTileRow s.g tile r.1 r.2) t)) ∧
        (∀ tile gone, f.what = .tileClear tile gone →
          let u := t.zeroTile s.g tile
          exec .tileRetire s = .next (if gone then { u with released := u.released ++ [s.g * 48 + tile] } else u)) ∧
        (∀ tile, f.what = .tileFree tile → exec .tileRetire s = .next t))) ∧
    (∀ tile ow rows b pc tf, s.event = some (.residueReplay id) → f.what = .mma tile ow rows b true false pc tf → s.cr.cyc + 12 ≤ f.due →
      (∃ r ∈ rows, ∃ v ∈ r, ∃ x ∈ lanesOf 32 v, (decodeF 24 x).isNan = false) →
      exec .residueReplay s = .next { s.logHealth (s.g / 192) 0 4 s.g tf.toNat with
        nextId := s.nextId + 1
        cr := { s.cr with
          flights := s.cr.flights.map (fun o => if o.id == id then { f with due := f.due + b, what := .mma tile ow rows b true true pc tf } else o) ++
            [{ id := s.nextId, k := f.k, due := f.due + b - 12, what := .accepted b, unit_ := f.unit_, since := f.since }]
          m := { s.cr.m with replay := max s.cr.m.replay (f.due - 12 + b) } } }) ∧
    (∀ tile ow rows b chk pc tf row col block r v, s.event = some (.residue id row col block) → f.what = .mma tile ow rows b chk true pc tf →
      rows[row.toNat]? = some r → r[block.toNat]? = some v → (decodeF 24 (laneAt 32 v col.toNat)).isNan = false →
      let accept := fun (o : Flight) => o.unit_ == f.unit_ && o.since == f.since && (match o.what with | .accepted _ => true | _ => false)
      (∃ o ∈ s.cr.flights, accept o = true) →
      exec .residue s = .next ((({ s with cr := { s.cr with flights := s.cr.flights.filter (fun o => o.id != id && !accept o) } } : State).logHealth
          (s.g / 192) 1 7 s.g tf.toNat).addDue f.k 0x13
        (BitVec.ofNat 64 (tf.toNat + row.toNat * 2 ^ 6 + col.toNat * 2 ^ 12 + block.toNat * 2 ^ 18)) (some pc)))

/-- R53, R173, R194 and R278: a line that lands takes the bytes that its mask enables and keeps the others; every other byte of every memory is as
before, the line is full and, where every byte is written, plain; the tags of the granules it touches are cleared. -/
def Obligations.LineWrites : Prop :=
  ∀ (s : State) (w : LineWrite),
    let t := s.landLineWrite w
    let key := s.g * 32768 + w.line
    let old := s.metaAt key
    let new_ := t.metaAt key
    new_.full = true ∧ (∀ other, other ≠ key → t.metaAt other = s.metaAt other) ∧
    (∀ b, memByte t.scratch b = if w.poison = false ∧ b / 128 = key ∧ w.mask.getLsbD (b % 128) = true then w.data.extractLsb' (8 * (b % 128)) 8
      else memByte s.scratch b) ∧
    (w.poison = true → new_.form = .poison) ∧
    (w.poison = false → new_.form = (if w.mask = BitVec.allOnes 128 then .plain else old.form) ∧
      ∀ j < 8, new_.tag.getLsbD j = (old.tag.getLsbD j && (w.mask.extractLsb' (16 * j) 16 == 0))) ∧
    t.hbm = s.hbm ∧ t.pool = s.pool ∧ t.host = s.host ∧ t.imem = s.imem ∧ t.cr = s.cr

/-- R317 to R346: the block-transfer engine: a timed command becomes eligible at its time, the eligible command that goes first becomes active while
fewer than 16 are, a request for each piece goes out at the command's turn (R320, R321), its piece moves, its requests are acknowledged, it completes or
fails, each by its rule. R334 and R349: an acknowledgement of a copy's request counts its bytes, and an update that waits for its object is applied once the
line of the object is full: the bytes are subtracted and the phase completes when nothing is left. R337: a failed command's information: the index of the
first byte not delivered; its unwritten lines are poison and full, and it no longer counts bytes.
It rests on the model's own choices: log 88, 89, 91, 92, 94, 95, 176, 188. -/
def Obligations.CopyEvents : Prop :=
  (∀ (s : State) (id : Nat) (m : Copy), s.cr.copies.find? (fun o => o.id == id) = some m →
    (s.event = some (.timedEligible id) → m.phase = .timed → (s.ctxAt m.k).state ≠ .evicting → m.desc.time.toNat ≤ (lclk s.tnow (s.ctxAt m.k)).toNat →
      exec .timedEligible s = .next (s.modCopy id (fun o => { o with phase := .eligible s.tnow.toNat }))) ∧
    (s.event = some (.copyActivate id) → (∃ t, m.phase = .eligible t) → (∀ o ∈ s.cr.copies, o.eligibleSince ≠ none → o.id = id ∨ m.goesBefore o = true) →
      (s.cr.copies.filter Copy.isActive).length < 16 →
      let start := fun (keys : List Nat) (t : State) =>
        t.modCopy id (fun o => { o with phase := if o.acq.isSome then .acquiring else .active, unfilled := keys
                                        sent := { now := s.tnow, lt := s.lt, gen := o.desc.cap.gen } })
      (m.op ≠ .xfer → exec .copyActivate s = .next (start m.unfilled s)) ∧
      (m.op = .xfer → let keys := ((m.todo.map (xferKey s m)).filterMap (fun k => k)).filter (fun k => (s.metaAt k).full)
        exec .copyActivate s = .next (start keys (keys.foldl (fun t key => t.setFull key false) s)))) ∧
    (∀ piece, s.event = some (.copyLineLand id piece) → m.phase = .active → piece ∈ m.todo →
      let line := physLine (s.ctxAt m.k) (m.desc.pieceLine piece)
      let n := m.desc.pieceLen piece
      let mayLand := s.copyMayWrite m.k m.id = true ∧ s.destSettled m.k m.id (s.localAddr line) n = true ∧ s.mayMove false = true ∧
        s.cr.scrubs s.tnow line = false
      let free := badPart s (lineKey s.g line) n = false
      let landed := fun (f : Fetched) (t : State) =>
        let key := lineKey t.g (physLine (t.ctxAt m.k) (m.desc.pieceLine piece))
        let tags := if m.desc.cap.has .ldcap && f.form != .cipher then tagBits f.tags else 0
        pieceMoved m.id piece n true (((landLine key f tags t).noteMove false).modCopy m.id (fun o => { o with unfilled := o.unfilled.filter (· != key) }))
      (piece ∉ m.reqs → m.nextPiece (s.channelOf m).isSome = some piece → pieceReady s m piece = true → s.engineRequests < 512 → s.outstanding < 1024 →
        s.hasTurn m = true →
        let read := if m.op = .put ∨ m.op = .xfer ∨ m.op = .putr then (readLocal m piece s).toList.map (fun f => (piece, f)) else []
        let turn := if m.unstarted = true then s.cr.turn else if m.id = s.cr.turn.1 ∧ s.cr.turn.2 < 512 then (m.id, s.cr.turn.2 + n) else (m.id, n)
        exec .copyLineLand s = .next ((pinPiece m.id piece { s with cr := { s.cr with turn := turn } }).modCopy m.id (fun o =>
          { o with reqs := o.reqs ++ [piece], got := o.got ++ read }))) ∧
      (piece ∈ m.reqs → m.op = .get ∨ m.op = .getp → free →
        (∀ f, m.gotFor piece = some f → f.poison = false → mayLand → exec .copyLineLand s = .next (dropPins id (landed f s))) ∧
        (∀ t f, m.gotFor piece = none → fetchInside m (m.desc.pieceAddr m.op piece) n s = (t, some f) →
          (f.poison = false → mayLand → exec .copyLineLand s = .next (dropPins id (landed f t))) ∧
          (f.poison = true ∨ ¬mayLand → exec .copyLineLand s = .next (dropPins id (t.modCopy m.id (fun o => { o with got := o.got ++ [(piece, f)] })))))) ∧
      (∀ f t, piece ∈ m.reqs → m.op = .put → m.gotFor piece = some f → sendPut m piece f s = some t → exec .copyLineLand s = .next (dropPins id t)) ∧
      (∀ f key, piece ∈ m.reqs → m.op = .xfer → m.gotFor piece = some f → f.poison = false → xferKey s m piece = some key →
        s.copyMayWrite m.k m.id = true → xferOpen s m key n = true → s.mayMove true = true →
        exec .copyLineLand s = .next (dropPins id (pieceMoved m.id piece n true
          (((landLine key f (tagBits (carriedTags m.desc.cap f)) s).noteMove true).modCopy m.id (fun o => { o with unfilled := o.unfilled.filter (· != key) }))))) ∧
      (∀ f r, piece ∈ m.reqs → m.op = .putr → m.gotFor piece = some f → f.poison = false → s.copyMayWrite m.k m.id = true → s.mayMove true = true →
        rowTarget s m (piece / 2 ^ 18) = some r → exec .copyLineLand s =
          .next (dropPins id (pieceMoved m.id piece n true ((s.contribute r (m.desc.pieceAddr .putr piece % 2 ^ 40) f.bytes).noteMove true)))) ∧
      (∀ f r, piece ∈ m.reqs → m.op = .putr → m.gotFor piece = some f → f.poison = false → s.copyMayWrite m.k m.id = true → s.mayMove true = true →
        rowTarget s m (piece / 2 ^ 18) = none → rowRoute s m (piece / 2 ^ 18) = some r → s.links.mayIssue r.root = true → s.roomFor 1 = true →
        exec .copyLineLand s = .next (dropPins id (pieceMoved m.id piece n false (sendContribution m piece r f.bytes (s.noteMove true)))))) ∧
    (s.event = some (.copyComplete id) →
      (m.phase = .active → m.todo = [] → m.acks = [] →
        (m.rel = false → exec .copyComplete s = .next (retireCopy id (unpinAll m s))) ∧
        (m.rel = true → let t := if 2 ≤ m.scope.toNat then s.endPins (clusterOf s.g) else s
          exec .copyComplete s = .next (t.modCopy id (fun o => { o with phase := .releasing, relWaits := copyReleaseWaits t o })))) ∧
      (m.phase = .releasing → m.rel = true → (∀ w ∈ m.relWaits, s.reached (s.ctxAt m.k) m.scope w = true) →
        (∀ o ∈ s.earlierOps m.k id, o.kind.binds = false ∧ o.kind.isRelease = false) → s.copyReleasing m.k id = false →
        (m.ref = none → exec .copyComplete s = .next (retireCopy id (unpinAll m s))) ∧
        (∀ r, m.ref = some r → exec .copyComplete s = .next ((retireCopy id (unpinAll m s)).subtractLater r m.bytesLeft false)))) ∧
    (∀ cause, s.event = some (.copyFail id cause) → m.phase = .active → refusedWrite s m.id = none →
      (if m.refused = true then some Code.capStale.num else (m.todo.take 4 ++ m.reqs).findSome? (pieceCause s m)) = some cause → exec .copyFail s = .next (failCopy m cause s)))
  ∧ (∀ (s : State) (id : Nat), s.event = some (.copyAck id) →
    (∀ w cid, s.updates.find? (fun u => u.id == id) = none → s.writes.find? (fun v => v.id == id && v.copy.isSome && v.g == s.g) = some w →
      w.copy = some cid → s.writeRefusal w = none →
      let last := dropPins cid (countAck w.g cid w.id w.bytes.length (writeSeal w (s.dropWrite w)))
      (w.a.space = .host → exec .copyAck s = .next last) ∧
      (w.a.space = .local → w.granted = true → w.drops = [] → exec .copyAck s = .next last) ∧
      (∀ t, ackWrite w s = some t → exec .copyAck s = .next (dropPins cid t))) ∧
    (∀ u, s.updates.find? (fun u => u.id == id) = some u → u.arrive = false → fullAt s u.ref.g u.ref.byte = true → s.objectPlain u.ref = true →
      let x := s.object u.ref
      let left := ((arrPb x - u.bytes) % 2 ^ 40).toNat
      let er := u.er = true ∨ arrExp x = 0 ∨ arrReserved x = true
      let done := ({ s with updates := s.updates.filter (fun v => v.id != id) } : State).setObject u.ref
        (completePhase (if er then putField (putField x 71 32 left) 5 5 1 else putField x 71 32 left))
      (u.rec_ = none → exec .copyAck s = .next done) ∧ (∀ te r, u.rec_ = some (te, r) → exec .copyAck s = .next (done.postRecord te r))))
  ∧ (∀ (s : State) (m : Copy) (cause : BitVec 8), m ∈ s.cr.copies → s.cr.copies.Pairwise (fun a b => a.id ≠ b.id) → (s.ctxAt m.k).state ≠ .drain →
    let t := failCopy m cause s
    ∃ o ∈ t.cr.copies, o.id = m.id ∧ o.phase = .failed cause ∧ o.todo = [] ∧ o.bytesLeft = 0 ∧ o.failByte = firstUndelivered m ∧
      (∀ key ∈ undelivered s m, (t.metaAt key).full = true ∧ (t.metaAt key).form = .poison) ∧
      o.fault.code = 0x17 ∧ o.fault.async = true)

/-- R394 to R411: translation and the service of pages: a walk ends in the TLB or in an answer, a page that is wanted takes a frame or a victim, becomes
resident and wakes its contexts when their drain is over, or cannot be had; a shoot-down, a migration and the sweep of gathered bits do as their rules say.
It rests on the model's own choices: log 77, 78, 81, 82, 83, 177, 185. -/
def Obligations.TranslationEvents : Prop :=
  ∀ (s : State) (obj page : BitVec 24),
    let o := obj.toNat
    let p := page.toNat
    (∀ id w, s.event = some (.tlbWalkEnd id) → s.walks.find? (fun v => v.id == id) = some w →
      let rest : State := { s with walks := s.walks.filter (fun v => v.id != id) }
      s.atWalker w = true →
      (w.space = .scratch → exec .tlbWalkEnd s = .next (rest.answerWalk w (.form (formAt s w.obj (w.page * 128))))) ∧
      (w.space ≠ .scratch → w.version ≠ s.version → exec .tlbWalkEnd s = .next { s with
        walks := s.walks.map (fun v => if v.id == id then { v with version := s.version } else v) }) ∧
      (w.space ≠ .scratch → w.version = s.version →
        (s.genOf w.obj = none ∨ (∃ g, s.genOf w.obj = some g ∧ g ≠ w.gen) → exec .tlbWalkEnd s = .next (rest.answerWalk w .absent)) ∧
        (∀ g, s.genOf w.obj = some g → g = w.gen →
          ((s.leafOf w.obj w.page).state = .invalid → exec .tlbWalkEnd s = .next (rest.answerWalk w .absent)) ∧
          ((s.leafOf w.obj w.page).state = .lost → exec .tlbWalkEnd s = .next (rest.answerWalk w .lost)) ∧
          ((s.leafOf w.obj w.page).state = .resident → exec .tlbWalkEnd s = .next (rest.fillTlb w.cluster
            { space := w.space, obj := w.obj, page := w.page, frame := (s.leafOf w.obj w.page).frame, gen := g }))))) ∧
    (∀ cl (e : TlbEntry), let old := (s.clusterAt cl).tlb
      ∃ h tl, ((s.fillTlb cl e).clusterAt cl).tlb = h :: tl ∧ (h.space, h.obj, h.page, h.frame, h.gen) = (e.space, e.obj, e.page, e.frame, e.gen) ∧
        (∀ x ∈ tl, x ∈ old ∧ x.holds e.space e.obj e.page = false) ∧
        (old.length < 16 → ∀ x ∈ old, x.holds e.space e.obj e.page = false → x ∈ tl) ∧ (s.fillTlb cl e).frames = s.frames) ∧
    (∀ m, s.event = some (.pageService obj page) → tabGet s.objects o = some m → s.needsService o p = true →
      let die := s.placingDie o p
      let sv : PageService := { obj := o, page := p, pool := m.pool, die := die, sent := s.sentNow o }
      ((s.tenant m.tenant).pfmode = true → exec .pageService s = .next (({ s with services := s.services ++ [sv] } : State).postRecord
        m.tenant (.pageFault o p))) ∧
      (∀ f, (s.tenant m.tenant).pfmode = false → s.freeFrame die = some f → exec .pageService s = .next { s with
        services := s.services ++ [{ sv with frame := some f }],
        frames := tabSet s.frames f { pool := m.pool, obj := o, page := p } }) ∧
      (∀ t f r, (s.tenant m.tenant).pfmode = false → s.freeFrame die = none → clockPick s.clockOrder s = (t, some f) → tabGet t.frames f = some r →
        exec .pageService s = .next (({ t with services := t.services ++ [{ sv with victim := some (r.obj, r.page) }] } : State).startShoot
          r.obj r.page (.evict true)))) ∧
    (∀ m v, tabGet s.objects o = some m → s.services.find? (fun v => v.obj == o && v.page == p && v.victim.isNone) = some v → s.unservable o p = false →
      let host := (s.tenant m.tenant).pfmode
      let mine := fun (f : Nat) => ({ s with services := s.services.filter (fun v => !(v.obj == o && v.page == p)),
                                             frames := tabSet s.frames f { pool := v.pool, obj := o, page := p } } : State)
      let placed := fun (f : Nat) (u : State) => ((u.placeLeaf o p f).wakePage o p).endPrefs o p
      (∀ f, s.event = some (.pageResident obj page none) → host = false → v.frame = some f →
        exec .pageResident s = .next (placed f (((mine f).bulkAnswer v).loadPage v.pool o p f))) ∧
      (∀ (fr : BitVec 25) bytes, s.event = some (.pageResident obj page (some (fr, bytes))) → host = true → tabGet s.frames fr.toNat = none →
        32768 ≤ fr.toNat % 2 ^ 21 → fr.toNat % 2 ^ 21 ≤ 1464842 →
        exec .pageResident s = .next (placed fr.toNat (if bytes = [] then ((mine fr.toNat).bulkAnswer v).loadPage v.pool o p fr.toNat
          else (mine fr.toNat).hostFill fr.toNat bytes)))) ∧
    (∀ pool f, let t := s.loadPage pool o p f
      (∀ b < 65536, memByte t.hbm (f * 65536 + b) = if pool then memByte s.pool (o * 2 ^ 40 + p * 65536 + b) else 0) ∧
      (∀ b, b < f * 65536 ∨ f * 65536 + 65536 ≤ b → memByte t.hbm b = memByte s.hbm b) ∧ t.pool = s.pool ∧ t.scratch = s.scratch ∧ t.cr = s.cr) ∧
    (∀ k : BitVec 2, (s.ctxAt k).waitsFor o p = true →
      ((s.wakePage o p).ctxAt k) = { s.ctxAt k with pageWait := none, waitCnt := 0, state := if s.pageDrained k then .ready else .page }) ∧
    (s.event = some (.pageServiceFail obj page) → s.unservable o p = true → (s.resident.filter (fun c => c.2.2.waitsFor o p)) ≠ [] →
      exec .pageServiceFail s = .next ((s.resident.filter (fun c => c.2.2.waitsFor o p)).foldl (fun u c => u.within c.1 (fun u =>
        if (u.ctxAt c.2.1).waitsFor o p then u.failPage c.2.1 else u)) { s with services := s.services.filter (fun v => !(v.obj == o && v.page == p)) })) ∧
    (∀ m, s.event = some (.shootDown obj page) → tabGet s.objects o = some m → m.pool = true → s.mayShoot o p = true →
      exec .shootDown s = .next (s.startShoot o p (.evict false))) ∧
    (∀ frame : BitVec 25, s.event = some (.pageMigrate obj page frame) → s.mayShoot o p = true → tabGet s.frames frame.toNat = none →
      32768 ≤ frame.toNat % 2 ^ 21 → frame.toNat % 2 ^ 21 ≤ 1464842 → ∀ m, tabGet s.objects o = some m → exec .pageMigrate s = .next
        { s.startShoot o p (.migrate frame.toNat) with frames := tabSet s.frames frame.toNat { pool := m.pool, obj := o, page := p } }) ∧
    (∀ h, s.event = some (.shootDownComplete obj page) → s.shoots.find? (fun h => h.obj == o && h.page == p && h.why != ShootFor.revoke) = some h →
      s.shootReady h = true →
      let f := (s.leafOf o p).frame
      let rest : State := { s with shoots := s.shoots.filter (fun x => !(x.obj == o && x.page == p && x.why != ShootFor.revoke)) }
      (∀ f2, h.why = .migrate f2 → exec .shootDownComplete s = .next (rest.movePage o p f f2)) ∧
      let empty := (rest.freeFrameAt f).modLeaf o p (fun l => { l with state := .invalid, frame := 0 })
      (h.why = .evict false → exec .shootDownComplete s = .next empty) ∧
      (∀ v, h.why = .evict true → s.services.find? (fun v => v.victim == some (o, p)) = some v → exec .shootDownComplete s = .next { empty with
        services := empty.services.map (fun v => if v.victim == some (o, p) then { v with victim := none, frame := some f } else v),
        frames := tabSet empty.frames f { pool := v.pool, obj := v.obj, page := v.page } }) ∧
      (h.why = .setLost → exec .shootDownComplete s = .next ((rest.freeFrameAt f).modLeaf o p (fun l => { l with state := .lost, frame := 0 })))) ∧
    (∀ cl, s.event = some (.daSweep cl) → exec .daSweep s = .next ((s.flushDA (fun c _ => c == cl) (fun g _ => clusterOf g == cl)).modCluster cl
      (fun c => { c with sweptAt := s.tnow })))

/-- R156, R177, R179 to R182, R397, R405 and R411 to R414: objects are made, with the sealing roots that their tenant asks for, and
deleted, their generations go up, stale capabilities lose their tags, and the dirty pages of a range are named in a harvest list.
It rests on the model's own choices: log 68, 80, 85, 86, 87, 136, 180, 186, 187, 189. -/
def Obligations.ObjectEvents : Prop :=
  ∀ (s : State) (obj pages : BitVec 24) (tn : BitVec 4),
    let o := obj.toNat
    (∀ m, tabGet s.objects o = some m → m.deleted = false → m.retired = false →
      (s.event = some (.revoke obj false) → ∃ t n, exec .revoke s = .next t ∧ tabGet t.objects o = some n ∧ n.homeGen = m.homeGen ∧
        n.deleted = false ∧ (∀ q, (t.leafOf o q).state = (s.leafOf o q).state ∧ (t.leafOf o q).frame = (s.leafOf o q).frame) ∧
        (m.gen ≠ 255 → n.gen = m.gen + 1 ∧ n.retired = false) ∧ (m.gen = 255 → n.retired = true ∧ ∀ cap, stale t cap o = true) ∧
        (∀ other, other ≠ o → t.genOf other = s.genOf other) ∧
        t.version = s.version + 1 ∧ (∀ e ∈ t.clusters, ∀ x ∈ e.2.tlb, x.obj ≠ o) ∧
        t.shoots = s.shoots ++ [{ obj := o, page := 0, why := .revoke, waits := s.incompleteOn (ofObj o) ++ s.copiesOn o }]) ∧
      (s.event = some (.revoke obj true) → m.pool = true → m.homeGen ≠ 255 →
        exec .revoke s = .next { s with objects := tabSet s.objects o { m with homeGen := m.homeGen + 1 } })) ∧
    (∀ h m, s.event = some (.revokeComplete obj) → s.shoots.find? (fun h => h.obj == o && h.why == ShootFor.revoke) = some h →
      tabGet s.objects o = some m →
      (∀ i ∈ h.waits, i ∉ s.incompleteOn (ofObj o) ∧ i ∉ s.copiesOn o) →
      exec .revokeComplete s = .next (({ s with
        shoots := s.shoots.erase h,
        objects := tabSet s.objects o { m with homeGen := if m.homeGen.toNat < m.gen.toNat then m.gen else m.homeGen } } : State).postRecord m.tenant
          (.revoked o m.gen))) ∧
    (s.event = some .revocationSweep → ∃ t, exec .revocationSweep s = .next t ∧
      (∀ (k : BitVec 2) (r : Fin 32), let v := (s.ctxAt k).c[r].cap
        (t.ctxAt k).c[r].cap = { v with tag := v.tag && !(decide (v.space = 2 ∨ v.space = 3) && stale s v (v.cursor.toNat / 2 ^ 40)) }) ∧
      (∀ k : BitVec 2, (t.ctxAt k).x = (s.ctxAt k).x) ∧ t.hbm = s.hbm ∧ t.pool = s.pool ∧ t.scratch = s.scratch ∧
      (∀ n, n ∈ t.hbmTags ↔ n ∈ s.hbmTags ∧ ∀ r, tabGet s.frames (n / 4096) = some r → s.sweeps r.obj r.page = true →
        let v : Cap := { tag := true, bits := BitVec.ofNat 128 (leNat (memRead s.hbm (n * 16) 16)) }
        ¬((v.space = 2 ∨ v.space = 3) ∧ stale s v (v.cursor.toNat / 2 ^ 40) = true)) ∧
      t.clusters = s.clusters.map (fun e => (e.1, { e.2 with cache := e.2.cache.map (fun l => { l with val := s.sweepVal l.obj l.line l.val }) })) ∧
      t.rdc = s.rdc.map (fun r => { r with val := s.sweepVal r.obj r.line r.val })) ∧
    (∀ sp absent (roots : List (BitVec 36)), s.event = some (.objectCreate tn sp obj pages absent roots) → s.numberFree o = true → pages ≠ 0 → sp = 2 ∨ sp = 3 →
      let levels : BitVec 2 := if pages.toNat ≤ 512 then 1 else if pages.toNat ≤ 2 ^ 18 then 2 else 3
      let root := nodeAddress s.nextNode
      let gen : BitVec 8 := match tabGet s.objects o with | some old => old.gen + 1 | none => 0
      let made : State := { s with
        nextNode := s.nextNode + 1,
        objects := tabSet s.objects o {
          gen := gen, homeGen := gen, pool := sp = 3, tenant := tn, pages := pages.toNat, levels := levels, root := root, nodes := [(nodeKey levels.toNat 0, root)]
          absent := if sp = 3 then absent.map BitVec.toNat else [] } }
      (sp = 3 → exec .objectCreate s = .next made) ∧
      (sp = 2 → exec .objectCreate s = .next (((roots.map BitVec.toNat).filter (fun g => g / 4096 < pages.toNat)).foldl (fun u g => u.placeRoot o g) made))) ∧
    (sealingRoot.tag = true ∧ sealingRoot.space = 6 ∧ sealingRoot.otype = 0 ∧ sealingRoot.has Perm.seal = true ∧ sealingRoot.has Perm.unseal = true ∧
      boundsOf sealingRoot = (1, 15)) ∧
    (∀ m, s.event = some (.objectDelete obj) → tabGet s.objects o = some m → m.deleted = false →
      (∀ e ∈ s.frames, e.2.obj = o → e.2.extentPins = 0 ∧ e.2.copyPins = 0) → ∃ t, exec .objectDelete s = .next t ∧
        tabGet t.objects o = some { m with deleted := true, leaves := [], nodes := [] } ∧ t.version = s.version + 1 ∧ (∀ e ∈ t.clusters, ∀ x ∈ e.2.tlb, x.obj ≠ o) ∧
        (∀ e ∈ t.frames, e.2.obj ≠ o) ∧ (∀ h ∈ t.shoots, h.obj = o → h.why = .revoke) ∧ (∀ v ∈ t.services, v.obj ≠ o ∧ ∀ p, v.victim ≠ some (o, p))) ∧
    (∀ l, s.event = some (.harvestListOpen tn l) → exec .harvestListOpen s = .next (s.modTenant tn (fun te => { te with lists := tabSet te.lists l.toNat [] }))) ∧
    (∀ k id op pre d r list rel m, s.event = some (.harvestComplete k id) → s.queued k id = some (op, pre) → op.kind = .harv d r list rel → (∀ q ∈ pre, q.id ≠ rel) →
      r.base < r.top →
      let lo := r.base % 2 ^ 40 / 65536
      let hi := (r.top - 1) % 2 ^ 40 / 65536 + 1
      let u := s.flushDA (fun _ e => e.obj == r.obj && lo ≤ e.page && e.page < hi) (fun _ e => e.obj == r.obj && lo < e.page + e.count && e.page < hi)
      let tn := (u.ctxAt k).sys.tenant
      tabGet u.objects r.obj = some m →
      let h := harvestPages r.obj lo hi m.leaves ((tabGet (u.tenant tn).lists list).getD [])
      exec .harvestComplete s = .next (((({ u with objects := tabSet u.objects r.obj { m with leaves := h.2.1 } } : State).modTenant tn (fun te =>
        { te with lists := tabSet te.lists list h.1 })).modCtxAt k (fun c =>
          (c.setX d (BitVec.ofNat 64 ((if h.2.2.2 then 2 ^ 63 else 0) + h.2.2.1))).unqueue id))))

/-- R450, R451, R454 and R458 to R463: the merge unit's first command has its effect when its cycles are over and the next one starts; a claim obtains the unit
when it has no owner, when its owner has stopped, or when its owner was silent for 65 536 cycles.
It rests on the model's own choices: log 52, 121, 125, 181. -/
def Obligations.MergeEvents : Prop :=
  ∀ (s : State) (cl : Nat),
    let u := s.mergeAt cl
    let passed := fun (g : Nat) (k : BitVec 2) =>
      (s.stripOwner cl).modMerge cl (fun v => { v with owner := some (g, k), ownerCmd := (s.stripOwner cl).tnow, claims := v.claimsBut g k })
    (∀ m rest t, s.event = some (.mgCommandComplete cl) → u.queue = m :: rest → m.started = some t →
      (t + BitVec.ofNat 64 m.cycles).toNat ≤ s.tnow.toNat →
      let v := s.modMerge cl (fun u => { u with queue := startNext (t + BitVec.ofNat 64 m.cycles) rest })
      let c := clusterOf m.g
      let map := fun (l : Nat) => readMap v m.g (m.base + l)
      (∀ tile row rows col cols new_, m.kind = .match_ tile row rows col cols new_ → exec .mgCommandComplete s = .next (v.modMerge c (fun u => { u with
        entries := enterTile (if new_ then [] else u.entries) (tileScores v m.g tile row rows col cols) }))) ∧
      (∀ l count n init, m.kind = .sel l count n init →
        let w := fillLines m.g (m.base + l) (selectMap (map l) (v.mergeAt c).entries count n init).lines v
        exec .mgCommandComplete s = .next ((w.modMerge c (fun u => { u with
          entries := [], owner := if u.owner == some (m.g, m.k) then none else u.owner })).modCtxOf m.g m.k (fun c => { c with
            sys := { c.sys with mgMatch := false, mgOwn := false } }))) ∧
      (∀ l src dst rl, m.kind = .merge l src dst rl → exec .mgCommandComplete s = .next (fillLines m.g (m.base + dst)
        (rowData (mergeRows (map l) (readRows v m.g (m.base + src) rl (map l).oldn))) v)) ∧
      (∀ l src dst rl, m.kind = .unmerge l src dst rl → exec .mgCommandComplete s = .next (fillLines m.g (m.base + dst)
        (rowData ((map l).pos.map (fun p => (readRows v m.g (m.base + src) rl (map l).nc).getD p []))) v)) ∧
      (∀ l dst, m.kind = .logs l dst →
        let bytes := packNumbers 2 (map l).nc ((map l).size.map lnSize)
        let rest := (128 - bytes.length % 128) % 128
        let w := fillLines m.g (m.base + dst) ((chunks 128 (bytes.length / 128 + 1) (bytes ++ openBytes v rest)).map (fun b => BitVec.ofNat 1024 (leNat b))) v
        exec .mgCommandComplete s = .next { w with tick := v.tick + rest })) ∧
    (∀ g k pc t rest, s.liveClaims cl = (g, k, pc, t) :: rest →
      (s.event = some (.mergeClaim cl) → u.owner = none → exec .mergeClaim s = .next (passed g k)) ∧
      (∀ og ok, u.owner = some (og, ok) → u.matching og ok = false →
        let o := ((s.coreAt og).ctxs[ok.toNat]).state
        (s.event = some (.mergeClaim cl) → o = .halt ∨ o = .drain ∨ o = .free ∨ o = .evicting → exec .mergeClaim s = .next (passed g k)) ∧
        (s.event = some (.mergeClaimTimeout cl) → max u.ownerCmd.toNat t.toNat + 65536 ≤ s.tnow.toNat → exec .mergeClaimTimeout s = .next (passed g k))))

/-- R465 to R482 and R551: protected worlds are made and destroyed, a program is loaded only when every leaf of its region verifies, else the launch ends and
the cores loaded for it are cleared, a core that leaves a world is cleared, the
cipher unit finishes its lines in order, and a re-key rewrites its region under the next major counter; a SEAL that it kept waiting takes its counters
after it.
It rests on the model's own choices: log 5, 6, 7, 8, 19, 127, 128, 130, 131, 132, 133. -/
def Obligations.WorldEvents : Prop :=
  ∀ (s : State) (w : BitVec 4),
    (∀ id j rest, s.event = some (.cipherLineDone id) → s.cr.cipher = j :: rest → j.id = id → (s.region j.world.toNat j.region).state ≠ 2 →
      let reg := s.region j.world.toNat j.region
      let n := if j.open_ = true ∧ reg.kind = 3 then 32 else 1
      let t := if j.open_ = false then sealLine j s else if reg.kind = 3 then openLeaf j s else openLine j s
      exec .cipherLineDone s = .next { t with cr := { t.cr with cipher := if j.count ≤ j.done + n then rest else { j with done := j.done + n } :: rest } }) ∧
    (∀ r : BitVec 6, let reg := s.region w.toNat r.toNat
      (∀ t, s.event = some (.rekey w r) → reg.state = 2 → reg.rekeyed = false → s.pinnedIn reg.obj reg.page0 reg.span = true →
        s.retryPins reg.obj reg.page0 reg.span = some t → exec .rekey s = .next t) ∧
      (s.event = some (.rekey w r) → reg.state = 2 → reg.rekeyed = false → s.pinnedIn reg.obj reg.page0 reg.span = false →
        let out := (List.range reg.lines).foldl (fun acc i => rekeyLine w.toNat r.toNat i reg.major (reg.major + 1) reg acc) (reg.minors, s)
        exec .rekey s = .next ((out.2.modRegion w.toNat r.toNat (fun g =>
          { g with major := reg.major + 1, minors := out.1, clean := true, rekeyed := true })).retakeSeals w.toNat r.toNat)) ∧
      (s.event = some (.rekeyComplete w r) → reg.state = 2 → reg.rekeyed = true →
        exec .rekeyComplete s = .next (s.modRegion w.toNat r.toNat (fun g => { g with state := 1, rekeyed := false, clean := true })))) ∧
    (∀ n i (t : Tab (BitVec 8)), let minor := fun (u : Tab (BitVec 8)) (j : Nat) => (tabGet u j).getD 0
      0 < n → (∀ j, 0 < j → j < n → minor t (i + j) ≠ 255) →
      (retakeMinors n i t).1 = (List.range n).map (fun j => if j = 0 then 0 else minor t (i + j) + 1) ∧
      (∀ j < n, minor (retakeMinors n i t).2 (i + j) = if j = 0 then 0 else minor t (i + j) + 1) ∧
      (∀ j, j < i ∨ i + n ≤ j → minor (retakeMinors n i t).2 j = minor t j)) ∧
    (∀ tn key rs, s.event = some (.worldCreate w tn key rs) → w ≠ 0 → tabGet s.worlds w.toNat = none → exec .worldCreate s = .next { s with
      worlds := tabSet s.worlds w.toNat { tenant := tn, key := key, regions := rs.foldl (s.publishIn w.toNat) [] } }) ∧
    (∀ wd key rs, s.event = some (.worldCreate w wd.tenant key rs) → w ≠ 0 → tabGet s.worlds w.toNat = some wd → exec .worldCreate s = .next { s with
      worlds := tabSet s.worlds w.toNat { wd with regions := rs.foldl (s.publishIn w.toNat) wd.regions } }) ∧
    (∀ t (p : RegionSpec), (∀ e ∈ t, e.1 ≠ p.index ∧ e.2.obj = p.obj → e.2.page0 + e.2.pages ≤ p.page0 ∨ p.page0 + p.pages ≤ e.2.page0) →
      p.sound s = true → p.kind = 3 → tabGet t p.index = none → s.publishIn w.toNat t p = tabSet t p.index (publish p)) ∧
    (∀ t (p : RegionSpec) e, e ∈ t → e.1 ≠ p.index → e.2.obj = p.obj → p.page0 < e.2.page0 + e.2.pages → e.2.page0 < p.page0 + p.pages →
      s.publishIn w.toNat t p = t) ∧
    (s.event = some (.worldDestroy w) → (tabGet s.worlds w.toNat).isSome = true → (∀ c ∈ s.cores, c.2.world ≠ w) →
      exec .worldDestroy s = .next { s with worlds := tabErase s.worlds w.toNat }) ∧
    (∀ g l, s.event = some (.coreClear g) → (s.coreAt g).clearing = true → (∀ k : BitVec 2, ((s.coreAt g).ctxs[k.toNat]).state = .free) →
      ∃ t, exec .coreClear s = .next t ∧ (t.coreAt g).world = 0 ∧ (t.coreAt g).clearing = false ∧ (t.coreAt g).program = none ∧
        (l < 2 ^ 22 → memByte t.scratch (g * 2 ^ 22 + l) = 0) ∧ (l < 2 ^ 18 → memByte t.imem (g * 2 ^ 18 + l) = 0) ∧
        (∀ b, b < g * 2 ^ 22 ∨ (g + 1) * 2 ^ 22 ≤ b → memByte t.scratch b = memByte s.scratch b) ∧
        (∀ b, b < g * 2 ^ 18 ∨ (g + 1) * 2 ^ 18 ≤ b → memByte t.imem b = memByte s.imem b) ∧ t.hbm = s.hbm ∧ t.pool = s.pool ∧ t.host = s.host) ∧
    (∀ g n l, s.event = some (.programLoad g n) → s.launches.find? (fun l => l.tenant.toNat * 2 ^ 32 + l.number.toNat == n) = some l →
      let c := s.coreAt g
      let (obj, off, count) := l.program
      l.world ≠ 0 → c.clearing = false → c.world = l.world ∨ (c.world = 0 ∧ ∀ k : BitVec 2, (c.ctxs[k.toNat]).state = .free) → c.holds l.image = false →
      (∀ k : BitVec 2, (c.ctxs[k.toNat]).state = .free) →
      let fails := ∃ t, exec .programLoad s = .next t ∧ t.launches = (s.endLaunch l 2 0x0E).launches ∧ t.imem = s.imem ∧ ∀ e ∈ s.cores,
        t.coreAt e.1 = { s.coreAt e.1 with clearing := (s.coreAt e.1).clearing || ((s.coreAt e.1).world == l.world && (s.coreAt e.1).holds l.image &&
          (s.coreAt e.1).ctxs.all (fun k => k.state == .free)) }
      (s.rangeRegion l.world (obj * 2 ^ 40 + off) ((32 * count + 127) / 128) = none → fails) ∧
      (∀ r reg, s.rangeRegion l.world (obj * 2 ^ 40 + off) ((32 * count + 127) / 128) = some (r, reg) →
        let first := reg.index (obj * 2 ^ 40 + off) / 32
        let last := (reg.index (obj * 2 ^ 40 + off) * 128 + 32 * count - 1) / 4096
        let leaf := fun (i : Nat) => byteNats (s.homeRead (s.regionPool reg) reg.obj (reg.page0 * 65536 + i * 4096) 4096)
        let plain := ((List.range (last + 1 - first)).map (fun i => ((chunks 128 32 (leaf (first + i))).zipIdx.map (fun x =>
          ctrLine (s.regionKey l.world.toNat r false) 0 (32 * (first + i) + x.2) 0 x.1)).flatten)).flatten
        let bundles := (plain.drop (off - reg.page0 * 65536 - 4096 * first)).take (32 * count)
        (reg.kind ≠ 3 ∨ (∃ i < 16 * reg.pages, leafVerifies reg i (leaf i) = false) → fails) ∧
        (reg.kind = 3 → (∀ i < 16 * reg.pages, leafVerifies reg i (leaf i) = true) →
          ∃ t, exec .programLoad s = .next t ∧ (t.coreAt g).world = l.world ∧ (t.coreAt g).program = some l.image ∧
            (∀ b < bundles.length, memByte t.imem (g * 2 ^ 18 + b) = BitVec.ofNat 8 (bundles.getD b 0)) ∧
            (∀ b, bundles.length ≤ b → b < 2 ^ 18 → memByte t.imem (g * 2 ^ 18 + b) = 0) ∧
            (∀ wd, tabGet s.worlds l.world.toNat = some wd →
              let d := sha384 (Config.measureHeader l.tenant.toNat l.world.toNat l.number.toNat reg.root ++ bundles)
              tabGet t.worlds l.world.toNat = some (if reg.root ∈ wd.measured then wd
                else { wd with
                  measured := wd.measured ++ [reg.root]
                  meas := BitVec.ofNat 384 (digestNat (sha384 (byteNats (leBytes 48 wd.meas.toNat) ++ d))) })) ∧
            t.scratch = s.scratch ∧ t.hbm = s.hbm ∧ t.pool = s.pool ∧ t.host = s.host ∧ t.launches = s.launches))) ∧
    (∀ (b : BitVec 8) d, s.event = some (.spdmGetMeasurements b) →
      (if b.toNat / 16 = 1 then (tabGet s.worlds (b.toNat % 16)).map World.meas else tabGet s.measures b.toNat) = some d →
      exec .spdmGetMeasurements s = .next { s with sent := s.sent ++ [.measurement b d] })

/-- R427 to R432, R434, R436 to R438: the answers to LACQ, LRENEW and LREL, the home's grant of a range that no other lease meets, a lease's
expiry, and its renewals by the lease unit and by the host.
It rests on the model's own choices: log 108, 109, 110, 112, 178, 199, 201. -/
def Obligations.LeaseEvents : Prop :=
  ∀ (s : State) (k : BitVec 2) (id : Nat) (token : BitVec 64),
    (∀ o d r w arg sent rel pre, s.queued k id = some (o, pre) →
      let done := fun (t : State) (v : Word) => t.modCtxAt k (fun c => (c.setX d v).unqueue id)
      let tenant := (s.ctxAt k).sys.tenant
      (o.kind = .lease 0 d r w arg sent rel → (∀ b ∈ s.bulks, b.id ≠ id) →
        (s.event = some (.leaseGrant k id) → s.cr.copy id = none → ∀ page count, r.pages = some (page, count) →
          (∀ t l, s.acquireLease tenant r.obj page count w arg.toNat sent none = (t, .ok l) →
            exec .leaseGrant s = .next (t.modCtxAt k (fun c => (c.setX d l.token).rekind id (.acquire 4 none)))) ∧
          (∀ t n, s.acquireLease tenant r.obj page count w arg.toNat sent none = (t, .error n) →
            exec .leaseGrant s = .next (done t (BitVec.ofNat 64 n)))) ∧
        (s.event = some (.leaseAcquireTimeout k id) → sent.now.toNat + 96000 ≤ s.tnow.toNat → exec .leaseAcquireTimeout s = .next (done s 2))) ∧
      (o.kind = .lease 2 d r w arg sent rel → s.event = some (.leaseReleaseResponse k id) → (∀ q ∈ pre, some q.id ≠ rel) →
        (s.heldLease tenant r arg = none → exec .leaseReleaseResponse s = .next (done s 1)) ∧
        (∀ l, s.heldLease tenant r arg = some l → exec .leaseReleaseResponse s = .next (done (s.releaseLease l sent.gen) 0)))) ∧
    (∀ (tenant : BitVec 4) obj page count w term sent owner, s.regionsFull tenant obj page count = false →
      (s.leaseEntries obj < 4096 → s.olderGen obj sent.gen = false → (∀ e ∈ s.pageTokens, e.2.toNat < 2 ^ 64 - 1) →
        (∀ l ∈ s.liveLeases, l.meets obj page count = true → l.ours tenant = false ∧ w = false ∧ l.write = false) →
        ∃ l t, s.acquireLease tenant obj page count w term sent owner = (t, .ok l) ∧ 15 < l.token.toNat ∧ l.write = w ∧ l.term = term ∧
          l.until_ = s.tnow.toNat + term * 1500 ∧ l.obj = obj ∧ l.page = page ∧ l.count = count ∧ l.tenant = tenant ∧
          (∀ e ∈ s.pageTokens, obj * 2 ^ 24 + page ≤ e.1 → e.1 < obj * 2 ^ 24 + page + count → e.2.toNat < l.token.toNat)) ∧
      (s.leaseEntries obj < 4096 → s.olderGen obj sent.gen = true ∨
          (∃ l ∈ s.liveLeases, l.meets obj page count = true ∧ l.ours tenant = false ∧ (w = true ∨ l.write = true)) →
        s.acquireLease tenant obj page count w term sent owner = (s.johel sent.lt, .error 0))) ∧
    (∀ e : LeaseEntry, ∀ (l : HomeLease) sent owner, e.isOf l.tenant l.obj l.page l.count l.token = false → e ∈ s.leases → e ∈ (s.enterLease l sent owner).leases) ∧
    (∀ r, s.event = some (.leaseRenewResponse id) → s.renewals.find? (fun r => r.id == id) = some r →
      let rest : State := { s with renewals := s.renewals.erase r }
      (rest.homeRenew r = none → exec .leaseRenewResponse s = .next ((rest.johel r.sent.lt).answerRenewal r 1)) ∧
      (∀ v, rest.homeRenew r = some v →
        let t := v.johel r.sent.lt
        let held := fun (l : LeaseEntry) => l.isOf r.tenant r.obj r.page r.count r.token && t.tnow.toNat < l.expiry
        (t.leases.find? held = none → exec .leaseRenewResponse s = .next (if r.hw then t.postRecord r.tenant (.leaseEvent r.obj r.page 7) else t.answerRenewal r 1)) ∧
        (∀ l, t.leases.find? held = some l → exec .leaseRenewResponse s = .next (({ t with
          leases := t.leases.map (fun o => if o == l then { o with expiry := packageExpiry r.sent.now.toNat o.term, noticed := false } else o) } :
            State).answerRenewal r 0)))) ∧
    (∀ l, s.event = some (.leaseExpiry token) → s.leases.find? (fun l => l.token == token && l.expiry ≤ s.tnow.toNat) = some l →
      exec .leaseExpiry s = .next (s.forgetLease l)) ∧
    (∀ l, s.event = some (.leaseRenewalDue token) →
      s.leases.find? (fun l => l.token == token && !l.noticed && l.halfTerm s.tnow.toNat && s.forLaunch l) = some l →
      let t : State := { s with leases := s.leases.map (fun o => if o == l then { o with noticed := true } else o) }
      exec .leaseRenewalDue s = .next (if (s.tenant l.tenant).rnmode then t.postRecord l.tenant (.leaseHalfTerm l.obj l.page l.token) else t.sendRenewal l)) ∧
    (∀ (obj page : BitVec 24) l, s.event = some (.hostLeaseRenewal obj page token) →
      s.leases.find? (fun l => l.obj == obj.toNat && l.page == page.toNat && l.token == token && l.owners.any Option.isSome) = some l →
      exec .hostLeaseRenewal s = .next { s with
        nextId := s.nextId + 1
        renewals := s.renewals ++ [{ id := s.nextId, tenant := l.tenant, obj := l.obj, page := l.page, count := l.count, token := l.token
                                     sent := { now := s.tnow, lt := s.lt, gen := s.headerGen l.obj }, hw := true }] })

/-- R342, R401, R445 to R447 and R91: Jasper's bulk gets are made, granted, asked again and counted as their pages become resident, BGET
counts its pages too, checkpoint jobs are posted and go on by pages, and the command processor sets TSTEP.
It rests on the model's own choices: log 106, 117, 118, 120, 177, 178, 198, 202. -/
def Obligations.JasperEvents : Prop :=
  ∀ (s : State) (k : BitVec 2) (id : Nat),
    (∀ b, s.bulks.find? (fun b => b.id == id) = some b →
      (s.event = some (.leaseGrant k id) → b.kind ≠ 0 → b.granted = false → b.retryAt = none → b.stuck = false →
        let got := s.acquireLease b.tenant b.obj b.first b.count (b.kind == 2) 2000 b.sent (some b.launch)
        (∀ t l, got = (t, .ok l) → exec .leaseGrant s = .next (t.modBulk id (fun b => { b with granted := true, retryAt := none }))) ∧
        (∀ t, got = (t, .error 0) → exec .leaseGrant s = .next (t.modBulk id (fun b => { b with retryAt := some (t.tnow + 12000) }))) ∧
        (∀ t n, n ≠ 0 → got = (t, .error n) → exec .leaseGrant s =
          .next ((t.modBulk id (fun b => { b with stuck := true })).postRecord b.tenant (.leaseEvent b.obj b.first n)))) ∧
      (s.event = some (.leaseAcquireTimeout k id) → b.kind ≠ 0 → b.granted = false → b.retryAt = none → b.stuck = false →
        b.sent.now.toNat + 96000 ≤ s.tnow.toNat → exec .leaseAcquireTimeout s =
          .next ((s.modBulk id (fun b => { b with stuck := true })).postRecord b.tenant (.leaseEvent b.obj b.first 2))) ∧
      (s.event = some (.bulkGetPage id) →
        let left := b.pages.filter (fun p => (s.leafOf b.obj p).state != .resident)
        (s.rangeAbsent b.obj b.pages = false → left.length ≠ b.pages.length →
          exec .bulkGetPage s = .next (s.modBulk id (fun b => { b with pages := left }))) ∧
        (s.rangeAbsent b.obj b.pages = true → b.stuck = false → exec .bulkGetPage s =
          .next ((s.modBulk id (fun b => { b with stuck := true })).postRecord b.tenant (.leaseEvent b.obj b.first 5))))) ∧
    (∀ m, (∀ b ∈ s.bulks, b.id ≠ id) → s.cr.copy id = some m → m.op = .bget → m.phase = .active → s.rekeyHolds m = false →
      let obj := m.desc.rowAddr .bget 0 / 2 ^ 40
      (s.event = some (.leaseGrant k id) → m.desc.rows ≠ 0 → m.granted = false →
        let pages := m.desc.bgetPages
        let got := s.acquireLease (s.ctxAt m.k).sys.tenant obj (pages.headD 0) pages.length (m.desc.rows == 2) 2000 m.sent none
        (∀ t l, got = (t, .ok l) → exec .leaseGrant s = .next (t.modCopy m.id (fun m => { m with granted := true }))) ∧
        (∀ t n, got = (t, .error n) → exec .leaseGrant s = .next (failCopy m 0x10 t))) ∧
      (∀ p, s.event = some (.bulkGetPage id) → m.desc.rows = 0 ∨ m.granted = true →
        m.todo.find? (fun p => (s.leafOf obj p).state == .resident) = some p →
        let n := m.desc.bgetBytes p
        let t := s.modCopy id (fun m => { m with todo := m.todo.filter (fun q => q != p), bytesLeft := m.bytesLeft - n })
        exec .bulkGetPage s = .next (match m.ref with
          | some r => t.subtractLater r n false
          | none => t))) ∧
    (∀ l, s.launch id = some l →
      (∀ e kind obj first n, s.event = some (.jasperWalk id) → l.running = true →
        l.gets.find? (fun g => !s.bulks.any (fun b => b.serves l g)) = some (e, kind, obj, first, n) →
        (s.bulks.filter (fun b => b.open_ && b.obj % 2 == obj % 2)).length < 64 →
        exec .jasperWalk s = .next { s with
          nextId := s.nextId + 1
          bulks := s.bulks ++ [{ id := s.nextId, tenant := l.tenant, launch := l.number, entry := e, kind := kind, obj := obj
                                 pages := (List.range n).map (fun i => first + i), first := first, count := n, sent := s.sentNow obj }] }) ∧
      (∀ b, s.event = some (.jasperWalk id) → l.running = true → (∀ g ∈ l.gets, ∃ b ∈ s.bulks, b.serves l g = true) →
        s.bulks.find? (fun b => l.gets.any (fun g => b.serves l g) && !(s.lostPages b).isEmpty) = some b → s.bulkRoom b.obj = true →
        exec .jasperWalk s = .next (s.modBulk b.id (fun b => { b with pages := s.lostPages b }))) ∧
      (∀ due : BulkGet → Bool, due = (fun b => b.tenant == l.tenant && b.launch == l.number &&
          (match b.retryAt with | some t => decide (t.toNat ≤ s.tnow.toNat) | none => false)) →
        s.event = some (.leaseRetry id) → (∃ b ∈ s.bulks, due b = true) →
        exec .leaseRetry s = .next { s with bulks := s.bulks.map (fun b => if due b then { b with retryAt := none, sent := s.sentNow b.obj } else b) })) ∧
    (∀ post t list src dst, s.event = some (.checkpointJob post t list src dst) →
      (∀ l, post = true → tabGet (s.tenant t).lists list.toNat = some l →
        exec .checkpointJob s = .next { s with
          jobs := s.jobs ++ [{ tenant := t, list := l.filter (fun e => e.1 = src.toNat), src := src.toNat, dst := dst.toNat }] }) ∧
      (∀ j, post = false → s.jobs.find? (fun j => j.src % 2 == src.toNat % 2) = some j →
        (j.list = [] → exec .checkpointJob s = .next (({ s with jobs := s.jobs.erase j } : State).postRecord j.tenant (.jobDone j.src j.dst j.copied))) ∧
        (∀ x page more, j.list = (x, page) :: more → exec .checkpointJob s = .next { s.copyPage j.src j.dst page with
          jobs := s.jobs.replace j { j with list := more, copied := j.copied + 1 } }))) ∧
    (∀ v, s.event = some (.tstepSet v) → exec .tstepSet s = .next { s with tstep := v })

/-- R73 and R88: what a context of a task holds when its gang is dispatched. R84 to R86, R106, R107, R109 and R499: a gang's contexts are evicted
and its images written, it comes back in its turn, a gang passed over for 2^16 cycles is reserved, and a context that has drained leaves
its core with its lines zero. R85 and R483: an image holds the context with its tracker counts at zero, and its lines and tile rows, encrypted for a
protected world.
It rests on the model's own choices: log 19, 39, 135, 136, 137, 138, 145, 170, 184, 193, 194, 206. -/
def Obligations.GangEvents : Prop :=
  ∀ (s : State) (k : BitVec 2) (key : Nat),
    (∀ l gang stage task g base tile,
      let c := s.newCtx l gang stage task g k base tile
      c.state = .ready ∧ c.pc = 0 ∧ c.xVal 1 = BitVec.ofNat 64 task ∧ c.xVal 2 = BitVec.ofNat 64 gang ∧ c.xVal 3 = BitVec.ofNat 64 stage ∧
      c.xVal 4 = (if l.nsteps = 0 then 0 else BitVec.ofNat 64 l.next) ∧ c.xVal 5 = s.argWord l 0 ∧ c.xVal 6 = s.argWord l 1 ∧
      c.xVal 7 = s.argWord l 2 ∧ (∀ n : BitVec 6, 8 ≤ n.toNat → c.xVal n = 0) ∧ (∀ n : BitVec 6, c.xEmpty n = false) ∧
      (∀ n : BitVec 4, n ≠ 0 → c.pVal n = false) ∧ (∀ n : BitVec 3, n ≠ 0 → c.kVal n = 0) ∧ (∀ n : BitVec 5, c.cEmpty n = false) ∧
      (∀ (n : BitVec 5) o cap, 2 ≤ n.toNat → l.operands[n.toNat - 2]? = some o → s.operandCap o = some cap → c.cVal n = cap) ∧
      (∀ n : BitVec 5, l.operands.length + 2 ≤ n.toNat → c.cVal n = {}) ∧ c.mq = [] ∧ c.waits = [] ∧
      c.sys.task = BitVec.ofNat 6 task ∧ c.sys.gang = BitVec.ofNat 16 gang ∧ c.sys.stage = BitVec.ofNat 4 stage ∧ c.sys.launch = l.number ∧
      c.sys.world = l.world ∧ c.sys.tenant = l.tenant ∧ c.sys.kself = k) ∧
    (s.event = some (.gangEvict key) → (∃ c ∈ s.gangCtxs key, c.2.2.evictable = true) →
      exec .gangEvict s = .next { s.mapCtxs (fun c => if c.gangKey == key && c.evictable then
        { c with was := if c.state == .page || c.state == .halt then c.state else .ready, state := .evicting } else c) with
        evicting := s.evicting.filter (fun e => e != key) ++ [key] }) ∧
    (let c := s.ctxAt k;
      s.event = some (.evictionComplete k) → c.state = .evicting → s.quietCtx k = true → s.gangCopies c.gangKey = false →
      (s.writesOf k = true → (s.clusterAt (clusterOf s.g)).cache.any CLine.pin = true → exec .evictionComplete s = .next (s.endPins (clusterOf s.g))) ∧
      (s.writesOf k = false → c.drainRel = false →
        let u := (s.flushDA (fun _ _ => false) (fun g _ => g == s.g)).releaseMerge s.g k true
        exec .evictionComplete s = .next (((u.writeImage k).fillAllotment s.g c).modCtxAt k (fun c => { c with drainRel := true }))) ∧
      (s.writesOf k = false → c.drainRel = true → s.linesWanted s.g c = false →
        ∃ t, exec .evictionComplete s = .next t ∧ (t.ctxAt k).state = .free ∧ (∀ m ∈ t.cr.copies, m.k ≠ k) ∧ t.images = s.images ∧
          ∀ i < c.sys.allocSize.toNat, t.lineAt (lineKey s.g (c.sys.allocBase.toNat + i)) = 0)) ∧
    (let c := s.ctxAt k;
      ∃ i ∈ (s.writeImage k).images, i.key = c.gangKey ∧ ∃ n e, i.ctxs[n]? = some e ∧
        e.was = c.was ∧ e.pc = c.pc ∧ e.x = c.x ∧ e.c = c.c ∧ e.p = c.p ∧ e.k = c.k ∧ e.d = c.d ∧ e.sys = c.sys ∧ e.waits = c.waits ∧ e.extents = [] ∧
        (∀ l ∈ s.imageLines s.g c, (n * 32768 + l.1, i.crypt (2 * (n * 32768 + l.1)) l.2.1, l.2.2) ∈ i.lines) ∧
        (∀ r ∈ s.imageTiles s.g c, (n * 3072 + r.1, i.crypt (2 * (n * 3072 + r.1) + 1) r.2) ∈ i.tileRows) ∧
        (c.sys.world = 0 → (s.images.find? (fun i => i.key == c.gangKey)) = none → ∀ j w (v : BitVec w), i.crypt j v = v) ∧
        e.track.map TrackEntry.range = c.track.map TrackEntry.range ∧
        (∀ t ∈ e.catchAll :: e.track.toList, t.stores = [] ∧ t.copies = [] ∧ t.atomics = []) ∧
        (∀ r ∈ s.imageReleased s.g c, n * 48 + r ∈ i.released) ∧ (∀ m ∈ s.cr.copies, m.k = k → (n, m) ∈ i.copies)) ∧
    (∀ i t, s.event = some (.gangRestore key) → s.images.find? (fun i => i.key == key) = some i →
      (s.turn = some (.inl key) ∨ i.alive = [] ∨ ∀ l ∈ s.launches, ¬(l.tenant = i.tenant ∧ l.number = i.launch)) → restoreGang key s = some t →
      exec .gangRestore s = .next { t with reserved := if t.reserved == some key then none else t.reserved, passed := tabErase t.passed key }) ∧
    (∀ i, s.images.find? (fun i => i.key == key) = some i → (∀ l ∈ s.launches, ¬(l.tenant = i.tenant ∧ l.number = i.launch)) →
      restoreGang key s = some { s with images := s.images.filter (fun x => x.key != key) }) ∧
    (∀ t p, s.event = some (.gangReserve key) → tabGet s.passed key = some t → s.gangLevel key = some p →
      (s.reserved = none ∨ ∃ q, s.reservedLevel = some q ∧ q.toNat < p.toNat) → t.toNat + 2 ^ 16 ≤ s.tnow.toNat →
      exec .gangReserve s = .next { s with reserved := some key }) ∧
    (let c := s.ctxAt k;
      s.event = some (.drainComplete k) → c.state = .drain → s.quietCtx k = true → (∀ m ∈ s.cr.copies, m.k = k → m.hasFailed = true) →
      (c.drainRel = false → exec .drainComplete s =
        .next (((s.endPins (clusterOf s.g)).fillAllotment s.g c).modCtxAt k (fun c => { c with drainRel := true }))) ∧
      (c.drainRel = true → s.writesOf k = false → s.linesWanted s.g c = false →
        ∃ u : State, exec .drainComplete s = .next (u.settle (c.sys.tenant.toNat * 2 ^ 32 + c.sys.launch.toNat)) ∧ (u.ctxAt k).state = .free ∧
          (∀ m ∈ u.cr.copies, m.k ≠ k) ∧ (∀ i < c.sys.allocSize.toNat, u.lineAt (lineKey s.g (c.sys.allocBase.toNat + i)) = 0) ∧
          u.launches.length = s.launches.length ∧
          (∀ l ∈ s.launches, l.tenant = c.sys.tenant → l.number = c.sys.launch → ∃ m ∈ u.launches, m.number = l.number ∧ m.tasksLeft = l.tasksLeft - 1)))

/-- R486, R487, R489, R490, R494, R495, R497, R501 to R505: a dispatch opportunity reads the head of a ring or takes its turn; notifies, the mapping
and unmapping of queues, the tenant's mode, DISPATCH and EVCI writes, and armed tags with their messages have the effects the rules give.
It rests on the model's own choices: log 113, 115, 139, 140, 141, 142, 143, 144, 191, 203, 204, 207. -/
def Obligations.DispatchEvents : Prop :=
  ∀ (s : State) (tn : BitVec 4),
    (s.event = some .dispatchOpportunity →
      let ended := s.launches.find? (fun l => l.over && (s.writeCompletion l).isSome)
      let head := s.queues.find? (fun q => s.wantsHead q && s.readable (s.headReads q))
      (∀ l, ended = some l → exec .dispatchOpportunity s = .next (s.finishLaunch l)) ∧
      (ended = none → s.power = .run → s.stopped = false →
        (∀ t, s.askPins = some t → exec .dispatchOpportunity s = .next t) ∧
        (∀ q, s.askPins = none → head = some q →
          let e := leNat (s.objectBytes (bitsOf q.base.toNat 63 40) (bitsOf q.base.toNat 39 0 + 16 * (q.ci.toNat % 2 ^ q.log2size.toNat)) 16)
          let obj := bitsOf e 23 0
          let off := bitsOf e 63 24
          let l := { s.readLaunch q.tenant obj off with queue := some q.key, origin := some q.key, prio := q.pri }
          exec .dispatchOpportunity s = .next (if s.ownsLocal q.tenant q.head.1 q.head.2.1 16 = false then
              (s.disableQueue q).postRecord q.tenant (.queueError q.q q.ci)
            else if bitsOf e 127 80 ≠ 0 ∨ off % 16 ≠ 0 ∨ s.ownsObject q.tenant obj = false then
              (s.modQueue q.key (fun q => { q with ci := q.ci + 1 })).postRecord q.tenant (.queueError q.q q.ci)
            else s.submit l (s.recordFault l obj off (bitsOf e 79 64) false))) ∧
        (∀ t, s.askPins = none → head = none → s.turn = some (.inr t) → exec .dispatchOpportunity s = .next t) ∧
        (s.askPins = none → head = none → s.turn = none → exec .dispatchOpportunity s =
          .next { s.notePassed with opportunity := false, dispatchAt := s.tnow }))) ∧
    (∀ (n : BitVec 8) v, s.event = some (.doorbellNotify tn n v) →
      let key := tn.toNat * 256 + n.toNat
      (s.queue key = none → exec .doorbellNotify s = .next (({ s with
        queues := s.queues ++ [{ tenant := tn, q := n.toNat, unmapped := some v }] } : State).postRecord tn (.unmappedNotify n.toNat))) ∧
      (∀ q, s.queue key = some q →
        (q.mapped = false ∨ q.disabled = true → q.unmappedAt = some s.tnow → exec .doorbellNotify s = .next (s.modQueue key (fun q =>
          if v ≠ q.pi ∧ (v - q.pi).toNat < 2 ^ 31 then { q with pend := v, pv := true } else q))) ∧
        (q.mapped = false ∨ q.disabled = true → q.unmappedAt ≠ some s.tnow →
          let t := s.modQueue key (fun q => { q with unmapped := some v })
          exec .doorbellNotify s = .next (if q.unmapped = none then t.postRecord tn (.unmappedNotify n.toNat) else t)) ∧
        (q.mapped = true → q.disabled = false →
          exec .doorbellNotify s = .next (if 2 ^ q.log2size.toNat < (v - q.ci).toNat then
              (s.modQueue q.key (fun q => { q with disabled := true, rewritten := false, mapped := false, slot := 0 })).postRecord q.tenant
                (.queueDisabled q.q)
            else if (v - q.pi).toNat < 2 ^ 31 then { s.modQueue q.key (fun q => { q with pi := v }) with opportunity := true } else s)))) ∧
    (∀ (n : BitVec 8) d q, s.event = some (.queueMap tn n (some d)) → s.queue (tn.toNat * 256 + n.toNat) = some q →
      exec .queueMap s = .next (s.modQueue q.key (fun q => { q with
        desc := d, rewritten := true, pend := BitVec.ofNat 32 (bitsOf d.toNat 191 160), pv := d.getLsbD 192 }))) ∧
    (∀ (n : BitVec 8) q slot, s.event = some (.queueMap tn n none) →
      let key := tn.toNat * 256 + n.toNat
      let f := bitsOf q.desc.toNat
      s.queue key = some q → s.freeSlot = some slot → q.mapped = false → (∀ o ∈ s.queues, o.tenant = tn → s.idleQueue o = false) →
      q.unmapped ≠ none ∨ q.pv = true → q.disabled = false ∨ q.rewritten = true →
      let sound := descBad q.desc = false ∧ s.ownsLocal tn (f 63 40) (f 39 0) (16 * 2 ^ f 68 64) = true
      let t := s.modQueue key (fun q => { q with unmapped := none, pv := false, pend := 0, unmappedAt := none })
      (¬sound → exec .queueMap s = .next ((t.disableQueue q).postRecord tn (.queueError n.toNat 0))) ∧
      (sound → exec .queueMap s =
        let q' : Queue := { q with
          slot := slot, mapped := true, disabled := false, unmapped := none, pv := false, pend := 0, unmappedAt := none
          pri := BitVec.ofNat 2 (f 194 193), log2size := BitVec.ofNat 5 (f 68 64), base := BitVec.ofNat 64 (f 63 0), idleSince := s.tnow }
        .next ((t.modQueue key (fun _ => q')).applyNotify q' (q.unmapped.getD q.pend)))) ∧
    (∀ (n : BitVec 6) q, s.event = some (.queueUnmap n) → s.queues.find? (fun q => q.mapped && q.slot = n.toNat) = some q → s.idleQueue q = true →
      (∃ o ∈ s.queues, o.mapped = false ∧ (o.unmapped.isSome = true ∨ o.pv = true)) →
      let t := s.modQueue q.key (fun q => { q with mapped := false, slot := 0, unmappedAt := some s.tnow })
      exec .queueUnmap s = .next { t with launches := t.launches.filter (fun l => l.queue != some q.key) }) ∧
    (∀ v, s.event = some (.dispatchWrite tn v) → exec .dispatchWrite s = .next (s.modTenant tn (fun te => { te with dispatchReg := v }))) ∧
    (∀ v, s.event = some (.tmodeWrite tn v) → ∃ t, exec .tmodeWrite s = .next (s.modTenant tn (fun _ => t)) ∧
      t.weight.toNat = max 1 (v.toNat / 2 ^ 40 % 256) ∧ t.llen.toNat = (if v.toNat / 2 ^ 16 % 4096 = 0 then 16 else v.toNat / 2 ^ 16 % 4096) ∧
      t.rvmode = v.getLsbD 4 ∧ t.qsmode = v.getLsbD 3 ∧ t.otmode = v.getLsbD 2 ∧ t.rnmode = v.getLsbD 1 ∧ t.pfmode = v.getLsbD 0 ∧
      t.ring = (s.tenant tn).ring ∧ t.windows = (s.tenant tn).windows ∧ t.channels = (s.tenant tn).channels ∧ t.credits = (s.tenant tn).credits) ∧
    (∀ v, s.event = some (.evciWrite tn v) → let r := (s.tenant tn).ring
      (v - r.ci).toNat ≤ (r.evpi - r.ci).toNat → exec .evciWrite s =
        .next (s.modTenant tn (fun te => { te with ring := EvRing.spill { r with ci := v } r.overflow.length }))) ∧
    (∀ tag prio (obj : BitVec 24) (off : BitVec 40), s.event = some (.armTag tag tn prio obj off) →
      let l := s.readLaunch tn obj.toNat off.toNat
      tabGet s.armed tag.toNat = none → s.ownsObject tn obj.toNat = true → l.f 5 5 = 1 → l.f 227 216 = 0 → l.world = 0 → s.badSteps l obj.toNat = false →
      exec .armTag s = .next { s with armed := tabSet s.armed tag.toNat { tenant := tn, prio := prio, obj := obj.toNat, off := off.toNat } }) ∧
    (∀ tag a, s.event = some (.disarmTag tag tn) → tabGet s.armed tag.toNat = some a → a.tenant = tn →
      exec .disarmTag s = .next { s with armed := if a.busy then tabSet s.armed tag.toNat { a with disarm := true } else tabErase s.armed tag.toNat }) ∧
    (∀ src tag p, s.event = some (.armedMessage src tag p) →
      let refused := fun (busy : Bool) => (s.issueFlit 2 0 src.toNat 0 (0 :: leBytes 2 tag.toNat ++ [if busy then 1 else 0]) s.nextId).fresh
      (tabGet s.armed tag.toNat = none → exec .armedMessage s = .next (refused false)) ∧
      (∀ a, tabGet s.armed tag.toNat = some a →
        (p.length = 0 ∨ 4096 < p.length → exec .armedMessage s = .next (refused false)) ∧
        (1 ≤ p.length → p.length ≤ 4096 → a.busy = true → exec .armedMessage s = .next (refused true)) ∧
        (1 ≤ p.length → p.length ≤ 4096 → a.busy = false →
          let t : State := { s with armed := tabSet s.armed tag.toNat { a with payload := p, busy := true } }
          let l := { t.readLaunch a.tenant a.obj a.off with armed := some tag.toNat, prio := a.prio }
          exec .armedMessage s = .next (t.submit l (t.recordFault l a.obj a.off (128 + 16 * l.f 67 64 + 32 * l.f 62 58) true)))))

/-- R488, R506 to R508, R513 and R514: register, channel and window operations of the host have the effects the rules give, a posted write is cut
at 64-byte boundaries into the ingress buffer, and a tenant reset leaves no launch work, lease or armed tag of the tenant.
It rests on the model's own choices: log 100, 101, 102, 146, 147, 148, 149. -/
def Obligations.HostEvents : Prop :=
  ∀ (s : State) (tn : BitVec 4),
    (∀ fn off v, s.event = some (.registerWrite fn off v) → 0x100000 ≤ off.toNat → fn.toNat ≤ 16 → fn ≠ 0 ∨ 0x100400 ≤ off.toNat →
      (fn = 0 → mailboxAt off.toNat = true → exec .registerWrite s = .next { s with registers := tabSet s.registers off.toNat v }) ∧
      ((fn = 0 → mailboxAt off.toNat = false) → (fn ≠ 0 → channelField off.toNat = none) → exec .registerWrite s = .next s) ∧
      (∀ ch field, channelField off.toNat = some (ch, field) → fn ≠ 0 →
        exec .registerWrite s = .next (s.modChannel (BitVec.ofNat 4 (fn.toNat - 1)) ch (fun c => c.write field v)))) ∧
    (∀ ch : BitVec 4, let c := (s.tenant tn).channel ch.toNat
      (∀ v seen, s.event = some (.channelUpdate tn ch v seen) → c.halted = false →
        let c' : Channel := if c.dir then { c with prod := v } else { c with cons := v }
        exec .channelUpdate s = .next (if 2 ^ 63 ≤ (seen - c.resync).toNat ∨ c.size < (c'.prod - c'.cons).toNat then
            (s.modChannel tn ch.toNat (fun c => { c with halted := true })).postRecord tn (.channelHalted ch.toNat)
          else s.modChannel tn ch.toNat (fun _ => c'))) ∧
      (s.event = some (.channelReset tn ch) → ∃ d : Channel, exec .channelReset s = .next (s.modChannel tn ch.toNat (fun _ => d)) ∧
        d.prod = c.device ∧ d.cons = c.device ∧ d.halted = false ∧ d.base = c.base ∧ d.size = c.size ∧ d.dir = c.dir ∧ d.resync = c.resync)) ∧
    (∀ (n : BitVec 4) (obj : BitVec 24) (off : BitVec 40) (size : BitVec 25), s.event = some (.windowOpen tn n obj off size) →
      let w : HostWindow := { obj := obj.toNat, off := off.toNat, size := size.toNat }
      tabGet (s.tenant tn).windows n.toNat = none → size ≠ 0 → size.toNat % 65536 = 0 → size.toNat ≤ 2 ^ 24 →
      s.ownsLocal tn obj.toNat off.toNat size.toNat = true → (∀ p ∈ w.span, (s.leafOf obj.toNat p).state = .resident) →
      exec .windowOpen s = .next ((s.pinWindow w true).modTenant tn (fun te => { te with windows := tabSet te.windows n.toNat w }))) ∧
    (∀ (n : BitVec 4) w, s.event = some (.windowClose tn n) → tabGet (s.tenant tn).windows n.toNat = some w → s.hwinPending tn n.toNat none = false →
      exec .windowClose s = .next ((s.pinWindow w false).modTenant tn (fun te => { te with
        windows := tabErase te.windows n.toNat, ingress := te.ingress.filter (fun e => e.window != n.toNat) }))) ∧
    (∀ (a : BitVec 28) bytes p, s.event = some (.hostWindowWrite tn a bytes p) → s.noCredit tn a.toNat bytes p = false →
      let cut : List (Nat × List (Option (BitVec 8))) := cut64 (bytes.length / 64 + 2) a.toNat bytes
      (cut.map Prod.snd).flatten = bytes ∧ (∀ e ∈ cut, 1 ≤ e.2.length ∧ e.1 % 64 + e.2.length ≤ 64) ∧
      exec .hostWindowWrite s = .next (cut.foldl (fun s e =>
        match (s.tenant tn).windowAt e.1 with
        | some w =>
          if p then s.modTenant tn (fun te => { te with drops := w :: te.drops.filter (fun d => d != w) })
          else ({ s with nextId := s.nextId + 1 } : State).modTenant tn (fun te => { te with
            ingress := te.ingress ++ [{ id := s.nextId, at_ := s.tnow, window := w, off := e.1 % 2 ^ 24, bytes := e.2 }] })
        | none => s.modTenant tn (fun te => { te with drops := 0 :: te.drops.filter (fun d => d != 0) })) s)) ∧
    (s.event = some (.tenantReset tn) → ∃ u : State,
      exec .tenantReset s = .next ((u.launches.filter (fun l => l.tenant == tn)).foldl State.finishLaunch u) ∧
      (∀ l ∈ u.launches, l.tenant = tn → l.status = some (7, 0) ∧ l.stopping = true ∧ l.tasksLeft = 0) ∧ (∀ r ∈ u.renewals, r.tenant ≠ tn) ∧
      (∀ q ∈ u.queues, q.tenant = tn → q.mapped = false) ∧ (∀ e ∈ u.armed, e.2.tenant ≠ tn) ∧ (∀ l ∈ u.leases, l.tenant ≠ tn) ∧
      (∀ i ∈ u.images, i.tenant ≠ tn) ∧ (∀ b ∈ u.bulks, b.tenant ≠ tn) ∧ (∀ j ∈ u.jobs, j.tenant ≠ tn) ∧ (u.tenant tn).ingress = [] ∧
      (∀ ch < 16, ((u.tenant tn).channel ch).halted = true))

/-- R487, R515 to R527 and R529: flits are numbered, kept, checked, taken in link order, forwarded, delivered in SEQ order and resent; a lane map changes at
once, after 15 000 cycles or not at all, and a port that goes down gives its traffic back; windows, acknowledgements, slots and grants have the effects the rules
give.
It rests on the model's own choices: log 11, 155, 156, 157, 158, 190. -/
def Obligations.LinkEvents : Prop :=
  ∀ (s : State) (p : BitVec 5) (dst : BitVec 12) (ld : BitVec 1),
    (∀ (u : State) q h pl, let n := u.links.numbered q h
      let t := u.transmit q h pl
      hf n 95 88 = (u.links.port q).txSeq.toNat ∧ t.sent = u.sent ++ [.flit q n pl (crc32 (flitBytes n pl))] ∧
        (t.links.port q).txSeq = (u.links.port q).txSeq + 1 ∧ (∃ old, old ++ (t.links.port q).replay = (u.links.port q).replay ++ [(n, pl)]) ∧
        (t.links.port q).replay.length ≤ 256) ∧
    (∀ (u : State) q pl, let h := flitHeader 5 0 0 u.links.self 0 pl.length
      (u.links.torus = true → u.control q pl = u.transmit q h pl) ∧
      (u.links.torus = false → (u.control q pl).sent = u.sent ∧
        ((u.control q pl).links.port q).resend = (u.links.port q).resend ++ [(u.links.numbered q h, pl)])) ∧
    (∀ h pl crc, s.event = some (.flitReceive p h pl crc) → pl.length ≤ 240 →
      (s.links.port p.toNat).up = true ∨ hf h 87 84 = 5 →
      let q := s.links.port p.toNat
      let turn := hf h 95 88 = q.rxSeq.toNat
      let bad := 0 < q.spoiled ∨ crc32 (flitBytes h pl) ≠ crc
      let u := if q.spoiled = 0 then s else s.modPort p.toNat (fun q => { q with spoiled := q.spoiled - 1 })
      (bad → q.discarding = true → ¬turn → exec .flitReceive s = .next u) ∧
      (bad → q.discarding = false ∨ turn → exec .flitReceive s = .next (u.failFlit p.toNat)) ∧
      (¬bad → turn → s.links.noRoom (p.toNat / 16) h = true →
        exec .flitReceive s = .next ((s.control p.toNat [0, q.rxSeq]).modPort p.toNat (fun q => { q with discarding := true }))) ∧
      (¬bad → turn → s.links.noRoom (p.toNat / 16) h = false →
        let t := s.modPort p.toNat (fun q => { q with rxSeq := q.rxSeq + 1, discarding := false, fails := 0 })
        let type := hf h 87 84
        let malformed := 7 ≤ type ∨ hf h 15 0 ≠ 0 ∨ 240 < hf h 23 16
        let here := type = 5 ∨ hf h 79 68 = s.links.self
        let src := hf h 67 56
        let body := pl.take (hf h 23 16)
        let v := t.modLinks (fun l => { l with change := l.change.map (fun c => if c.coord = src then { c with heard := s.tnow } else c) })
        (malformed → exec .flitReceive s = .next (t.logHealth (8 + p.toNat / 16) 0 6 p.toNat type)) ∧
        (¬malformed → type = 0 → exec .flitReceive s = .next t) ∧
        (¬malformed → type ≠ 0 → ¬here → exec .flitReceive s = .next (t.post (p.toNat / 16) h pl)) ∧
        (¬malformed → here → 1 ≤ type → type ≤ 3 →
          let w := v.modIn src (fun i => i.take (p.toNat / 16) h body)
          exec .flitReceive s = .next ((State.dealPair src (w.links.inOf src).ready.length w).answerPair src)) ∧
        (¬malformed → type = 5 → ∀ m, (body = 1 :: m → exec .flitReceive s = .next (v.peerLanes p.toNat false (BitVec.ofNat 32 (leNat (m.take 4))))) ∧
          (body = 2 :: m → exec .flitReceive s = .next (v.peerLanes p.toNat true (BitVec.ofNat 32 (leNat (m.take 4)))))) ∧
        (¬malformed → type = 5 → ∀ l m, body = 0 :: l :: m →
          exec .flitReceive s = .next { v with inputs := .flitReplay p l :: s.inputs }) ∧
        (¬malformed → here → type = 4 → exec .flitReceive s = .next { v with inputs :=
          [.cumulativeAck (BitVec.ofNat 12 src) (flitSeq h), .windowGrant (BitVec.ofNat 12 src) (BitVec.ofNat 17 (leNat (body.take 4)))] ++ s.inputs }) ∧
        (¬malformed → here → type = 6 → exec .flitReceive s = .next { v with inputs := v.flitEvents p.toNat h body ++ s.inputs }))) ∧
    (∀ (u : State) q, let v := (u.control q [0, (u.links.port q).rxSeq]).modPort q (fun x => { x with discarding := true, fails := x.fails + 1 })
      ((u.links.port q).fails + 1 < 8 → u.failFlit q = v) ∧
      (8 ≤ (u.links.port q).fails + 1 → u.failFlit q = (v.retirePoor Port.overCount q).modPort q (fun x => { x with fails := 0 }))) ∧
    (∀ (i : PairIn) h pl, let seq := flitSeq h
      (∀ l, i.early = [] → seq = i.next → i.take l h pl = { i with next := i.next + 1, ready := i.ready ++ [(h, pl)] }) ∧
      (∀ l l' h' pl', i.early = [(l', h', pl')] → seq = i.next → flitSeq h' = i.next + 1 →
        i.take l h pl = { i with next := i.next + 2, early := [], ready := i.ready ++ [(h, pl), (h', pl')] }) ∧
      (∀ l, 0 < (seq - i.next).toNat → (seq - i.next).toNat < 2 ^ 31 → i.early = [] → i.take l h pl = { i with early := [(l, h, pl)] }) ∧
      (∀ l, 2 ^ 31 ≤ (seq - i.next).toNat → i.take l h pl = i)) ∧
    (∀ (u : State) src n h pl rest, (u.links.inOf src).ready = (h, pl) :: rest →
      (hf h 87 84 = 3 → State.dealPair src n u = u) ∧
      (hf h 87 84 ≠ 3 → State.dealPair src (n + 1) u = State.dealPair src n ((u.modIn src (fun i => { i with ready := rest })).dealFlit src h pl))) ∧
    (∀ (u : State) src, ∃ w, 16 ≤ w ∧ w ≤ 2 ^ 16 ∧ u.answerPair src = ({ u.modIn src (fun i => { i with window := w }) with tick := u.tick + 1 } : State).post 0
      (flitHeader 4 0 src u.links.self (u.links.inOf src).covered.toNat 4) (leBytes 4 w)) ∧
    (∀ now free, 16 < now → nextWindow true now free < now ∧ 16 ≤ nextWindow true now free) ∧
    (∀ (u : State) l h pl, (u.links.torus = false ∨ u.links.portsTo (hf h 79 68) = [] →
        u.post l h pl = u.modLinks (fun k => { k with waiting := k.waiting ++ [(l, h, pl)] })) ∧
      (∀ o rest, u.links.torus = true → u.links.portsTo (hf h 79 68) = o :: rest → u.post l h pl = u.transmit o h pl)) ∧
    (∀ (u : State) d f, u.links.torus = false → u.enterPair d f = u.modOut d (fun o =>
      { o with seq := o.seq + 1, kept := o.kept ++ [{ f with header := f.header ||| (o.seq.setWidth 96 <<< 24) }] })) ∧
    (∀ (l : Links) d failed f q, l.portFor d failed f = some q →
      q ∈ l.portsTo d ∧ (l.port q).up = true ∧ (hf f.header 87 84 ≤ 2 → portDie q = f.ld) ∧ failed ≠ some q) ∧
    (∀ lseq f rest, s.event = some (.flitReplay p lseq) → (s.links.port p.toNat).replay.dropWhile (fun f => hf f.1 95 88 != lseq.toNat) = f :: rest →
      (s.links.torus = true → exec .flitReplay s = .next { s with
        sent := s.sent ++ (f :: rest).map (fun f => .flit p.toNat f.1 f.2 (crc32 (flitBytes f.1 f.2))) }) ∧
      (s.links.torus = false → exec .flitReplay s = .next (s.modPort p.toNat (fun q => { q with resend := f :: rest })))) ∧
    (∀ (u : State) q (m : BitVec 32), u.setLanes q true m = ((u.control q (1 :: leBytes 4 m.toNat)).modPort q (fun x => { x with txMap := m })).movePort q ∧
      u.setLanes q false m = ((u.control q (2 :: leBytes 4 m.toNat)).modPort q (fun x => { x with rxMap := m })).movePort q) ∧
    (∀ (u : State) q, u.links.torus = false → ((u.links.port q).up = true → u.movePort q = u) ∧
      ((u.links.port q).up = false → (u.movePort q).links.outs = u.links.outs.map (fun o => (o.1, { o.2 with
        kept := o.2.kept.map (fun f => if f.via = some q then { f with via := none } else f) })))) ∧
    (∀ tx (fibre : BitVec 2) m, s.event = some (.laneMapChange p tx fibre m) → tabGet s.links.held (p.toNat / 16) = none →
      let q := s.links.port p.toNat
      let old := if tx then q.txMap else q.rxMap
      let new_ := setFibre old fibre m
      (∀ i < 32, new_.getLsbD i = if i / 8 = fibre.toNat then m.getLsbD (i % 8) else old.getLsbD i) ∧
      (s.supervisors = [] → exec .laneMapChange s = .next (s.setLanes p.toNat tx new_)) ∧
      (s.supervisors ≠ [] → let f := fibreOf old fibre
        let c : LaneChange := { port := p.toNat, tx := tx, fibre := fibre, set := m &&& ~~~f, clear := f &&& ~~~m, at_ := s.tnow + 15000 }
        exec .laneMapChange s = .next ((s.modLinks (fun l => { l with changes := l.changes ++ [c] })).tellSupervisors
          (if f &&& ~~~m = 0 then .retune (p.toNat / 16) else .laneRetired p.toNat)))) ∧
    (∀ (u : State) (c : LaneChange), let old := if c.tx then (u.links.port c.port).txMap else (u.links.port c.port).rxMap
      u.changeFibre c = u.setLanes c.port c.tx (setFibre old c.fibre ((fibreOf old c.fibre ||| c.set) &&& ~~~c.clear))) ∧
    (∀ tx (fibre : BitVec 2) (lane : BitVec 3), s.event = some (.heaterLimit p tx fibre lane) →
      let q := s.links.port p.toNat
      let u := s.modLinks (fun l => { l with changes := l.changes.map (fun c =>
        if c.port = p.toNat ∧ c.tx = tx ∧ c.fibre = fibre then { c with set := c.set &&& ~~~((1 : BitVec 8) <<< lane.toNat) } else c) })
      exec .heaterLimit s = .next ((u.setLanes p.toNat tx ((if tx then q.txMap else q.rxMap) &&&
        ~~~((1 : BitVec 32) <<< (8 * fibre.toNat + lane.toNat)))).tellSupervisors (.laneRetired p.toNat))) ∧
    (s.event = some .vetoTimeout → (∃ c ∈ s.links.changes, c.at_.toNat ≤ s.tnow.toNat) →
      exec .vetoTimeout s = .next ((s.links.changes.filter (fun c => c.at_.toNat ≤ s.tnow.toNat)).foldl (fun s c => s.changeFibre c)
        (s.modLinks (fun l => { l with changes := l.changes.filter (fun c => s.tnow.toNat < c.at_.toNat) })))) ∧
    (∀ t tx fibre, s.event = some (.laneVeto t p tx fibre) → (s.tenant t).otmode = true →
      exec .laneVeto s = .next (s.modLinks (fun l => { l with
        changes := l.changes.filter (fun c => !(c.port = p.toNat ∧ c.tx = tx ∧ c.fibre = fibre)) }))) ∧
    (s.event = some (.microcontrollerReset ld) →
      exec .microcontrollerReset s = .next (s.modLinks (fun l => { l with held := tabSet l.held ld.toNat (s.tnow, false) }))) ∧
    (s.event = some (.retuningResume ld) → (tabGet s.links.held ld.toNat).isSome = true →
      exec .retuningResume s = .next (s.modLinks (fun l => { l with held := tabErase l.held ld.toNat }))) ∧
    (∀ t, s.event = some (.retuneMarginExpiry ld) → tabGet s.links.held ld.toNat = some (t, false) → t.toNat + 75000 ≤ s.tnow.toNat →
      let u := ((List.range 16).map (fun i => 16 * ld.toNat + i)).foldl (fun u p => u.retirePoor (Port.overRate s.tnow) p)
        (s.modLinks (fun l => { l with held := tabSet l.held ld.toNat (t, true) }))
      exec .retuneMarginExpiry s = .next { u with pf0 := u.pf0 ++ [.retune ld.toNat] }) ∧
    (∀ n, s.event = some (.windowGrant dst n) → 16 ≤ n.toNat → n.toNat ≤ 2 ^ 16 →
      exec .windowGrant s = .next ((s.modOut dst.toNat (fun o => { o with window := n.toNat })).pump dst.toNat)) ∧
    (∀ seq, s.event = some (.cumulativeAck dst seq) → let o := s.links.out dst.toNat
      let n := (seq - o.acked).toNat
      n < 2 ^ 31 → n < (o.seq - o.acked).toNat →
      let done := fun (f : OutFlit) => decide ((flitSeq f.header - o.acked).toNat ≤ n)
      exec .cumulativeAck s = .next (((o.kept.filter done).foldl (fun s f => s.ackFlit f.id)
        (s.modOut dst.toNat (fun o => { o with acked := seq + 1, kept := o.kept.filter (fun f => !done f) }))).pump dst.toNat)) ∧
    (∀ (o : PairOut), ∀ f ∈ o.unsent, f ∈ o.kept ∧ f.via = none ∧ (flitSeq f.header - o.acked).toNat < o.window) ∧
    (s.event = some (.pathFailureResend dst p) → exec .pathFailureResend s = .next ((s.modLinks (fun l => { l with outs := l.outs.map (fun o =>
      (o.1, { o.2 with kept := o.2.kept.map (fun f => if o.1 = dst.toNat then { f with via := none } else f) })) })).pump dst.toNat (some p.toNat))) ∧
    (∀ round grants, s.event = some (.arbiterGrant ld round grants) → s.links.torus = false → s.links.round < round →
      exec .arbiterGrant s = .next (s.modLinks (fun l => { l with
        grants := l.grants ++ (grants.filter (fun g => g.1 / 16 == ld.toNat && g.2.1 < 16)).map (fun g => (round, g)) }))) ∧
    (s.event = some (.arbiterRequest ld) → s.links.torus = false → s.links.slot = 15 → ld.toNat ∉ s.links.requested →
      let held := (s.links.targets.map (fun d => (d, s.links.holds ld.toNat d))).filter (fun e => e.2 != 0)
      exec .arbiterRequest s = .next (({ s with sent := s.sent ++ [.slotRequest ld.toNat (s.links.round + 1) held] } : State).modLinks (fun l =>
        { l with requested := l.requested ++ [ld.toNat] }))) ∧
    (s.event = some .slotStart → s.links.torus = false → s.links.slotAt.toNat + 375 ≤ s.tnow.toNat → s.links.slot < 16 →
      let l := s.links
      let round := if l.slot = 15 then l.round + 1 else l.round
      let slot := (l.slot + 1) % 16
      let t := s.modLinks (fun l => { l with
        slotAt := s.tnow, slot := slot, round := round, requested := if slot = 0 then [] else l.requested
        grants := l.grants.filter (fun g => round ≤ g.1) })
      let now := t.links.grants.filter (fun g => g.1 == round && g.2.2.1 == slot)
      exec .slotStart s = .next ((List.range 32).foldl (fun s p => s.runSlot p ((now.find? (fun g => g.2.1 == p)).map (fun g => g.2.2.2))) t)) ∧
    (∀ (u : State) q grant, ((u.links.port q).up = false → u.runSlot q grant = u) ∧
      ((u.links.port q).up = true → grant = none → u.runSlot q grant = u.transmit q (flitHeader 0 0 0 u.links.self 0 0) []) ∧
      (∀ d, (u.links.port q).up = true → grant = some d → ∃ l, (u.runSlot q grant).sent = u.sent ++ l ∧
        l.length ≤ 217 * laneCount (u.links.port q).txMap / 32 ∧ ∀ e ∈ l, ∃ h pl, e = .flit q h pl (crc32 (flitBytes h pl))))

/-- R229 and R530 to R535: the coordinator and the endpoints of a topology change take its steps and tell each other by flits; reductions are set up,
torn down, take or refuse contributions, round each element once, write their results and status word, and have their note and then their record.
It rests on the model's own choices: log 103, 155, 156, 159, 160, 161, 208. -/
def Obligations.TopologyEvents : Prop :=
  ∀ (s : State) (pkg : BitVec 12) (tables : Nat),
    let settle := fun (t : State) => ((t.modLinks (fun l => { l with change := none })).admitHeld).relay
    let drained := fun (tables : Nat) => ∀ o ∈ s.links.outs, s.links.affected tables o.1 = true → o.2.kept = []
    let word4 := fun (n : Nat) => leBytes 4 n
    (∀ (u : State) d pl, u.tell d pl = u.post 0 (flitHeader 6 0 d u.links.self 0 pl.length) pl) ∧
    (∀ (u : State) n, u.install n = settle (u.modLinks (fun l => { l with
      outs := l.outs.map (fun o => (o.1, { o.2 with kept := o.2.kept.map (fun f => { f with via := none }) }))
      tables := n, change := none, grants := [], slotAt := u.tnow, slot := 0, requested := [] }))) ∧
    (∀ (u : State) (c : TopoChange) commit,
      let v := (u.tellAll (u.otherEndpoints c.tables) (2 :: (if commit then 1 else 0) :: word4 c.tables)).modLinks (fun l =>
        { l with decisions := l.decisions ++ [(c.tables, commit)] })
      u.decide c commit = if commit then v.install c.tables else settle v) ∧
    (∀ (l : Links) d c, l.change = some c → l.affected c.tables d = true → l.mayIssue d = false) ∧
    (s.event = some (.topologyChangeRequest tables) → s.links.change = none →
      exec .topologyChangeRequest s = .next ((s.tellAll (s.otherEndpoints tables) (0 :: word4 tables)).modLinks (fun l =>
        { l with change := some { coord := l.self, tables := tables, since := s.tnow, coordinator := true } }))) ∧
    (s.event = some (.topologyPrepare pkg tables) →
      let mine : TopoChange := { coord := pkg.toNat, tables := tables, since := s.tnow, coordinator := false, heard := s.tnow }
      let ready := (s.tell pkg.toNat (1 :: 1 :: word4 tables)).modLinks (fun l => { l with change := some { mine with prepared := true, asked := s.tnow } })
      (s.links.change = none → drained tables → exec .topologyPrepare s = .next ready) ∧
      (s.links.change = none → ¬drained tables → exec .topologyPrepare s = .next (s.modLinks (fun l => { l with change := some mine }))) ∧
      (∀ c, s.links.change = some c →
        (c.coord = pkg.toNat ∧ c.tables = tables ∧ c.coordinator = false → c.prepared = false → drained tables →
          exec .topologyPrepare s = .next ready) ∧
        (¬(c.coord = pkg.toNat ∧ c.tables = tables ∧ c.coordinator = false) →
          exec .topologyPrepare s = .next (s.tell pkg.toNat (1 :: 0 :: word4 tables))))) ∧
    (∀ c, s.links.change = some c →
      (c.coordinator = true →
        (s.event = some (.prepareAnswer pkg false) → pkg.toNat ≠ c.coord → exec .prepareAnswer s = .next (s.decide c false)) ∧
        (s.event = some (.prepareAnswer pkg true) → pkg.toNat ≠ c.coord ∨ drained c.tables →
          let got := c.ready.filter (fun q => q != pkg.toNat) ++ [pkg.toNat]
          exec .prepareAnswer s = .next (if s.tnow.toNat ≤ c.since.toNat + 1500000 ∧ (∀ e ∈ s.changeEndpoints c.tables, e ∈ got) then s.decide c true
            else s.modLinks (fun l => { l with change := some { c with ready := got } }))) ∧
        (s.event = some .prepareTimeout → c.since.toNat + 1500000 < s.tnow.toNat → exec .prepareTimeout s = .next (s.decide c false))) ∧
      (c.coordinator = false →
        (s.event = some .topologyAbort → exec .topologyAbort s = .next (settle s)) ∧
        (c.prepared = true →
          (s.event = some .topologyCommit → exec .topologyCommit s = .next (s.install c.tables)) ∧
          (s.event = some (.decisionQuery none tables) → c.asked.toNat + 150000 ≤ s.tnow.toNat → exec .decisionQuery s =
            .next ((s.tell c.coord (3 :: word4 c.tables)).modLinks (fun l => { l with change := some { c with asked := s.tnow } }))) ∧
          (s.event = some .coordinatorUnreachable → c.raised = false → c.heard.toNat + 15000000 ≤ s.tnow.toNat → exec .coordinatorUnreachable s =
            .next (({ s with pf0 := s.pf0 ++ [.unreachable c.coord] } : State).modLinks (fun l => { l with change := some { c with raised := true } })))))) ∧
    (∀ old commit, s.event = some (.decisionQuery (some pkg) tables) → s.links.decisions = old ++ [(tables, commit)] →
      exec .decisionQuery s = .next (s.tell pkg.toNat (2 :: (if commit then 1 else 0) :: word4 tables))) ∧
    (∀ t (obj : BitVec 24) (off : BitVec 40) (nelem : BitVec 21) (fmt : BitVec 1) (expect : BitVec 16) token noted ref launch gang stage evt o,
      s.event = some (.reductionSetup pkg t obj off nelem fmt expect token noted ref launch gang stage evt) →
      nelem ≠ 0 → nelem.toNat ≤ 2 ^ 20 → expect ≠ 0 → off.toNat % 16 = 0 → tabGet s.objects obj.toNat = some o → o.pool = true → o.deleted = false →
      o.retired = false → o.tenant = t →
      let r : Reduction := { tenant := t, obj := obj.toNat, off := off.toNat, nelem := nelem.toNat, bf16 := fmt = 1, expect := expect.toNat, token := token, evt := evt
                             note := if noted then some { ref := ref, launch := launch, gang := gang, stage := stage } else none }
      (pkg.toNat ≠ s.links.self → exec .reductionSetup s = .next (s.modLinks (fun l => { l with
        routes := l.routes.filter (fun q => !(q.obj == obj.toNat && q.off == off.toNat)) ++
          [{ obj := obj.toNat, off := off.toNat, nelem := nelem.toNat, bf16 := fmt = 1, root := pkg.toNat }] }))) ∧
      (pkg.toNat = s.links.self → (∀ q ∈ s.reductions, ¬(q.obj = obj.toNat ∧ q.off = off.toNat)) →
        (s.slotsUsed obj.toNat + nelem.toNat ≤ 2 ^ 20 → exec .reductionSetup s =
          .next (({ s with reductions := s.reductions ++ [r] } : State).tellAll (s.otherEndpoints s.links.tables) r.routeMessage)) ∧
        (2 ^ 20 < s.slotsUsed obj.toNat + nelem.toNat → exec .reductionSetup s = .next (s.postRecord t (.reduction obj.toNat off.toNat 2))))) ∧
    (∀ (obj : BitVec 24) (off : BitVec 40), s.event = some (.reductionTeardown obj off) →
      let keep := fun (o n : Nat) => !(o == obj.toNat && n == off.toNat)
      exec .reductionTeardown s = .next (({ s with reductions := s.reductions.filter (fun r => keep r.obj r.off) } : State).modLinks (fun l =>
        { l with routes := l.routes.filter (fun r => keep r.obj r.off) }))) ∧
    (∀ h pl rest, s.event = some (.contributionArrival pkg) → (s.links.inOf pkg.toNat).ready = (h, pl) :: rest →
      let obj := leNat (pl.take 3)
      let off := leNat ((pl.drop 3).take 5)
      let bytes := pl.drop 8
      ((s.links.inOf pkg.toNat).refusing = none →
        (∀ r, s.reductionAt obj off bytes.length = some r → exec .contributionArrival s = .next ((s.contribute r off bytes).nextOf pkg.toNat)) ∧
        (s.reductionAt obj off bytes.length = none → exec .contributionArrival s =
          .next ((({ s with nextId := s.nextId + 1 } : State).modIn pkg.toNat (fun i => { i with refusing := some s.nextId })).issueFlit 2 (hf h 83 80) pkg.toNat
            (obj % 2) (1 :: word4 (flitSeq h).toNat) s.nextId))) ∧
      (∀ id, (s.links.inOf pkg.toNat).refusing = some id → (∀ f ∈ (s.links.out pkg.toNat).kept ++ (s.links.out pkg.toNat).held, f.id ≠ id) →
        exec .contributionArrival s = .next (s.nextOf pkg.toNat))) ∧
    (∀ (u : State) src, let v := u.modIn src (fun i => { i with ready := i.ready.drop 1, refusing := none })
      u.nextOf src = (State.dealPair src (v.links.inOf src).ready.length v).answerPair src) ∧
    (∀ k tn n rec_, s.event = some (.arriveApply k 0) → s.notes = [(tn, n, rec_)] →
      let u : State := { s with notes := [] }
      (∀ r, s.notePlace tn n = some (some r) → exec .arriveApply s = .next (u.addUpdate r 0 false true (rec_.map (fun x => (tn, x))))) ∧
      (s.notePlace tn n = some none → exec .arriveApply s = .next ((u.postRecord tn (.noteDropped n.launch)).postSome tn rec_))) ∧
    (∀ (r : Reduction) e x, let p := if r.bf16 then 8 else 24
      let el := (tabGet r.elems e).getD {}
      let w := wideOf (decodeF p x)
      let one := { el with sum := el.sum + w.1, word := el.word ||| w.2, cnt := el.cnt + 1 }
      (el.cnt = r.expect → r.add e x = { r with extra := true }) ∧
      (el.cnt + 1 < r.expect → tabGet (r.add e x).elems e = some one) ∧
      (el.cnt + 1 = r.expect → tabGet (r.add e x).elems e =
        some { one with res := BitVec.ofNat 32 (wideRound p one.sum one.word).1, word := (wideRound p one.sum one.word).2 }) ∧
      (∀ n, n ≠ e → tabGet (r.add e x).elems n = tabGet r.elems n)) ∧
    (∀ (p : Nat) (sum : Int) (word : BitVec 32), let past := 2 ^ 127 - 1 < sum ∨ sum < -(2 ^ 127)
      let kept := max (min sum (2 ^ 127 - 1)) (-(2 ^ 127))
      let q := roundF p 0 false (decide (kept < 0)) kept.natAbs (-64) false
      let w := if past then word ||| 8 else word
      (word.getLsbD 2 = true ∨ word.getLsbD 0 = true ∧ word.getLsbD 1 = true → wideRound p sum word = (canonNaN p, word)) ∧
      (word.getLsbD 2 = false → word.getLsbD 0 = true → word.getLsbD 1 = false → wideRound p sum word = (infBits p false, word)) ∧
      (word.getLsbD 2 = false → word.getLsbD 0 = false → word.getLsbD 1 = true → wideRound p sum word = (infBits p true, word)) ∧
      (word.getLsbD 2 = false → word.getLsbD 0 = false → word.getLsbD 1 = false →
        (sum = 0 → wideRound p sum word = (0, word)) ∧
        (sum ≠ 0 → wideRound p sum word = (q.1, if q.2 &&& flagNX ≠ 0 then w ||| 32 else w)))) ∧
    (∀ (r : Reduction), r.output = r.elems.map (fun e => (r.off + e.1 * (if r.bf16 then 2 else 4), leBytes (if r.bf16 then 2 else 4) e.2.res.toNat)) ++
      [(r.off + (r.nelem * (if r.bf16 then 2 else 4) + 15) / 16 * 16,
        leBytes 4 ((r.elems.foldl (fun w e => w ||| e.2.word) (0 : BitVec 32)) ||| (if r.extra then 64 else 0)).toNat)]) ∧
    (∀ (u : State) (r : Reduction) off bytes, let r' := r.addBytes (bytes.length + 1) ((off - r.off) / (if r.bf16 then 2 else 4)) bytes
      let v : State := { u with reductions := u.reductions.map (fun q => if q.obj = r.obj ∧ q.off = r.off then r' else q) }
      let freed : State := { v with reductions := v.reductions.filter (fun q => !(q.obj == r'.obj && q.off == r'.off)) }
      let rec_ := fun (status : Nat) => if r'.evt then some (Record.reduction r'.obj r'.off status) else none
      let wrote := r'.output.foldl (fun t w => t.homeWrite true r'.obj w.1 w.2) freed
      let may := ∀ w ∈ r'.output, v.engineMayWrite r'.obj w.1 r'.token = true
      (r'.complete = false → u.contribute r off bytes = v) ∧
      (r'.complete = true → ¬may → u.contribute r off bytes = freed.postSome r'.tenant (rec_ 1)) ∧
      (r'.complete = true → may → r'.note = none → u.contribute r off bytes = wrote.postSome r'.tenant (rec_ 0)) ∧
      (∀ n, r'.complete = true → may → r'.note = some n → u.contribute r off bytes = { wrote with notes := wrote.notes ++ [(r'.tenant, n, rec_ 0)] }))

/-- R196 to R198, R288, R307, R542, R543 and R546 to R551: the scrubbers go on by one line or tile and an uncorrectable error ends the owner; an error is logged
and contained by its class; limits, monitors, logs and power states change as the rules say. Which errors occur, and what TRAPI of ECC_UNCORR
holds, is not stated.
It rests on the model's own choices: log 4, 9, 10, 44, 46, 58, 162, 163, 164, 165, 168. -/
def Obligations.HealthEvents : Prop :=
  ∀ (s : State) (g loc : Nat) (die : BitVec 4),
    (∀ (l : BitVec 15) err, s.event = some (.scrubStep l err) →
      let t : State := { s with cr := { s.cr with
        scrubLine := (l.toNat + 1) % 32768, scrubAt := s.tnow, scrubHeld := some (l.toNat, s.tnow.toNat + 2) } }
      let u := if err = 1 then t.logHealth (s.g / 192) 0 0 s.g l.toNat else t
      (err = 2 → exec .scrubStep s = .next (lineError l.toNat t)) ∧
      (err ≠ 2 → s.lineHolder l.toNat = some (s.metaAt (lineKey s.g l.toNat)).owner → exec .scrubStep s = .next u) ∧
      (∀ k, err ≠ 2 → s.lineHolder l.toNat = some k → k ≠ (s.metaAt (lineKey s.g l.toNat)).owner → exec .scrubStep s = .next (lineError l.toNat u)) ∧
      (err ≠ 2 → s.lineHolder l.toNat = none → exec .scrubStep s = .next (u.zeroLine (lineKey s.g l.toNat) 0))) ∧
    (∀ (i : BitVec 6) err, s.event = some (.accumulatorScrub i err) →
      let t : State := { s with cr := { s.cr with scrubTile := (i.toNat + 1) % 48, scrubTileAt := s.tnow } }
      let gone := s.g * 48 + i.toNat ∈ s.released
      (gone ∨ (err ≠ 1 ∧ err ≠ 2) → exec .accumulatorScrub s = .next t) ∧
      (¬gone → err = 2 → exec .accumulatorScrub s = .next (tileError i.toNat t)) ∧
      (¬gone → err = 1 → exec .accumulatorScrub s = .next (t.logHealth (s.g / 192) 0 1 s.g i.toNat))) ∧
    (∀ id f, s.cr.flights.find? (fun f => f.id == id) = some f → let t := readError id s
      t.cr.flights = s.cr.flights.map (fun x => if f.sameOp x then { x with what := x.what.spoiled s x.k } else x) ∧
        t.scratch = s.scratch ∧ t.lineMeta = s.lineMeta ∧ t.tiles = s.tiles ∧ ∀ k, (t.ctxAt k).x = (s.ctxAt k).x) ∧
    (∀ l, let key := lineKey s.g l
      let t := lineError l s
      (∀ k, s.lineHolder l = some k → (t.metaAt key).full = true ∧ (t.metaAt key).form = .poison ∧
        ((s.ctxAt k).state ≠ .drain → ∃ d ∈ (t.ctxAt k).due, d.code = 0x14 ∧ d.due = s.tnow)) ∧
      (s.lineHolder l = none → t.lineAt key = 0 ∧ t.metaAt key = {} ∧ t.cr = s.cr) ∧
      (∀ n, n ≠ key → t.lineAt n = s.lineAt n ∧ t.metaAt n = s.metaAt n) ∧ ∃ e, t.health = trimHealth (s.g / 192) (s.health ++ [e]) ∧ e.die = s.g / 192) ∧
    (∀ cls unit_, s.event = some (.hardwareError cls unit_ g loc) →
      let t := s.logHealth (errorDie cls.toNat unit_.toNat g loc) cls unit_ g loc
      (cls = 0 → unit_ ≠ 3 → unit_ ≠ 7 → exec .hardwareError s = .next t) ∧
      (cls = 0 → unit_ = 3 → exec .hardwareError s = .next (t.modPort g (fun q => { q with spoiled := q.spoiled + loc }))) ∧
      (cls = 0 → unit_ = 7 → exec .hardwareError s = .next (t.modPort g (fun q =>
        { q with symbols := tabSet q.symbols loc ((tabGet q.symbols loc).getD 0 + 1)
                 recent := q.recent.filter (fun r => s.tnow.toNat < r.2.toNat + Config.laneWindow) ++ [(loc, s.tnow)] }))) ∧
      (cls = 1 → exec .hardwareError s = .next (s.within g (fun u =>
        let id := loc / 2 ^ 15
        let at_ := loc % 2 ^ 15
        if unit_ = 0 then lineError loc u else if unit_ = 1 then tileError loc u else if unit_ = 2 then readError id (lineError at_ u)
        else if unit_ = 3 then readError id (tileError at_ u) else if unit_ = 6 then scatterReadError id (lineError at_ u) else if unit_ = 4 then mergeReadError id (lineError at_ u)
        else mergeReadError id (tileError at_ u)))) ∧
      (cls = 2 → exec .hardwareError s = .next (if unit_ = 0 then t.poisonGranule loc else if unit_ = 1 then t.loseFrame loc
        else if unit_ = 2 then t.poisonPool loc
        else if unit_ = 3 then
          let obj := loc / 2 ^ 33
          let line := loc % 2 ^ 33
          if s.cleanLine g obj line = true then (s.logHealth (dieOfCluster g) 0 2 g loc).loseLine g obj line else t.loseLine g obj line
        else if unit_ = 4 then t.loseImageLine (loc / 2 ^ 20) (loc % 2 ^ 20) else t)) ∧
      (cls = 3 → exec .hardwareError s = .next (unitError unit_.toNat g loc t)) ∧
      (cls = 4 → ∃ u, exec .hardwareError s = .next u ∧ g ∈ u.deadDies ∧ ∃ rest, u.pf0 = rest ++ [.error 4 g s.tnow]) ∧
      (cls = 5 → let die := if unit_ = 0 then 8 + g % 2 else 8
        errorDie 5 unit_.toNat g loc = die ∧ exec .hardwareError s = .next { t with stopped := true, pf0 := s.pf0 ++ [.error 5 die s.tnow] })) ∧
    (∀ cl obj line l, (s.clusterAt cl).find obj line = some l → (s.cleanLine cl obj line = true ↔ l.unacked = 0 ∧ l.pin = false)) ∧
    (s.event = some (.healthLogClear die) → ∃ t, exec .healthLogClear s = .next t ∧ (∀ e ∈ t.health, e.die ≠ die.toNat) ∧
      (∀ e ∈ s.health, e.die ≠ die.toNat → e ∈ t.health) ∧ (∀ n < 64, tabGet t.healthCnt (die.toNat * 64 + n) = none) ∧
      t = { s with health := t.health, healthCnt := t.healthCnt }) ∧
    (∀ v, s.event = some (.ilimSet g v) → 64 ≤ v.toNat → exec .ilimSet s = .next (s.setCoreAt g { s.coreAt g with ilim := v })) ∧
    (∀ temps, s.event = some (.temperatureSample die temps) → temps.length ≤ 64 →
      let deg := temps.foldl (fun m t => max m t.toNat) 0
      let t : State := { s with temps := keepReadings s.temps die.toNat 64 temps }
      (∀ d ∈ temps, d.toNat ≤ deg) ∧
      (deg < 95 → exec .temperatureSample s = .next t) ∧
      (95 ≤ deg → deg < 105 → exec .temperatureSample s =
        .next (({ t with pf0 := s.pf0 ++ [.hot die.toNat deg] } : State).limitDie die.toNat lowerIlim)) ∧
      (105 ≤ deg → deg < 115 → exec .temperatureSample s =
        .next (({ t with pf0 := s.pf0 ++ [.hot die.toNat deg] } : State).limitDie die.toNat (fun _ => 64))) ∧
      (115 ≤ deg → exec .temperatureSample s = .next { t.logHealth die.toNat 5 0 die.toNat deg with
        stopped := true, clocksStopped := true, pf0 := s.pf0 ++ [.error 5 die.toNat s.tnow], sent := s.sent ++ [.thermalTrip] })) ∧
    (∀ (t : Tab (BitVec 16)) d per (vs : List (BitVec 16)) i (h : i < vs.length), vs.length ≤ per →
      tabGet (keepReadings t d per vs) (d * per + i) = some vs[i]) ∧
    (∀ mon v, let t : State := { s with volts := tabSet s.volts (g / 192 * 16 + mon.toNat) v }
      (s.event = some (.voltageDroop g mon v) → exec .voltageDroop s = .next (t.setCoreAt g { s.coreAt g with droop := true })) ∧
      (s.event = some (.supplyRecovery g mon v) → exec .supplyRecovery s = .next (t.setCoreAt g { s.coreAt g with droop := false }))) ∧
    (∀ vs, s.event = some (.processSample die vs) → exec .processSample s =
      .next (({ s with procs := keepReadings s.procs die.toNat 8 vs } : State).logHealth die.toNat 0 5 die.toNat 0)) ∧
    (∀ cxl, s.event = some (.packageReset cxl) → exec .packageReset s = .next { s.outside State.reset with cxl := cxl }) ∧
    (∀ image, s.event = some (.firmwareLoad image) → s.power = .boot →
      (Config.firmwareAccepted image = true → ∃ m, exec .firmwareLoad s = .next { s with power := .run, measures := m } ∧
        ∀ i ∈ ([1, 2, 3, 4, 5] : List Nat), tabGet m i = some (BitVec.ofNat 384 (digestNat (sha384 (Config.component image i))))) ∧
      (Config.firmwareAccepted image = false →
        exec .firmwareLoad s = .next { s with bootstat := Config.freeWord s.tick, tick := s.tick + 1 })) ∧
    (s.event = some .quiesce → s.power = .run → exec .quiesce s = .next { s with power := .quiesce }) ∧
    (s.event = some .powerOff → exec .powerOff s = .next { s.outside State.reset with power := .off }) ∧
    (∀ t : State, let u := s.outside t
      u.host = s.host ∧ u.cxl = s.cxl ∧ u.pool = s.pool ∧ u.poolLines = s.poolLines ∧ u.pageTokens = s.pageTokens ∧ u.ht = s.ht ∧ u.homeOld = s.homeOld ∧
      u.homeLeases = s.liveLeases.map (fun l => { l with until_ := l.until_ - s.tnow.toNat }) ∧ u.hbm = t.hbm ∧ u.scratch = t.scratch ∧
      u.cr = t.cr ∧ u.others = t.others ∧ u.launches = t.launches ∧ u.leases = t.leases ∧ u.power = t.power ∧ u.tnow = t.tnow)

/-- R91, R183, R486, R547 and R549: what package reset leaves: the package in BOOT, TNOW and LT 0, TSTEP 4096, every context FREE, every current limit
0xFFFF, every line zero, full, plain, untagged and owned by K0, and every tenant's modes off with WEIGHT 1 and LLEN 16.
It rests on the model's own choices: log 13. -/
def Obligations.ResetState : Prop :=
  let s := State.reset
  s.power = .boot ∧ s.tnow = 0 ∧ s.lt = 0 ∧ s.tstep = 4096 ∧
    (∀ (g : Nat) (k : BitVec 2), ((s.coreAt g).ctxs[k.toNat]).state = .free ∧ (s.coreAt g).ilim = 0xFFFF) ∧
    (∀ g l, s.lineAt (lineKey g l) = 0 ∧ s.metaAt (lineKey g l) = { full := true, form := .plain, tag := 0, owner := 0 }) ∧
    (∀ t, let e := s.tenant t
      e.weight = 1 ∧ e.llen = 16 ∧ e.rvmode = false ∧ e.qsmode = false ∧ e.otmode = false ∧ e.rnmode = false ∧ e.pfmode = false)

/-- The invariant of `Obligations.InvStep` holds after reset, and placing a word where the next step fetches it keeps it.
It rests on the model's own choices: log 1, 12. -/
def Obligations.ResetInvariant : Prop :=
  State.reset.Inv ∧ ∀ (s : State) (nbits w : Nat), s.Inv → (s.withFetchWord nbits w).Inv

/-- Every step keeps the five memories (the scratchpads, the instruction memories, HBM, the pool and host memory) in canonical form: rising addresses
and no zero byte, so that equal contents are equal states.
It rests on the model's own choices: log 12. -/
def Obligations.InvStep : Prop :=
  ∀ s t : State, s.Inv → step s = .next t → t.Inv

/-- R24 to R45: decode and encode agree: the word of every well-formed instruction decodes, in its slot, to that instruction, whatever its operands. -/
def Obligations.RoundTrip : Prop :=
  ∀ (i : Instr) (sl : Slot), i.wellFormed = true → i.slot? = some sl → ∃ w, encode i = some w ∧ decodeSlot sl w = .ok i

/-- R24, R25 and R31 to R45: a word that a slot accepts is the word of the instruction it gives, so no bit is ignored and no two words are one
instruction; the instruction is well-formed, and of that slot unless it is the no-operation, whose word is zero in every slot. -/
def Obligations.WordsHaveOneMeaning : Prop :=
  ∀ (sl : Slot) (w : SlotWord) (i : Instr), decodeSlot sl w = .ok i →
    encode i = some w ∧ i.wellFormed = true ∧ (w ≠ 0 → i.slot? = some sl) ∧ (w = 0 → i = .nop)

/-- R25 and R31 to R45: words written out from the rules' encodings decode to what they stand for, and words with an unassigned opcode or a set
reserved bit are refused. -/
def Obligations.DecodeWords : Prop :=
  decodeSlot .s 0x20201004 = .ok (.addi 8 1 4) ∧
  decodeSlot .va 0x01404002 = .ok (.vaddF32 .a 1 0 0 4 0 2) ∧
  decodeSlot .s 0x4E246003 = .ok (.ldI64 9 3 3) ∧
  decodeSlot .y 0x110C8290 = .ok (.aaddI64 3 4 5 1 0 0) ∧
  decodeSlot .b 0x012FFFFB = .ok (.br 2 1 524283) ∧
  decodeSlot .s 0x06515580 = .ok (.div 20 21 22) ∧
  decodeSlot .m 0x01010BC0 = .ok (.mma 0 1 2 15) ∧
  decodeSlot .ca 0x012A4907 = .ok (.getc .a 2 1 0 4 1 9 7) ∧
  decodeSlot .ca 0x08000002 = .ok (.cflush .a 2) ∧
  decodeSlot .y 0x20009060 = .ok (.ainit 9 96) ∧
  decodeSlot .y 0x212892C2 = .ok (.arrive 10 9 11 2) ∧
  decodeSlot .y 0x22309328 = .ok (.waitph 12 9 3 40) ∧
  decodeSlot .y 0x282885A0 = .ok (.lacqW 10 4 11) ∧
  decodeSlot .y 0x41005007 = .ok (.signal 5 7) ∧
  decodeSlot .b 0x08300080 = .ok (.waitl 12 1) ∧
  decodeSlot .s 0x72332400 = .ok (.mtdValue 3 3 9) ∧
  decodeSlot .s 0x70240480 = .ok (.mfs 9 18) ∧
  decodeSlot .s 0x3C304FFF = .ok (.cmpiGt 3 4 4095) ∧
  decodeSlot .s 0x58512000 = .ok (.ldc 10 9 0) ∧
  decodeSlot .s 0x64108004 = .ok (.cadvi 2 2 4) ∧
  decodeSlot .s 0x6A310901 = .ok (.ctest 3 4 9 1) ∧
  decodeSlot .va 0x32003001 = .ok (.vcmpF32Lt .a 0 0 0 3 0 1) ∧
  decodeSlot .va 0x22C24914 = .ok (.vaddsI8 .a 3 0 0 36 36 20) ∧
  decodeSlot .s 0x7F000000 = .error .unassignedOpcode ∧
  decodeSlot .s 0x01000001 = .error .reservedField ∧
  decodeSlot .b 0x0B000001 = .error .reservedField ∧
  (∀ sl : Slot, decodeSlot sl 0 = .ok .nop)

/-- R17, R19 and R24: while nothing is due and the free choice falls on the cycle of the core at hand, a step with one word at the PC of the context that is
at its attempt is the execution of the instruction that the word decodes to, followed by the end of the cycle; a bundle of none is the no-operation,
several words are attempted together, and a word that decodes to nothing raises ILLEGAL. An event that is due runs as its row of the table. Where the choice
falls on an input, that input runs; where it falls on the host, the host's store or `cas128` of its own memory is done whole (R358, R559).
It rests on the model's own choices: log 2, 20, 22, 23. -/
def Obligations.StepRunsDecoded : Prop :=
  ∀ s t : State, s.power = .run ∨ s.power = .quiesce → s.clocksStopped = false →
    (∀ e rest, s.due = e :: rest → step s = onNext (exec e.instr { s with event := some e }) State.clearEvent) ∧
    let choice := Config.choice s.tick % (s.may.length + 1 + (if s.hostActs = [] then 0 else 1))
    let ticked : State := { s with tick := s.tick + 1 }
    (∀ e, s.due = [] → choice = 0 → s.inputReady = some e → let v : State := { ticked with inputs := s.inputs.erase e }
      (v.hears e = true → step s = onNext (onNext (exec e.instr { v.focus (v.coreOf e) with event := some e }) State.clearEvent) (fun w => w.focus v.g)) ∧
      (v.hears e = false → step s = .next v)) ∧
    (∀ (a : BitVec 64) bytes rest, s.due = [] → s.hostActs = .store a bytes :: rest → choice = s.may.length + 1 →
      step s = .next { ticked with hostActs := rest, host := memWrite s.host a.toNat bytes }) ∧
    (∀ (a : BitVec 64) old new_ rest, s.due = [] → s.hostActs = .cas a old new_ :: rest → choice = s.may.length + 1 →
      let hit := a.toNat % 16 = 0 ∧ leNat (memRead s.host a.toNat 16) = old.toNat
      (hit → step s = .next { ticked with hostActs := rest, host := memWrite s.host a.toNat (leBytes 16 new_.toNat), sent := s.sent ++ [.casDone true] }) ∧
      (¬hit → step s = .next { ticked with hostActs := rest, sent := s.sent ++ [.casDone false] })) ∧
    (s.due = [] → (s.may = [] ∧ s.hostActs = []) ∨ choice = s.may.length →
      let u : State := if s.may = [] ∧ s.hostActs = [] then s else ticked
      u.frozen = false → u.openCycle = .inr t → t.ctx.pc.toNat < 8192 →
      let ended := fun (v : State) => (v.reselect.closeCycle (allK.filter u.isReady)).nextCore
      let at_ := fun (x : Slot) => leNat (memRead t.imem (t.g * 2 ^ 18 + 32 * t.ctx.pc.toNat + 4 * x.index) 4)
      (∀ (sl : Slot) (w : SlotWord), w ≠ 0 → (∀ x : Slot, at_ x = if x = sl then w.toNat else 0) →
        (∀ i, decodeSlot sl w = .ok i → step s = onNext (exec i t) ended) ∧
        (∀ r, decodeSlot sl w = .error r → step s = .next (ended (attempt [{ slot := sl, illegal := true }] t)))) ∧
      ((∀ x : Slot, at_ x = 0) → step s = onNext (exec .nop t) ended) ∧
      (∀ x z : Slot, x ≠ z → at_ x ≠ 0 → at_ z ≠ 0 → step s = .next (ended (attempt (t.activeWords.map t.wordRes) t))))

/-- R27, with R34 and R73 for k0: writes to x0, p0 and c0 are discarded; a slot that names one of them as its destination never conflicts with another
slot; a long-latency producer aimed at x0 marks nothing empty; and x0 reads as zero (R111), p0 as 1 (R114), c0 as null (R145). -/
def Obligations.HardwiredRegisters : Prop :=
  (∀ c : Ctx, (∀ v, c.setX 0 v = c) ∧ (∀ v, c.setP 0 v = c) ∧ (∀ v, c.setC 0 v = c) ∧ (∀ v, c.setK 0 v = c) ∧ c.emptyX 0 = c ∧ c.poisonX 0 = c ∧
    c.emptyC 0 = c ∧ c.xVal 0 = 0 ∧ c.xEmpty 0 = false ∧ c.pVal 0 = true ∧ c.cVal 0 = {} ∧ c.cEmpty 0 = false ∧ c.kVal 0 = BitVec.allOnes 256 ∧
    (∀ (r : SlotRes) (rs : List SlotRes), (∀ d ∈ r.dests, d = .x 0 ∨ d = .p 0 ∨ d = .c 0) →
      conflictSlot (allDests (r :: rs)) = conflictSlot (allDests rs))) ∧
  (∀ (s : State) (a b : BitVec 6) (k : BitVec 5), s.ctx.xReady a → s.ctx.xReady b → s.ctx.cReady k →
    ∀ i ∈ ([.add 0 a b, .mul 0 a b, .addi 0 a 1, .div 0 a b, .remn 0 a b, .cmpEq 0 a b, .pnot 0 1, .cmov 0 k, .cclr 0 k, .cget 0 k 2] : List Instr),
      exec i s = .next (s.afterWord .s 1 none .fall [] (fun t => t)))

/-- The frame of the S-slot words of R116 to R122 and of CMOV and CCLR (R161): when the sources can be read, nothing of any memory, line, tile, other
context or other core changes, and of the context only the destination register, the PC and, at the end of a loop's iteration (R139), VRB and
the loop registers. -/
def Obligations.ScalarFrame : Prop :=
  ∀ (s t : State) (d a b j : BitVec 6) (p q r : BitVec 4) (i : BitVec 12) (l : BitVec 18) (e k : BitVec 5),
    s.ctx.xReady a → s.ctx.xReady b → s.ctx.xReady d → s.ctx.cReady k → s.ctx.cEmpty e = false →
    let kept := fun (x : BitVec 6 → Prop) (p : BitVec 4 → Prop) (c : BitVec 5 → Prop) =>
      t.scratch = s.scratch ∧ t.lineMeta = s.lineMeta ∧ t.tiles = s.tiles ∧ t.released = s.released ∧ t.imem = s.imem ∧ t.hbm = s.hbm ∧
      t.hbmTags = s.hbmTags ∧ t.hbmPoison = s.hbmPoison ∧ t.pool = s.pool ∧ t.poolLines = s.poolLines ∧ t.host = s.host ∧ t.others = s.others ∧
      t.clusters = s.clusters ∧ t.writes = s.writes ∧ t.tenants = s.tenants ∧ t.leases = s.leases ∧ t.tnow = s.tnow ∧ t.cr.cur = s.cr.cur ∧
      t.cr.copies = s.cr.copies ∧ (∀ n : BitVec 2, n ≠ s.cr.cur → t.ctxAt n = s.ctxAt n) ∧
      t.ctx.k = s.ctx.k ∧ t.ctx.s = s.ctx.s ∧ t.ctx.d = s.ctx.d ∧ t.ctx.mq = s.ctx.mq ∧ t.ctx.state = s.ctx.state ∧
      { t.ctx.sys with vrb := s.ctx.sys.vrb } = s.ctx.sys ∧ (s.ctx.atLoopEnd = false → t.ctx.sys = s.ctx.sys ∧ t.ctx.loops = s.ctx.loops) ∧
      (∀ n : BitVec 6, x n → t.ctx.x[n.toNat] = s.ctx.x[n.toNat]) ∧ (∀ n : BitVec 4, p n → t.ctx.p[n.toNat] = s.ctx.p[n.toNat]) ∧
      (∀ n : BitVec 5, c n → t.ctx.c[n.toNat] = s.ctx.c[n.toNat])
    (∀ w ∈ ([.add d a b, .sub d a b, .mul d a b, .mulh d a b, .mulhn d a b, .and d a b, .or d a b, .xor d a b, .shl d a b, .shr d a b, .sar d a b,
        .min d a b, .max d a b, .minn d a b, .maxn d a b, .sel d a b p, .popc d a, .clz d a, .addi d a i, .andi d a i, .ori d a i, .xori d a i,
        .muli d a i, .shli d a j, .shri d a j, .sari d a j, .movi d l, .movs d l, .div d a b, .rem d a b, .divn d a b, .remn d a b] : List Instr),
      exec w s = .next t → kept (fun n => n ≠ d ∨ n = 0) (fun _ => True) (fun _ => True)) ∧
    (∀ w ∈ ([.cmpEq p a b, .cmpNe p a b, .cmpLt p a b, .cmpLe p a b, .cmpLtn p a b, .cmpLen p a b, .cmpiEq p a i, .cmpiNe p a i, .cmpiLt p a i,
        .cmpiLe p a i, .cmpiGt p a i, .cmpiGe p a i, .pand p q r, .por p q r, .pxor p q r, .pnot p q] : List Instr),
      exec w s = .next t → kept (fun _ => True) (fun n => n ≠ p ∨ n = 0) (fun _ => True)) ∧
    (∀ w ∈ ([.cmov e k, .cclr e k] : List Instr), exec w s = .next t → kept (fun _ => True) (fun _ => True) (fun n => n ≠ e ∨ n = 0))
end

