-- ==== Sys2Proof/Laws/Issue.lean ====
section
/-! SUPPORT. What the issue of a lone word does: when neither a fault nor a wait stands against it, it issues, and the state after
it is that of `State.afterWord`. -/

namespace Sys2Proof.Machine

/-- One word writes nothing twice. -/
theorem conflictSlot_one (r : SlotRes) : conflictSlot (allDests [r]) = none := by
  have key : (allDests [r]).find? (fun a => (allDests [r]).any (fun b => b.2 == a.2 && b.1 != a.1)) = none := by
    rw [List.find?_eq_none]
    intro a ha
    simp only [List.any_eq_true, not_exists, not_and]
    intro b hb hab
    simp only [allDests, List.map_cons, List.map_nil, List.flatten_cons, List.flatten_nil, List.append_nil, List.mem_map] at ha hb
    obtain ⟨d, -, rfl⟩ := ha
    obtain ⟨d', -, rfl⟩ := hb
    simp at hab
  unfold conflictSlot
  rw [key]; rfl

/-- The end of an iteration writes loop registers and VRB alone. -/
theorem mem_loopEndDests (c : Ctx) (d : Dest) (h : d ∈ loopEndDests c) : ∃ n, d = .sys n := by
  unfold loopEndDests at h
  split at h
  · simp only [List.map_cons, List.map_nil, List.mem_append, List.mem_cons, List.not_mem_nil, or_false] at h
    rcases h with (h | h | h | h | h | h | h | h) | h
    all_goals first
      | exact ⟨_, h⟩
      | (split at h
         · simp at h
         · simp at h; exact ⟨_, h⟩)
  · simp at h

/-- A lone word whose destinations no end of an iteration writes meets no conflict. -/
theorem valueConflict_one (r : SlotRes) (c : Ctx) (h : ∀ d ∈ r.dests, d ∉ loopEndDests c) : valueConflict [r] c r = none := by
  have e : r.dests.any (fun d => (loopEndDests c).contains d) = false := by
    rw [List.any_eq_false]; intro d hd; simp [h d hd]
  simpa [valueConflict, trapIf] using e

/-- A word that writes no system register conflicts with nothing. -/
theorem valueConflict_noSys (r : SlotRes) (c : Ctx) (h : ∀ n, Dest.sys n ∉ r.dests) : valueConflict [r] c r = none := by
  refine valueConflict_one r c ?_
  intro d hd hl
  obtain ⟨n, rfl⟩ := mem_loopEndDests c d hl
  exact h n hd

/-- What a lone word needs of the core: no fault or wait of its own, its engine free, and requests, entries and records at hand. -/
structure SlotRes.Clear (r : SlotRes) (s : State) : Prop where
  legal : r.illegal = false
  alone : valueConflict [r] s.ctx r = none
  trap : r.trap = none
  hold : r.hold = none
  engine : r.engineHold s.cr = none
  schedule : r.schedule s.cr = false
  resource : resourceHold [r] s = none
  record : recordTrap [r] s = none

theorem Hold.join_none (h : Option Hold) : Hold.join none h = h := by cases h <;> rfl

/-- A clear word issues. -/
theorem verdict_clear (r : SlotRes) (s : State) (h : r.Clear s) : verdict [r] s = .go := by
  have h1 : staticIllegal [r] = none := by simp [staticIllegal, h.legal, conflictSlot_one]
  have h2 : [r].find? (fun r => r.schedule s.cr) = none := by simp [h.schedule]
  have h3 : operandTrap [r] s.ctx [r] = none := by simp [operandTrap, h.alone, h.trap]
  have h4 : [r].foldl (fun h r => Hold.join h (Hold.join r.hold (r.engineHold s.cr))) (resourceHold [r] s) = none := by
    simp [h.resource, h.hold, h.engine, Hold.join]
  simp only [verdict, h1, h2, h3, h.record, h4]

/-- The commit of a lone word whose slot result raises nothing after issue. -/
theorem commit_one (r : SlotRes) (s : State) (hp : r.post = none) (hy : r.yields = false) (hc : r.slot ≠ .b → r.ctl = .fall) :
    commit [r] s = s.afterWord r.slot r.draw r.engine r.ctl r.waits r.effect := by
  have hctl : bundleCtl [r] = r.ctl := by
    unfold bundleCtl
    by_cases hb : r.slot = .b
    · simp [hb]
    · have hf : (r.slot == Slot.b) = false := by simp [hb]
      simp [hf, hc hb]
  have hpost : bundlePost [r] = none := by simp [bundlePost, hp, firstTrap]
  simp only [commit, hctl, hpost]
  simp [State.afterWord, occupy, Core.withEngine, hy] <;> rfl

/-- A clear word that raises nothing after issue leaves the state of `State.afterWord`. -/
theorem runAlone_clear (i : Instr) (r : SlotRes) (s : State) (hw : i.wellFormed = true) (h : r.Clear s) (hp : r.post = none)
    (hy : r.yields = false) (hc : r.slot ≠ .b → r.ctl = .fall) :
    runAlone i r s = .next (s.afterWord r.slot r.draw r.engine r.ctl r.waits r.effect) := by
  have e : ({ r with illegal := r.illegal || !i.wellFormed } : SlotRes) = r := by
    cases r; simp_all
  simp only [runAlone, e, attempt, verdict_clear r s h, commit_one r s hp hy hc]

/-- A word that uses no engine and no request, entry or record needs only to be free of faults and waits. -/
theorem clear_plain (r : SlotRes) (s : State) (hl : r.illegal = false) (ha : valueConflict [r] s.ctx r = none)
    (ht : r.trap = none) (hh : r.hold = none) (he : r.engine = none) (hq : r.requests = 0) (hn : r.entries = 0) (hr : r.records = 0) :
    r.Clear s where
  legal := hl
  alone := ha
  trap := ht
  hold := hh
  engine := by simp [SlotRes.engineHold, he]
  schedule := by simp [SlotRes.schedule, he]
  resource := by simp [resourceHold, sumOf, hq, hn, hr, entriesFit, holdIf]
  record := by simp [recordTrap, sumOf, hr]

/-- A word that uses no engine and whose first operand or access fault is `t` takes it. -/
theorem runAlone_trap (i : Instr) (r : SlotRes) (s : State) (t : Trap) (hw : i.wellFormed = true) (hl : r.illegal = false)
    (ha : valueConflict [r] s.ctx r = none) (he : r.engine = none) (ht : r.trap = some t) :
    runAlone i r s = .next (((r.onTrap s).modCtx (fun c => { c with answers := [] })).takeFault s.cr.cur t s.ctx.pc.toNat t.async) := by
  have e : ({ r with illegal := r.illegal || !i.wellFormed } : SlotRes) = r := by
    cases r; simp_all
  have h1 : staticIllegal [r] = none := by simp [staticIllegal, hl, conflictSlot_one]
  have h2 : [r].find? (fun r => r.schedule s.cr) = none := by simp [SlotRes.schedule, he]
  have h3 : operandTrap [r] s.ctx [r] = some (t, r.onTrap) := by simp [operandTrap, ha, ht]
  have hv : verdict [r] s = .fault t r.onTrap := by simp only [verdict, h1, h2, h3]
  simp only [runAlone, e, attempt, hv]

end Sys2Proof.Machine
end

