-- ==== Sys2Proof/Laws/Scalar.lean ====
section
/-! SUPPORT. What an S word of the integer, compare, capability and system-register families does when its operands are ready. -/

namespace Sys2Proof.Machine

theorem xHold_none (c : Ctx) (r : BitVec 6) (h : c.xEmpty r = false) : xHold c r = none := by simp [xHold, holdIf, h]

theorem cHold_none (c : Ctx) (r : BitVec 5) (h : c.cEmpty r = false) : cHold c r = none := by simp [cHold, holdIf, h]

theorem xPoisonTrap_none (c : Ctx) (r : BitVec 6) (h : c.xPoison r = false) : xPoisonTrap c r = none := by
  simp [xPoisonTrap, trapIf, h]

theorem cPoisonTrap_none (c : Ctx) (r : BitVec 5) (h : c.cPoison r = false) : cPoisonTrap c r = none := by
  simp [cPoisonTrap, trapIf, h]

/-- No check of a list that is all none finds a fault. -/
theorem firstTrap_none (l : List (Option Trap)) (h : ∀ t ∈ l, t = none) : firstTrap l = none := by
  induction l with
  | nil => rfl
  | cons t l ih =>
    rw [h t (by simp)]
    exact ih (fun q hq => h q (by simp [hq]))

/-- No hold of a list that is all none holds a word. -/
theorem joinHolds_none (l : List (Option Hold)) (h : ∀ t ∈ l, t = none) : joinHolds l = none := by
  have : ∀ l : List (Option Hold), (∀ t ∈ l, t = none) → l.foldl Hold.join none = none := by
    intro l; induction l with
    | nil => intro _; rfl
    | cons t l ih =>
      intro h
      rw [List.foldl_cons, h t (by simp)]
      exact ih (fun q hq => h q (by simp [hq]))
  exact this l h

/-- An S word that changes only the context, once neither a fault nor a wait of its own stands against it. -/
theorem runAlone_ctx (i : Instr) (s : State) (r : SlotRes) (f : Ctx → Ctx) (hw : i.wellFormed = true)
    (hr : ∀ x, r = x → x.slot = .s ∧ x.illegal = false ∧ x.engine = none ∧ x.draw = 1 ∧ x.ctl = .fall ∧ x.post = none ∧ x.waits = [] ∧
      x.yields = false ∧ x.requests = 0 ∧ x.entries = 0 ∧ x.records = 0 ∧ x.effect = fun t => t.modCtx f)
    (ha : valueConflict [r] s.ctx r = none) (ht : r.trap = none) (hh : r.hold = none) :
    runAlone i r s = .next (s.afterScalar f) := by
  obtain ⟨hs, hi, he, hd, hc, hp, hwt, hy, hq, hn, hrec, hf⟩ := hr r rfl
  rw [runAlone_clear i r s hw (clear_plain r s hi ha ht hh he hq hn hrec) hp hy (fun _ => hc), hs, hd, he, hc, hwt, hf]
  rfl

/-- A word that writes an x register at the end of its issue cycle. -/
theorem runAlone_scalar (i : Instr) (s : State) (srcs : List (BitVec 6)) (d : BitVec 6) (v : Word) (hw : i.wellFormed = true)
    (hs : ∀ r ∈ srcs, s.ctx.xReady r) (hd : s.ctx.xEmpty d = false) :
    runAlone i (scalarRes s.ctx srcs d v) s = .next (s.afterScalar (fun c => c.setX d v)) := by
  refine runAlone_ctx i s _ _ hw (by rintro x rfl; simp [scalarRes]) (valueConflict_noSys _ _ (by simp [scalarRes]))
    (firstTrap_none _ ?_) (joinHolds_none _ ?_)
  · intro t ht
    obtain ⟨r, hr, rfl⟩ := List.mem_map.1 ht
    exact xPoisonTrap_none _ _ (hs r hr).2
  · intro t ht
    obtain ⟨r, hr, rfl⟩ := List.mem_map.1 ht
    rcases List.mem_cons.1 hr with rfl | h
    · exact xHold_none _ _ hd
    · exact xHold_none _ _ (hs r h).1

/-- A word that writes a predicate at the end of its issue cycle. -/
theorem runAlone_pred (i : Instr) (s : State) (srcs : List (BitVec 6)) (d : BitVec 4) (v : Bool) (hw : i.wellFormed = true)
    (hs : ∀ r ∈ srcs, s.ctx.xReady r) :
    runAlone i (predRes s.ctx srcs d v) s = .next (s.afterScalar (fun c => c.setP d v)) := by
  refine runAlone_ctx i s _ _ hw (by rintro x rfl; simp [predRes]) (valueConflict_noSys _ _ (by simp [predRes]))
    (firstTrap_none _ ?_) (joinHolds_none _ ?_)
  · intro t ht
    obtain ⟨r, hr, rfl⟩ := List.mem_map.1 ht
    exact xPoisonTrap_none _ _ (hs r hr).2
  · intro t ht
    obtain ⟨r, hr, rfl⟩ := List.mem_map.1 ht
    exact xHold_none _ _ (hs r hr).1

/-- A word that writes a capability register at the end of its issue cycle. -/
theorem runAlone_cap (i : Instr) (s : State) (caps : List (BitVec 5)) (xs : List (BitVec 6)) (d : BitVec 5) (traps : List (Option Trap))
    (v : Cap) (hw : i.wellFormed = true) (hc : ∀ r ∈ caps, s.ctx.cReady r) (hx : ∀ r ∈ xs, s.ctx.xReady r) (hd : s.ctx.cEmpty d = false)
    (ht : ∀ t ∈ traps, t = none) :
    runAlone i (capRes s.ctx caps xs d traps v) s = .next (s.afterScalar (fun c => c.setC d v)) := by
  refine runAlone_ctx i s _ _ hw (by rintro x rfl; simp [capRes]) (valueConflict_noSys _ _ (by simp [capRes]))
    (firstTrap_none _ ht) (joinHolds_none _ ?_)
  intro t ht
  rcases List.mem_append.1 ht with h | h
  · obtain ⟨r, hr, rfl⟩ := List.mem_map.1 h
    rcases List.mem_cons.1 hr with rfl | h
    · exact cHold_none _ _ hd
    · exact cHold_none _ _ (hc r h).1
  · obtain ⟨r, hr, rfl⟩ := List.mem_map.1 h
    exact xHold_none _ _ (hx r hr).1

/-- The checks of a derivation from a valid capability find nothing. -/
theorem derivChecks_none (c : Ctx) (r : BitVec 5) (h : c.cValid r) : ∀ t ∈ derivChecks c r, t = none := by
  obtain ⟨⟨h1, h2⟩, h3, h4⟩ := h
  simp [derivChecks, cPoisonTrap, trapIf, h1, h2, h3, h4]

/-- The first fault of a list whose first part finds nothing. -/
theorem firstTrap_append (l m : List (Option Trap)) (h : ∀ t ∈ l, t = none) : firstTrap (l ++ m) = firstTrap m := by
  induction l with
  | nil => rfl
  | cons t l ih =>
    rw [List.cons_append, h t (by simp)]
    exact ih (fun q hq => h q (by simp [hq]))

/-- A word that changes nothing else takes the first fault of its own checks. -/
theorem runAlone_fault (i : Instr) (r : SlotRes) (s : State) (t : Trap) (hw : i.wellFormed = true) (hl : r.illegal = false)
    (ha : ∀ n, Dest.sys n ∉ r.dests) (he : r.engine = none) (ho : r.onTrap = id) (ht : r.trap = some t) :
    runAlone i r s = .next (s.afterFault t) := by
  rw [runAlone_trap i r s t hw hl (valueConflict_noSys r s.ctx ha) he ht, ho]
  rfl

end Sys2Proof.Machine
end

