-- ==== Sys2Proof/Laws/Access.lean ====
section
/-! SUPPORT. The checks of R124 on an access that its capability allows, and the waits of a write to a place that may be written. -/

namespace Sys2Proof.Machine

/-- An allowed access to an address that resolves passes every check, waits for nothing, and goes where it resolves. -/
theorem accessChecks_ok (s : State) (v : Cap) (a : Word) (n : Nat) (m : MAddr) (p : Perm) (w : Bool) (spaces : List Space)
    (ha : v.allows p spaces a n) (hr : s.Reaches v a n m) :
    let acc := accessChecks s s.ctx v a n p spaces w
    (∀ t ∈ acc.traps, t = none) ∧ acc.hold = none ∧ acc.addr = m ∧ acc.mark = fun t => t.touched m w := by
  obtain ⟨h1, h2, h3, ⟨sp, h4, h4'⟩, h5, h6, h7⟩ := ha
  have h6' : ¬(boundsOf v).2 < a.toNat + n := by omega
  have h5' : ¬a.toNat < (boundsOf v).1 := by omega
  cases hr with
  | scratch g b h r f =>
    rw [h] at h4'; cases h4'
    simp [accessChecks, h, spaceOf, r, addrTrap, trapIf, h1, h2, h3, h5', h6', h7, h4, f]
    rfl
  | host h ww =>
    rw [h] at h4'; cases h4'
    simp [accessChecks, h, spaceOf, addrTrap, trapIf, h1, h2, h3, h5', h6', h7, h4, ww]
    rfl
  | object q f h ww g x =>
    simp only [show (2 : Nat) ^ 40 = 1099511627776 from rfl] at g x ⊢
    rcases h with ⟨h, rfl⟩ | ⟨h, rfl⟩
    · rw [h] at h4'; cases h4'
      simp [accessChecks, h, spaceOf, addrTrap, trapIf, h1, h2, h3, h5', h6', h7, h4, ww, objOf, pageOf, x, g, offOf]
      rfl
    · rw [h] at h4'; cases h4'
      simp [accessChecks, h, spaceOf, addrTrap, trapIf, h1, h2, h3, h5', h6', h7, h4, ww, objOf, pageOf, x, g, offOf]
      rfl

/-- A place that may be written now makes no store wait. -/
theorem storeWait_none (s : State) (m : MAddr) (h : s.mayWrite m) : (storeWait s m).1 = none ∧ (storeWait s m).2.2 = none := by
  have late : ∀ (l : List (Nat × Nat)) (cyc : Nat), (∀ r ∈ l, r.1 = m.off / 128 → r.2 ≤ cyc) →
      l.any (fun r => r.1 == m.off / 128 && decide (cyc < r.2)) = false := by
    intro l cyc h
    rw [List.any_eq_false]
    intro r hr
    simp only [Bool.and_eq_true, beq_iff_eq, decide_eq_true_eq, not_and, Nat.not_lt]
    exact h r hr
  unfold storeWait
  by_cases hs : m.space = .scratch
  · obtain ⟨h1, h2, h3⟩ := h hs
    by_cases ho : m.obj = s.g
    · obtain ⟨h4, h5⟩ := h2 ho
      have held : s.cr.copies.filter (fun o => [m.off / 128].any (fun l => o.holds s.cr.cur l)) = [] := by
        rw [List.filter_eq_nil_iff]; intro o hoo; simp [h4 o hoo]
      have reads : (s.cr.reads.any fun r => [m.off / 128].contains r.1 && decide (s.cr.cyc < r.2)) = false := by
        rw [← late _ _ h5]; congr; funext r; simp only [List.contains, List.elem]; cases r.1 == m.off / 128 <;> rfl
      rw [ho] at h1
      have e : (m.space != Space.scratch) = false := by simp [hs]
      rw [if_neg (by simp [hs]), if_pos ho]
      unfold lineWriteWait
      rw [held]
      simp only [reads]
      simp [h1, holdIf, Hold.join]
    · rw [if_neg (by simp [hs]), if_neg ho]
      simp only [late _ _ (h3 ho), h1]
      simp [holdIf, Hold.join]
  · rw [if_pos (by simpa using hs)]
    simp

/-- What an access word needs to issue: its registers free and readable, its access allowed and resolved, its place free to be written
where it writes, and a request at hand. -/
theorem access_clear (s : State) (slot : Slot) (draw : Nat) (dests : List Dest) (rt : List (Option Trap)) (rh : Option Hold) (acc : Access)
    (lw : Option Trap × (State → State) × Option Hold) (f : State → State) (hd : ∀ n, Dest.sys n ∉ dests) (h1 : ∀ t ∈ rt, t = none)
    (h2 : rh = none) (h3 : ∀ t ∈ acc.traps, t = none) (h4 : acc.hold = none) (h5 : lw.1 = none) (h6 : lw.2.2 = none)
    (ho : s.outstanding < 1024) : (accessRes slot draw dests rt rh true acc lw 1 f).Clear s where
  legal := rfl
  alone := valueConflict_noSys _ _ hd
  trap := by simp [accessRes, firstTrap_none _ h1, firstTrap_none _ h3, h5]
  hold := by simp [accessRes, joinHolds, h2, h4, h6, Hold.join]
  engine := rfl
  schedule := rfl
  resource := by simp [resourceHold, sumOf, accessRes, entriesFit, holdIf]; omega
  record := by simp [recordTrap, sumOf, accessRes]

end Sys2Proof.Machine
end

