-- ==== Sys2Proof/Laws/Memory.lean ====
section
/-! SUPPORT. Memories and tables: what is read after a write, and that every operation keeps the canonical form of a memory. -/

namespace Sys2Proof.Machine

-- Tables

theorem tabGet_tabSet_same {α : Type} (t : Tab α) (k : Nat) (v : α) : tabGet (tabSet t k v) k = some v := by
  induction t with
  | nil => simp [tabSet, tabGet]
  | cons e t ih =>
    obtain ⟨j, w⟩ := e
    unfold tabSet
    split
    · simp [tabGet]
    · split
      · simp [tabGet]
      · have : j ≠ k := by omega
        simp [tabGet, this, ih]

theorem tabGet_tabSet_other {α : Type} (t : Tab α) (k l : Nat) (v : α) (h : l ≠ k) : tabGet (tabSet t k v) l = tabGet t l := by
  induction t with
  | nil => simp [tabSet, tabGet, Ne.symm h]
  | cons e t ih =>
    obtain ⟨j, w⟩ := e
    unfold tabSet
    split
    · simp [tabGet, Ne.symm h]
    · split
      · rename_i hk; subst hk; simp [tabGet, Ne.symm h]
      · simp only [tabGet, ih]

theorem tabGet_filter_none {α : Type} (t : Tab α) (p : Nat × α → Bool) (k : Nat) (h : ∀ v, p (k, v) = false) : tabGet (t.filter p) k = none := by
  induction t with
  | nil => rfl
  | cons e t ih =>
    obtain ⟨j, w⟩ := e
    simp only [List.filter_cons]
    split
    · rename_i hp
      have : j ≠ k := by rintro rfl; rw [h w] at hp; cases hp
      simp [tabGet, this, ih]
    · exact ih

theorem tabGet_filter_keep {α : Type} (t : Tab α) (p : Nat × α → Bool) (k : Nat) (h : ∀ v, p (k, v) = true) :
    tabGet (t.filter p) k = tabGet t k := by
  induction t with
  | nil => rfl
  | cons e t ih =>
    obtain ⟨j, w⟩ := e
    simp only [List.filter_cons]
    by_cases hj : j = k
    · subst hj; simp [h w, tabGet]
    · split <;> simp [tabGet, hj, ih]

theorem tabGet_tabErase_same {α : Type} (t : Tab α) (k : Nat) : tabGet (tabErase t k) k = none := tabGet_filter_none t _ k (by simp)

theorem tabGet_tabErase_other {α : Type} (t : Tab α) (k l : Nat) (h : l ≠ k) : tabGet (tabErase t k) l = tabGet t l :=
  tabGet_filter_keep t _ l (by simp [h])

-- The canonical form

/-- The canonical form as a proposition: rising addresses, and no byte that an unlisted address reads as. -/
theorem memWfFrom_iff (m : Memory) (lo : Nat) :
    memWfFrom lo m = true ↔ m.Pairwise (fun a b => a.1 < b.1) ∧ ∀ c ∈ m, lo ≤ c.1 ∧ c.2 ≠ 0 := by
  induction m generalizing lo with
  | nil => simp [memWfFrom]
  | cons e m ih =>
    obtain ⟨a, b⟩ := e
    simp only [memWfFrom, Bool.and_eq_true, decide_eq_true_eq, bne_iff_ne, ne_eq, ih, List.pairwise_cons, List.mem_cons, forall_eq_or_imp]
    constructor
    · rintro ⟨⟨h1, h2⟩, h3, h4⟩
      exact ⟨⟨fun c hc => by have := (h4 c hc).1; omega, h3⟩, ⟨h1, h2⟩, fun c hc => ⟨by have := (h4 c hc).1; omega, (h4 c hc).2⟩⟩
    · rintro ⟨⟨h1, h2⟩, ⟨h3, h4⟩, h5⟩
      exact ⟨⟨h3, h4⟩, h2, fun c hc => ⟨by have := h1 c hc; omega, (h5 c hc).2⟩⟩

theorem Memory.wf_iff (m : Memory) : Memory.wf m = true ↔ m.Pairwise (fun a b => a.1 < b.1) ∧ ∀ c ∈ m, c.2 ≠ 0 := by
  unfold Memory.wf
  rw [memWfFrom_iff]
  simp

theorem wf_filter (m : Memory) (p : Host.Cell → Bool) (h : Memory.wf m = true) : Memory.wf (m.filter p) = true := by
  rw [Memory.wf_iff] at h ⊢
  exact ⟨h.1.filter p, fun c hc => h.2 c (List.mem_filter.1 hc).1⟩

theorem mem_memCells (bs : List (BitVec 8)) (a : Nat) (c : Host.Cell) (h : c ∈ memCells a bs) : a ≤ c.1 ∧ c.1 < a + bs.length ∧ c.2 ≠ 0 := by
  induction bs generalizing a with
  | nil => simp [memCells] at h
  | cons b bs ih =>
    simp only [memCells] at h
    split at h
    · have := ih (a + 1) h
      simp only [List.length_cons]
      exact ⟨by omega, by omega, this.2.2⟩
    · rename_i hb
      rcases List.mem_cons.1 h with rfl | h
      · exact ⟨Nat.le_refl _, by simp, hb⟩
      · have := ih (a + 1) h
        simp only [List.length_cons]
        exact ⟨by omega, by omega, this.2.2⟩

theorem memCells_rising (bs : List (BitVec 8)) (a : Nat) : (memCells a bs).Pairwise (fun x y => x.1 < y.1) := by
  induction bs generalizing a with
  | nil => simp [memCells]
  | cons b bs ih =>
    simp only [memCells]
    split
    · exact ih _
    · exact List.pairwise_cons.2 ⟨fun c hc => by have := (mem_memCells _ _ _ hc).1; exact this, ih _⟩

/-- Cells of a middle range put in the place of a memory's own. -/
theorem wf_splice (m mid : Memory) (lo hi : Nat) (h : Memory.wf m = true) (hr : mid.Pairwise (fun x y => x.1 < y.1))
    (hm : ∀ c ∈ mid, lo ≤ c.1 ∧ c.1 < hi ∧ c.2 ≠ 0) (hl : lo ≤ hi) :
    Memory.wf (m.filter (fun c => c.1 < lo) ++ (mid ++ m.filter (fun c => hi ≤ c.1))) = true := by
  rw [Memory.wf_iff] at h ⊢
  refine ⟨?_, ?_⟩
  · rw [List.pairwise_append, List.pairwise_append]
    refine ⟨h.1.filter _, ⟨hr, h.1.filter _, ?_⟩, ?_⟩
    · intro x hx y hy
      have h1 := (hm x hx).2.1
      have h2 := (List.mem_filter.1 hy).2
      simp only [decide_eq_true_eq] at h2
      omega
    · intro x hx y hy
      have h1 := (List.mem_filter.1 hx).2
      simp only [decide_eq_true_eq] at h1
      rcases List.mem_append.1 hy with hy | hy
      · have := (hm y hy).1; omega
      · have h2 := (List.mem_filter.1 hy).2
        simp only [decide_eq_true_eq] at h2
        omega
  · intro c hc
    simp only [List.mem_append, List.mem_filter] at hc
    rcases hc with ⟨hc, _⟩ | hc | ⟨hc, _⟩
    · exact h.2 c hc
    · exact (hm c hc).2.2
    · exact h.2 c hc

theorem wf_memWrite (m : Memory) (a : Nat) (bs : List (BitVec 8)) (h : Memory.wf m = true) : Memory.wf (memWrite m a bs) = true :=
  wf_splice m (memCells a bs) a (a + bs.length) h (memCells_rising bs a) (fun c hc => mem_memCells bs a c hc) (by omega)

theorem wf_memClear (m : Memory) (lo hi : Nat) (h : Memory.wf m = true) : Memory.wf (memClear m lo hi) = true := wf_filter m _ h

theorem wf_moveCells (src dst : Memory) (lo n b : Nat) (hs : Memory.wf src = true) (hd : Memory.wf dst = true) :
    Memory.wf (moveCells src dst lo n b) = true := by
  unfold moveCells
  rw [Memory.wf_iff] at hs
  refine wf_splice dst _ b (b + n) hd ?_ ?_ (by omega)
  · rw [List.pairwise_map]
    refine (hs.1.filter _).imp_of_mem ?_
    intro x y hx hy hxy
    have h1 := (List.mem_filter.1 hx).2
    have h2 := (List.mem_filter.1 hy).2
    simp only [Bool.and_eq_true, decide_eq_true_eq] at h1 h2
    simp only
    omega
  · intro c hc
    obtain ⟨x, hx, rfl⟩ := List.mem_map.1 hc
    obtain ⟨h1, h2⟩ := List.mem_filter.1 hx
    simp only [Bool.and_eq_true, decide_eq_true_eq] at h2
    simp only
    exact ⟨by omega, by omega, hs.2 x h1⟩

theorem wf_nil : Memory.wf [] = true := rfl

-- Reading

theorem memByte_filter (m : Memory) (p : Host.Cell → Bool) (a : Nat) (h : ∀ v, p (a, v) = true) : memByte (m.filter p) a = memByte m a := by
  induction m with
  | nil => rfl
  | cons e m ih =>
    obtain ⟨j, w⟩ := e
    simp only [List.filter_cons]
    by_cases hj : j = a
    · subst hj; simp [h w, memByte]
    · split <;> simp [memByte, hj, ih]

theorem memByte_absent (m : Memory) (a : Nat) (h : ∀ c ∈ m, c.1 ≠ a) : memByte m a = 0 := by
  induction m with
  | nil => rfl
  | cons e m ih =>
    obtain ⟨j, w⟩ := e
    have : j ≠ a := h (j, w) (by simp)
    simp only [memByte, this, if_false]
    exact ih (fun c hc => h c (by simp [hc]))

theorem memByte_append_absent (m n : Memory) (a : Nat) (h : ∀ c ∈ m, c.1 ≠ a) : memByte (m ++ n) a = memByte n a := by
  induction m with
  | nil => rfl
  | cons e m ih =>
    obtain ⟨j, w⟩ := e
    have : j ≠ a := h (j, w) (by simp)
    simp only [List.cons_append, memByte, this, if_false]
    exact ih (fun c hc => h c (by simp [hc]))

theorem memByte_append_left (m n : Memory) (a : Nat) (h : ∀ c ∈ n, c.1 ≠ a) : memByte (m ++ n) a = memByte m a := by
  induction m with
  | nil => exact memByte_absent n a h
  | cons e m ih =>
    obtain ⟨j, w⟩ := e
    simp only [List.cons_append, memByte, ih]

theorem memByte_memCells (bs : List (BitVec 8)) (a i : Nat) (h : i < bs.length) : memByte (memCells a bs) (a + i) = bs[i] := by
  induction bs generalizing a i with
  | nil => simp at h
  | cons b bs ih =>
    simp only [memCells]
    cases i with
    | zero =>
      split
      · rename_i hb
        simp only [Nat.add_zero, List.getElem_cons_zero]
        rw [hb]
        exact memByte_absent _ _ (fun c hc => by have := (mem_memCells _ _ _ hc).1; omega)
      · simp [memByte]
    | succ i =>
      have h' : i < bs.length := by simpa using h
      have e : a + (i + 1) = a + 1 + i := by omega
      rw [e]
      split
      · simpa using ih (a + 1) i h'
      · have : a ≠ a + 1 + i := by omega
        simp only [memByte, this, if_false, List.getElem_cons_succ]
        exact ih (a + 1) i h'

/-- A byte of what was written reads as written. -/
theorem memByte_memWrite_in (m : Memory) (a i : Nat) (bs : List (BitVec 8)) (h : i < bs.length) : memByte (memWrite m a bs) (a + i) = bs[i] := by
  unfold memWrite
  rw [memByte_append_absent, memByte_append_left, memByte_memCells bs a i h]
  · intro c hc
    have := (List.mem_filter.1 hc).2
    simp only [decide_eq_true_eq] at this
    omega
  · intro c hc
    have := (List.mem_filter.1 hc).2
    simp only [decide_eq_true_eq] at this
    omega

/-- A byte outside what was written reads as before. -/
theorem memByte_memWrite_out (m : Memory) (a x : Nat) (bs : List (BitVec 8)) (h : x < a ∨ a + bs.length ≤ x) :
    memByte (memWrite m a bs) x = memByte m x := by
  unfold memWrite
  rcases h with h | h
  · rw [memByte_append_left, memByte_filter _ _ _ (by intro v; simpa using h)]
    intro c hc
    rcases List.mem_append.1 hc with hc | hc
    · have := (mem_memCells _ _ _ hc).1; omega
    · have := (List.mem_filter.1 hc).2
      simp only [decide_eq_true_eq] at this
      omega
  · rw [memByte_append_absent, memByte_append_absent, memByte_filter _ _ _ (by intro v; simpa using h)]
    · intro c hc
      have := (mem_memCells _ _ _ hc).2.1; omega
    · intro c hc
      have := (List.mem_filter.1 hc).2
      simp only [decide_eq_true_eq] at this
      omega

/-- A cleared byte reads as zero, any other as before. -/
theorem memByte_memClear (m : Memory) (lo hi a : Nat) : memByte (memClear m lo hi) a = if lo ≤ a ∧ a < hi then 0 else memByte m a := by
  unfold memClear
  split
  · rename_i h
    refine memByte_absent _ _ ?_
    intro c hc e
    have := (List.mem_filter.1 hc).2
    simp [e, h] at this
  · rename_i h
    refine memByte_filter _ _ _ ?_
    intro v
    simp
    omega

theorem memRead_length (m : Memory) (a n : Nat) : (memRead m a n).length = n := by simp [memRead]

/-- A read of several bytes reads each of them. -/
theorem memRead_getElem (m : Memory) (a n i : Nat) (h : i < n) : (memRead m a n)[i]'(by simp [memRead_length, h]) = memByte m (a + i) := by
  simp only [memRead, List.getElem_map, List.getElem_range]
  refine memByte_filter _ _ _ ?_
  intro v
  simp
  omega

theorem leBytes_length (n v : Nat) : (leBytes n v).length = n := by
  induction n generalizing v with
  | zero => rfl
  | succ n ih => simp [leBytes, ih]

end Sys2Proof.Machine
end

