-- ==== Sys2Proof/Laws/State.lean ====
section
/-! SUPPORT. What the named updates of a state and of a context leave as it was, one field each, and what is read back after a write.
Each theorem is a conjunction of equations, and `simp` uses each of them. -/

namespace Sys2Proof.Machine

-- Updates of a state

@[simp] theorem State.modCtx_fields (s : State) (f : Ctx → Ctx) :
    (s.modCtx f).power = s.power ∧ (s.modCtx f).tnow = s.tnow ∧ (s.modCtx f).lt = s.lt ∧ (s.modCtx f).tstep = s.tstep ∧
    (s.modCtx f).lastTick = s.lastTick ∧ (s.modCtx f).g = s.g ∧ (s.modCtx f).others = s.others ∧ (s.modCtx f).scratch = s.scratch ∧
    (s.modCtx f).lineMeta = s.lineMeta ∧ (s.modCtx f).tiles = s.tiles ∧ (s.modCtx f).released = s.released ∧ (s.modCtx f).imem = s.imem ∧
    (s.modCtx f).hbm = s.hbm ∧ (s.modCtx f).hbmTags = s.hbmTags ∧ (s.modCtx f).hbmPoison = s.hbmPoison ∧ (s.modCtx f).frameTs = s.frameTs ∧
    (s.modCtx f).pool = s.pool ∧ (s.modCtx f).poolLines = s.poolLines ∧ (s.modCtx f).ht = s.ht ∧ (s.modCtx f).homeAged = s.homeAged ∧
    (s.modCtx f).homeOld = s.homeOld ∧ (s.modCtx f).partAged = s.partAged ∧ (s.modCtx f).pageTokens = s.pageTokens ∧
    (s.modCtx f).homeLeases = s.homeLeases ∧ (s.modCtx f).leases = s.leases ∧ (s.modCtx f).cxl = s.cxl ∧ (s.modCtx f).host = s.host ∧
    (s.modCtx f).clusters = s.clusters ∧ (s.modCtx f).rdc = s.rdc ∧ (s.modCtx f).version = s.version ∧ (s.modCtx f).walks = s.walks ∧
    (s.modCtx f).objects = s.objects ∧ (s.modCtx f).frames = s.frames ∧ (s.modCtx f).clockHand = s.clockHand ∧
    (s.modCtx f).nextNode = s.nextNode ∧ (s.modCtx f).shoots = s.shoots ∧ (s.modCtx f).prefs = s.prefs ∧
    (s.modCtx f).services = s.services ∧ (s.modCtx f).writes = s.writes ∧ (s.modCtx f).updates = s.updates ∧ (s.modCtx f).notes = s.notes ∧
    (s.modCtx f).reductions = s.reductions ∧ (s.modCtx f).worlds = s.worlds ∧ (s.modCtx f).merge = s.merge ∧
    (s.modCtx f).renewals = s.renewals ∧ (s.modCtx f).bulks = s.bulks ∧ (s.modCtx f).jobs = s.jobs ∧ (s.modCtx f).links = s.links ∧
    (s.modCtx f).placements = s.placements ∧ (s.modCtx f).tenants = s.tenants ∧ (s.modCtx f).launches = s.launches ∧
    (s.modCtx f).queues = s.queues ∧ (s.modCtx f).images = s.images ∧ (s.modCtx f).armed = s.armed ∧ (s.modCtx f).reserved = s.reserved ∧
    (s.modCtx f).passed = s.passed ∧ (s.modCtx f).evicting = s.evicting ∧ (s.modCtx f).deadDies = s.deadDies ∧
    (s.modCtx f).stopped = s.stopped ∧ (s.modCtx f).clocksStopped = s.clocksStopped ∧ (s.modCtx f).registers = s.registers ∧
    (s.modCtx f).bootstat = s.bootstat ∧ (s.modCtx f).measures = s.measures ∧ (s.modCtx f).temps = s.temps ∧ (s.modCtx f).sent = s.sent ∧
    (s.modCtx f).lastTenant = s.lastTenant ∧ (s.modCtx f).pf0 = s.pf0 ∧ (s.modCtx f).health = s.health ∧
    (s.modCtx f).healthCnt = s.healthCnt ∧ (s.modCtx f).event = s.event ∧ (s.modCtx f).inputs = s.inputs ∧ (s.modCtx f).nextId = s.nextId ∧
    (s.modCtx f).tick = s.tick := by
  and_intros <;> rfl

@[simp] theorem State.setCtxAt_fields (s : State) (k : BitVec 2) (c : Ctx) :
    (s.setCtxAt k c).power = s.power ∧ (s.setCtxAt k c).tnow = s.tnow ∧ (s.setCtxAt k c).lt = s.lt ∧ (s.setCtxAt k c).tstep = s.tstep ∧
    (s.setCtxAt k c).lastTick = s.lastTick ∧ (s.setCtxAt k c).g = s.g ∧ (s.setCtxAt k c).others = s.others ∧
    (s.setCtxAt k c).scratch = s.scratch ∧ (s.setCtxAt k c).lineMeta = s.lineMeta ∧ (s.setCtxAt k c).tiles = s.tiles ∧
    (s.setCtxAt k c).released = s.released ∧ (s.setCtxAt k c).imem = s.imem ∧ (s.setCtxAt k c).hbm = s.hbm ∧
    (s.setCtxAt k c).hbmTags = s.hbmTags ∧ (s.setCtxAt k c).hbmPoison = s.hbmPoison ∧ (s.setCtxAt k c).frameTs = s.frameTs ∧
    (s.setCtxAt k c).pool = s.pool ∧ (s.setCtxAt k c).poolLines = s.poolLines ∧ (s.setCtxAt k c).ht = s.ht ∧
    (s.setCtxAt k c).homeAged = s.homeAged ∧ (s.setCtxAt k c).homeOld = s.homeOld ∧ (s.setCtxAt k c).partAged = s.partAged ∧
    (s.setCtxAt k c).pageTokens = s.pageTokens ∧ (s.setCtxAt k c).homeLeases = s.homeLeases ∧ (s.setCtxAt k c).leases = s.leases ∧
    (s.setCtxAt k c).cxl = s.cxl ∧ (s.setCtxAt k c).host = s.host ∧ (s.setCtxAt k c).clusters = s.clusters ∧ (s.setCtxAt k c).rdc = s.rdc ∧
    (s.setCtxAt k c).version = s.version ∧ (s.setCtxAt k c).walks = s.walks ∧ (s.setCtxAt k c).objects = s.objects ∧
    (s.setCtxAt k c).frames = s.frames ∧ (s.setCtxAt k c).clockHand = s.clockHand ∧ (s.setCtxAt k c).nextNode = s.nextNode ∧
    (s.setCtxAt k c).shoots = s.shoots ∧ (s.setCtxAt k c).prefs = s.prefs ∧ (s.setCtxAt k c).services = s.services ∧
    (s.setCtxAt k c).writes = s.writes ∧ (s.setCtxAt k c).updates = s.updates ∧ (s.setCtxAt k c).notes = s.notes ∧
    (s.setCtxAt k c).reductions = s.reductions ∧ (s.setCtxAt k c).worlds = s.worlds ∧ (s.setCtxAt k c).merge = s.merge ∧
    (s.setCtxAt k c).renewals = s.renewals ∧ (s.setCtxAt k c).bulks = s.bulks ∧ (s.setCtxAt k c).jobs = s.jobs ∧
    (s.setCtxAt k c).links = s.links ∧ (s.setCtxAt k c).placements = s.placements ∧ (s.setCtxAt k c).tenants = s.tenants ∧
    (s.setCtxAt k c).launches = s.launches ∧ (s.setCtxAt k c).queues = s.queues ∧ (s.setCtxAt k c).images = s.images ∧
    (s.setCtxAt k c).armed = s.armed ∧ (s.setCtxAt k c).reserved = s.reserved ∧ (s.setCtxAt k c).passed = s.passed ∧
    (s.setCtxAt k c).evicting = s.evicting ∧ (s.setCtxAt k c).deadDies = s.deadDies ∧ (s.setCtxAt k c).stopped = s.stopped ∧
    (s.setCtxAt k c).clocksStopped = s.clocksStopped ∧ (s.setCtxAt k c).registers = s.registers ∧ (s.setCtxAt k c).bootstat = s.bootstat ∧
    (s.setCtxAt k c).measures = s.measures ∧ (s.setCtxAt k c).temps = s.temps ∧ (s.setCtxAt k c).sent = s.sent ∧
    (s.setCtxAt k c).lastTenant = s.lastTenant ∧ (s.setCtxAt k c).pf0 = s.pf0 ∧ (s.setCtxAt k c).health = s.health ∧
    (s.setCtxAt k c).healthCnt = s.healthCnt ∧ (s.setCtxAt k c).event = s.event ∧ (s.setCtxAt k c).inputs = s.inputs ∧
    (s.setCtxAt k c).nextId = s.nextId ∧ (s.setCtxAt k c).tick = s.tick := by
  and_intros <;> rfl

@[simp] theorem State.modCtxAt_fields (s : State) (k : BitVec 2) (f : Ctx → Ctx) :
    (s.modCtxAt k f).power = s.power ∧ (s.modCtxAt k f).tnow = s.tnow ∧ (s.modCtxAt k f).lt = s.lt ∧ (s.modCtxAt k f).tstep = s.tstep ∧
    (s.modCtxAt k f).lastTick = s.lastTick ∧ (s.modCtxAt k f).g = s.g ∧ (s.modCtxAt k f).others = s.others ∧
    (s.modCtxAt k f).scratch = s.scratch ∧ (s.modCtxAt k f).lineMeta = s.lineMeta ∧ (s.modCtxAt k f).tiles = s.tiles ∧
    (s.modCtxAt k f).released = s.released ∧ (s.modCtxAt k f).imem = s.imem ∧ (s.modCtxAt k f).hbm = s.hbm ∧
    (s.modCtxAt k f).hbmTags = s.hbmTags ∧ (s.modCtxAt k f).hbmPoison = s.hbmPoison ∧ (s.modCtxAt k f).frameTs = s.frameTs ∧
    (s.modCtxAt k f).pool = s.pool ∧ (s.modCtxAt k f).poolLines = s.poolLines ∧ (s.modCtxAt k f).ht = s.ht ∧
    (s.modCtxAt k f).homeAged = s.homeAged ∧ (s.modCtxAt k f).homeOld = s.homeOld ∧ (s.modCtxAt k f).partAged = s.partAged ∧
    (s.modCtxAt k f).pageTokens = s.pageTokens ∧ (s.modCtxAt k f).homeLeases = s.homeLeases ∧ (s.modCtxAt k f).leases = s.leases ∧
    (s.modCtxAt k f).cxl = s.cxl ∧ (s.modCtxAt k f).host = s.host ∧ (s.modCtxAt k f).clusters = s.clusters ∧ (s.modCtxAt k f).rdc = s.rdc ∧
    (s.modCtxAt k f).version = s.version ∧ (s.modCtxAt k f).walks = s.walks ∧ (s.modCtxAt k f).objects = s.objects ∧
    (s.modCtxAt k f).frames = s.frames ∧ (s.modCtxAt k f).clockHand = s.clockHand ∧ (s.modCtxAt k f).nextNode = s.nextNode ∧
    (s.modCtxAt k f).shoots = s.shoots ∧ (s.modCtxAt k f).prefs = s.prefs ∧ (s.modCtxAt k f).services = s.services ∧
    (s.modCtxAt k f).writes = s.writes ∧ (s.modCtxAt k f).updates = s.updates ∧ (s.modCtxAt k f).notes = s.notes ∧
    (s.modCtxAt k f).reductions = s.reductions ∧ (s.modCtxAt k f).worlds = s.worlds ∧ (s.modCtxAt k f).merge = s.merge ∧
    (s.modCtxAt k f).renewals = s.renewals ∧ (s.modCtxAt k f).bulks = s.bulks ∧ (s.modCtxAt k f).jobs = s.jobs ∧
    (s.modCtxAt k f).links = s.links ∧ (s.modCtxAt k f).placements = s.placements ∧ (s.modCtxAt k f).tenants = s.tenants ∧
    (s.modCtxAt k f).launches = s.launches ∧ (s.modCtxAt k f).queues = s.queues ∧ (s.modCtxAt k f).images = s.images ∧
    (s.modCtxAt k f).armed = s.armed ∧ (s.modCtxAt k f).reserved = s.reserved ∧ (s.modCtxAt k f).passed = s.passed ∧
    (s.modCtxAt k f).evicting = s.evicting ∧ (s.modCtxAt k f).deadDies = s.deadDies ∧ (s.modCtxAt k f).stopped = s.stopped ∧
    (s.modCtxAt k f).clocksStopped = s.clocksStopped ∧ (s.modCtxAt k f).registers = s.registers ∧ (s.modCtxAt k f).bootstat = s.bootstat ∧
    (s.modCtxAt k f).measures = s.measures ∧ (s.modCtxAt k f).temps = s.temps ∧ (s.modCtxAt k f).sent = s.sent ∧
    (s.modCtxAt k f).lastTenant = s.lastTenant ∧ (s.modCtxAt k f).pf0 = s.pf0 ∧ (s.modCtxAt k f).health = s.health ∧
    (s.modCtxAt k f).healthCnt = s.healthCnt ∧ (s.modCtxAt k f).event = s.event ∧ (s.modCtxAt k f).inputs = s.inputs ∧
    (s.modCtxAt k f).nextId = s.nextId ∧ (s.modCtxAt k f).tick = s.tick := by
  and_intros <;> rfl

@[simp] theorem State.mapCtxs_fields (s : State) (f : Ctx → Ctx) :
    (s.mapCtxs f).power = s.power ∧ (s.mapCtxs f).tnow = s.tnow ∧ (s.mapCtxs f).lt = s.lt ∧ (s.mapCtxs f).tstep = s.tstep ∧
    (s.mapCtxs f).lastTick = s.lastTick ∧ (s.mapCtxs f).g = s.g ∧ (s.mapCtxs f).scratch = s.scratch ∧ (s.mapCtxs f).lineMeta = s.lineMeta ∧
    (s.mapCtxs f).tiles = s.tiles ∧ (s.mapCtxs f).released = s.released ∧ (s.mapCtxs f).imem = s.imem ∧ (s.mapCtxs f).hbm = s.hbm ∧
    (s.mapCtxs f).hbmTags = s.hbmTags ∧ (s.mapCtxs f).hbmPoison = s.hbmPoison ∧ (s.mapCtxs f).frameTs = s.frameTs ∧
    (s.mapCtxs f).pool = s.pool ∧ (s.mapCtxs f).poolLines = s.poolLines ∧ (s.mapCtxs f).ht = s.ht ∧ (s.mapCtxs f).homeAged = s.homeAged ∧
    (s.mapCtxs f).homeOld = s.homeOld ∧ (s.mapCtxs f).partAged = s.partAged ∧ (s.mapCtxs f).pageTokens = s.pageTokens ∧
    (s.mapCtxs f).homeLeases = s.homeLeases ∧ (s.mapCtxs f).leases = s.leases ∧ (s.mapCtxs f).cxl = s.cxl ∧ (s.mapCtxs f).host = s.host ∧
    (s.mapCtxs f).clusters = s.clusters ∧ (s.mapCtxs f).rdc = s.rdc ∧ (s.mapCtxs f).version = s.version ∧ (s.mapCtxs f).walks = s.walks ∧
    (s.mapCtxs f).objects = s.objects ∧ (s.mapCtxs f).frames = s.frames ∧ (s.mapCtxs f).clockHand = s.clockHand ∧
    (s.mapCtxs f).nextNode = s.nextNode ∧ (s.mapCtxs f).shoots = s.shoots ∧ (s.mapCtxs f).prefs = s.prefs ∧
    (s.mapCtxs f).services = s.services ∧ (s.mapCtxs f).writes = s.writes ∧ (s.mapCtxs f).updates = s.updates ∧
    (s.mapCtxs f).notes = s.notes ∧ (s.mapCtxs f).reductions = s.reductions ∧ (s.mapCtxs f).worlds = s.worlds ∧
    (s.mapCtxs f).merge = s.merge ∧ (s.mapCtxs f).renewals = s.renewals ∧ (s.mapCtxs f).bulks = s.bulks ∧ (s.mapCtxs f).jobs = s.jobs ∧
    (s.mapCtxs f).links = s.links ∧ (s.mapCtxs f).placements = s.placements ∧ (s.mapCtxs f).tenants = s.tenants ∧
    (s.mapCtxs f).launches = s.launches ∧ (s.mapCtxs f).queues = s.queues ∧ (s.mapCtxs f).images = s.images ∧
    (s.mapCtxs f).armed = s.armed ∧ (s.mapCtxs f).reserved = s.reserved ∧ (s.mapCtxs f).passed = s.passed ∧
    (s.mapCtxs f).evicting = s.evicting ∧ (s.mapCtxs f).deadDies = s.deadDies ∧ (s.mapCtxs f).stopped = s.stopped ∧
    (s.mapCtxs f).clocksStopped = s.clocksStopped ∧ (s.mapCtxs f).registers = s.registers ∧ (s.mapCtxs f).bootstat = s.bootstat ∧
    (s.mapCtxs f).measures = s.measures ∧ (s.mapCtxs f).temps = s.temps ∧ (s.mapCtxs f).sent = s.sent ∧
    (s.mapCtxs f).lastTenant = s.lastTenant ∧ (s.mapCtxs f).pf0 = s.pf0 ∧ (s.mapCtxs f).health = s.health ∧
    (s.mapCtxs f).healthCnt = s.healthCnt ∧ (s.mapCtxs f).event = s.event ∧ (s.mapCtxs f).inputs = s.inputs ∧
    (s.mapCtxs f).nextId = s.nextId ∧ (s.mapCtxs f).tick = s.tick := by
  and_intros <;> rfl

@[simp] theorem State.modTenant_fields (s : State) (t : BitVec 4) (f : Tenant → Tenant) :
    (s.modTenant t f).power = s.power ∧ (s.modTenant t f).tnow = s.tnow ∧ (s.modTenant t f).lt = s.lt ∧ (s.modTenant t f).tstep = s.tstep ∧
    (s.modTenant t f).lastTick = s.lastTick ∧ (s.modTenant t f).g = s.g ∧ (s.modTenant t f).cr = s.cr ∧
    (s.modTenant t f).others = s.others ∧ (s.modTenant t f).scratch = s.scratch ∧ (s.modTenant t f).lineMeta = s.lineMeta ∧
    (s.modTenant t f).tiles = s.tiles ∧ (s.modTenant t f).released = s.released ∧ (s.modTenant t f).imem = s.imem ∧
    (s.modTenant t f).hbm = s.hbm ∧ (s.modTenant t f).hbmTags = s.hbmTags ∧ (s.modTenant t f).hbmPoison = s.hbmPoison ∧
    (s.modTenant t f).frameTs = s.frameTs ∧ (s.modTenant t f).pool = s.pool ∧ (s.modTenant t f).poolLines = s.poolLines ∧
    (s.modTenant t f).ht = s.ht ∧ (s.modTenant t f).homeAged = s.homeAged ∧ (s.modTenant t f).homeOld = s.homeOld ∧
    (s.modTenant t f).partAged = s.partAged ∧ (s.modTenant t f).pageTokens = s.pageTokens ∧ (s.modTenant t f).homeLeases = s.homeLeases ∧
    (s.modTenant t f).leases = s.leases ∧ (s.modTenant t f).cxl = s.cxl ∧ (s.modTenant t f).host = s.host ∧
    (s.modTenant t f).clusters = s.clusters ∧ (s.modTenant t f).rdc = s.rdc ∧ (s.modTenant t f).version = s.version ∧
    (s.modTenant t f).walks = s.walks ∧ (s.modTenant t f).objects = s.objects ∧ (s.modTenant t f).frames = s.frames ∧
    (s.modTenant t f).clockHand = s.clockHand ∧ (s.modTenant t f).nextNode = s.nextNode ∧ (s.modTenant t f).shoots = s.shoots ∧
    (s.modTenant t f).prefs = s.prefs ∧ (s.modTenant t f).services = s.services ∧ (s.modTenant t f).writes = s.writes ∧
    (s.modTenant t f).updates = s.updates ∧ (s.modTenant t f).notes = s.notes ∧ (s.modTenant t f).reductions = s.reductions ∧
    (s.modTenant t f).worlds = s.worlds ∧ (s.modTenant t f).merge = s.merge ∧ (s.modTenant t f).renewals = s.renewals ∧
    (s.modTenant t f).bulks = s.bulks ∧ (s.modTenant t f).jobs = s.jobs ∧ (s.modTenant t f).links = s.links ∧
    (s.modTenant t f).placements = s.placements ∧ (s.modTenant t f).launches = s.launches ∧ (s.modTenant t f).queues = s.queues ∧
    (s.modTenant t f).images = s.images ∧ (s.modTenant t f).armed = s.armed ∧ (s.modTenant t f).reserved = s.reserved ∧
    (s.modTenant t f).passed = s.passed ∧ (s.modTenant t f).evicting = s.evicting ∧ (s.modTenant t f).deadDies = s.deadDies ∧
    (s.modTenant t f).stopped = s.stopped ∧ (s.modTenant t f).clocksStopped = s.clocksStopped ∧ (s.modTenant t f).registers = s.registers ∧
    (s.modTenant t f).bootstat = s.bootstat ∧ (s.modTenant t f).measures = s.measures ∧ (s.modTenant t f).temps = s.temps ∧
    (s.modTenant t f).sent = s.sent ∧ (s.modTenant t f).lastTenant = s.lastTenant ∧ (s.modTenant t f).pf0 = s.pf0 ∧
    (s.modTenant t f).health = s.health ∧ (s.modTenant t f).healthCnt = s.healthCnt ∧ (s.modTenant t f).event = s.event ∧
    (s.modTenant t f).inputs = s.inputs ∧ (s.modTenant t f).nextId = s.nextId ∧ (s.modTenant t f).tick = s.tick := by
  and_intros <;> rfl

@[simp] theorem State.postRecord_fields (s : State) (t : BitVec 4) (rec : Record) :
    (s.postRecord t rec).power = s.power ∧ (s.postRecord t rec).tnow = s.tnow ∧ (s.postRecord t rec).lt = s.lt ∧
    (s.postRecord t rec).tstep = s.tstep ∧ (s.postRecord t rec).lastTick = s.lastTick ∧ (s.postRecord t rec).g = s.g ∧
    (s.postRecord t rec).cr = s.cr ∧ (s.postRecord t rec).others = s.others ∧ (s.postRecord t rec).scratch = s.scratch ∧
    (s.postRecord t rec).lineMeta = s.lineMeta ∧ (s.postRecord t rec).tiles = s.tiles ∧ (s.postRecord t rec).released = s.released ∧
    (s.postRecord t rec).imem = s.imem ∧ (s.postRecord t rec).hbm = s.hbm ∧ (s.postRecord t rec).hbmTags = s.hbmTags ∧
    (s.postRecord t rec).hbmPoison = s.hbmPoison ∧ (s.postRecord t rec).frameTs = s.frameTs ∧ (s.postRecord t rec).pool = s.pool ∧
    (s.postRecord t rec).poolLines = s.poolLines ∧ (s.postRecord t rec).ht = s.ht ∧ (s.postRecord t rec).homeAged = s.homeAged ∧
    (s.postRecord t rec).homeOld = s.homeOld ∧ (s.postRecord t rec).partAged = s.partAged ∧
    (s.postRecord t rec).pageTokens = s.pageTokens ∧ (s.postRecord t rec).homeLeases = s.homeLeases ∧
    (s.postRecord t rec).leases = s.leases ∧ (s.postRecord t rec).cxl = s.cxl ∧ (s.postRecord t rec).host = s.host ∧
    (s.postRecord t rec).clusters = s.clusters ∧ (s.postRecord t rec).rdc = s.rdc ∧ (s.postRecord t rec).version = s.version ∧
    (s.postRecord t rec).walks = s.walks ∧ (s.postRecord t rec).objects = s.objects ∧ (s.postRecord t rec).frames = s.frames ∧
    (s.postRecord t rec).clockHand = s.clockHand ∧ (s.postRecord t rec).nextNode = s.nextNode ∧ (s.postRecord t rec).shoots = s.shoots ∧
    (s.postRecord t rec).prefs = s.prefs ∧ (s.postRecord t rec).services = s.services ∧ (s.postRecord t rec).writes = s.writes ∧
    (s.postRecord t rec).updates = s.updates ∧ (s.postRecord t rec).notes = s.notes ∧ (s.postRecord t rec).reductions = s.reductions ∧
    (s.postRecord t rec).worlds = s.worlds ∧ (s.postRecord t rec).merge = s.merge ∧ (s.postRecord t rec).renewals = s.renewals ∧
    (s.postRecord t rec).bulks = s.bulks ∧ (s.postRecord t rec).jobs = s.jobs ∧ (s.postRecord t rec).links = s.links ∧
    (s.postRecord t rec).placements = s.placements ∧ (s.postRecord t rec).launches = s.launches ∧ (s.postRecord t rec).queues = s.queues ∧
    (s.postRecord t rec).images = s.images ∧ (s.postRecord t rec).armed = s.armed ∧ (s.postRecord t rec).reserved = s.reserved ∧
    (s.postRecord t rec).passed = s.passed ∧ (s.postRecord t rec).evicting = s.evicting ∧ (s.postRecord t rec).deadDies = s.deadDies ∧
    (s.postRecord t rec).stopped = s.stopped ∧ (s.postRecord t rec).clocksStopped = s.clocksStopped ∧
    (s.postRecord t rec).registers = s.registers ∧ (s.postRecord t rec).bootstat = s.bootstat ∧
    (s.postRecord t rec).measures = s.measures ∧ (s.postRecord t rec).temps = s.temps ∧ (s.postRecord t rec).sent = s.sent ∧
    (s.postRecord t rec).lastTenant = s.lastTenant ∧ (s.postRecord t rec).pf0 = s.pf0 ∧ (s.postRecord t rec).health = s.health ∧
    (s.postRecord t rec).healthCnt = s.healthCnt ∧ (s.postRecord t rec).event = s.event ∧ (s.postRecord t rec).inputs = s.inputs ∧
    (s.postRecord t rec).nextId = s.nextId ∧ (s.postRecord t rec).tick = s.tick := by
  and_intros <;> rfl

@[simp] theorem State.modLaunch_fields (s : State) (t : BitVec 4) (n : BitVec 32) (f : Launch → Launch) :
    (s.modLaunch t n f).power = s.power ∧ (s.modLaunch t n f).tnow = s.tnow ∧ (s.modLaunch t n f).lt = s.lt ∧
    (s.modLaunch t n f).tstep = s.tstep ∧ (s.modLaunch t n f).lastTick = s.lastTick ∧ (s.modLaunch t n f).g = s.g ∧
    (s.modLaunch t n f).cr = s.cr ∧ (s.modLaunch t n f).others = s.others ∧ (s.modLaunch t n f).scratch = s.scratch ∧
    (s.modLaunch t n f).lineMeta = s.lineMeta ∧ (s.modLaunch t n f).tiles = s.tiles ∧ (s.modLaunch t n f).released = s.released ∧
    (s.modLaunch t n f).imem = s.imem ∧ (s.modLaunch t n f).hbm = s.hbm ∧ (s.modLaunch t n f).hbmTags = s.hbmTags ∧
    (s.modLaunch t n f).hbmPoison = s.hbmPoison ∧ (s.modLaunch t n f).frameTs = s.frameTs ∧ (s.modLaunch t n f).pool = s.pool ∧
    (s.modLaunch t n f).poolLines = s.poolLines ∧ (s.modLaunch t n f).ht = s.ht ∧ (s.modLaunch t n f).homeAged = s.homeAged ∧
    (s.modLaunch t n f).homeOld = s.homeOld ∧ (s.modLaunch t n f).partAged = s.partAged ∧ (s.modLaunch t n f).pageTokens = s.pageTokens ∧
    (s.modLaunch t n f).homeLeases = s.homeLeases ∧ (s.modLaunch t n f).leases = s.leases ∧ (s.modLaunch t n f).cxl = s.cxl ∧
    (s.modLaunch t n f).host = s.host ∧ (s.modLaunch t n f).clusters = s.clusters ∧ (s.modLaunch t n f).rdc = s.rdc ∧
    (s.modLaunch t n f).version = s.version ∧ (s.modLaunch t n f).walks = s.walks ∧ (s.modLaunch t n f).objects = s.objects ∧
    (s.modLaunch t n f).frames = s.frames ∧ (s.modLaunch t n f).clockHand = s.clockHand ∧ (s.modLaunch t n f).nextNode = s.nextNode ∧
    (s.modLaunch t n f).shoots = s.shoots ∧ (s.modLaunch t n f).prefs = s.prefs ∧ (s.modLaunch t n f).services = s.services ∧
    (s.modLaunch t n f).writes = s.writes ∧ (s.modLaunch t n f).updates = s.updates ∧ (s.modLaunch t n f).notes = s.notes ∧
    (s.modLaunch t n f).reductions = s.reductions ∧ (s.modLaunch t n f).worlds = s.worlds ∧ (s.modLaunch t n f).merge = s.merge ∧
    (s.modLaunch t n f).renewals = s.renewals ∧ (s.modLaunch t n f).bulks = s.bulks ∧ (s.modLaunch t n f).jobs = s.jobs ∧
    (s.modLaunch t n f).links = s.links ∧ (s.modLaunch t n f).placements = s.placements ∧ (s.modLaunch t n f).tenants = s.tenants ∧
    (s.modLaunch t n f).queues = s.queues ∧ (s.modLaunch t n f).images = s.images ∧ (s.modLaunch t n f).armed = s.armed ∧
    (s.modLaunch t n f).reserved = s.reserved ∧ (s.modLaunch t n f).passed = s.passed ∧ (s.modLaunch t n f).evicting = s.evicting ∧
    (s.modLaunch t n f).deadDies = s.deadDies ∧ (s.modLaunch t n f).stopped = s.stopped ∧
    (s.modLaunch t n f).clocksStopped = s.clocksStopped ∧ (s.modLaunch t n f).registers = s.registers ∧
    (s.modLaunch t n f).bootstat = s.bootstat ∧ (s.modLaunch t n f).measures = s.measures ∧ (s.modLaunch t n f).temps = s.temps ∧
    (s.modLaunch t n f).sent = s.sent ∧ (s.modLaunch t n f).lastTenant = s.lastTenant ∧ (s.modLaunch t n f).pf0 = s.pf0 ∧
    (s.modLaunch t n f).health = s.health ∧ (s.modLaunch t n f).healthCnt = s.healthCnt ∧ (s.modLaunch t n f).event = s.event ∧
    (s.modLaunch t n f).inputs = s.inputs ∧ (s.modLaunch t n f).nextId = s.nextId ∧ (s.modLaunch t n f).tick = s.tick := by
  and_intros <;> rfl

@[simp] theorem State.logHealth_fields (s : State) (die : Nat) (cls unit_ : BitVec 3) (g loc : Nat) :
    (s.logHealth die cls unit_ g loc).power = s.power ∧ (s.logHealth die cls unit_ g loc).tnow = s.tnow ∧
    (s.logHealth die cls unit_ g loc).lt = s.lt ∧ (s.logHealth die cls unit_ g loc).tstep = s.tstep ∧
    (s.logHealth die cls unit_ g loc).lastTick = s.lastTick ∧ (s.logHealth die cls unit_ g loc).g = s.g ∧
    (s.logHealth die cls unit_ g loc).cr = s.cr ∧ (s.logHealth die cls unit_ g loc).others = s.others ∧
    (s.logHealth die cls unit_ g loc).scratch = s.scratch ∧ (s.logHealth die cls unit_ g loc).lineMeta = s.lineMeta ∧
    (s.logHealth die cls unit_ g loc).tiles = s.tiles ∧ (s.logHealth die cls unit_ g loc).released = s.released ∧
    (s.logHealth die cls unit_ g loc).imem = s.imem ∧ (s.logHealth die cls unit_ g loc).hbm = s.hbm ∧
    (s.logHealth die cls unit_ g loc).hbmTags = s.hbmTags ∧ (s.logHealth die cls unit_ g loc).hbmPoison = s.hbmPoison ∧
    (s.logHealth die cls unit_ g loc).frameTs = s.frameTs ∧ (s.logHealth die cls unit_ g loc).pool = s.pool ∧
    (s.logHealth die cls unit_ g loc).poolLines = s.poolLines ∧ (s.logHealth die cls unit_ g loc).ht = s.ht ∧
    (s.logHealth die cls unit_ g loc).homeAged = s.homeAged ∧ (s.logHealth die cls unit_ g loc).homeOld = s.homeOld ∧
    (s.logHealth die cls unit_ g loc).partAged = s.partAged ∧ (s.logHealth die cls unit_ g loc).pageTokens = s.pageTokens ∧
    (s.logHealth die cls unit_ g loc).homeLeases = s.homeLeases ∧ (s.logHealth die cls unit_ g loc).leases = s.leases ∧
    (s.logHealth die cls unit_ g loc).cxl = s.cxl ∧ (s.logHealth die cls unit_ g loc).host = s.host ∧
    (s.logHealth die cls unit_ g loc).clusters = s.clusters ∧ (s.logHealth die cls unit_ g loc).rdc = s.rdc ∧
    (s.logHealth die cls unit_ g loc).version = s.version ∧ (s.logHealth die cls unit_ g loc).walks = s.walks ∧
    (s.logHealth die cls unit_ g loc).objects = s.objects ∧ (s.logHealth die cls unit_ g loc).frames = s.frames ∧
    (s.logHealth die cls unit_ g loc).clockHand = s.clockHand ∧ (s.logHealth die cls unit_ g loc).nextNode = s.nextNode ∧
    (s.logHealth die cls unit_ g loc).shoots = s.shoots ∧ (s.logHealth die cls unit_ g loc).prefs = s.prefs ∧
    (s.logHealth die cls unit_ g loc).services = s.services ∧ (s.logHealth die cls unit_ g loc).writes = s.writes ∧
    (s.logHealth die cls unit_ g loc).updates = s.updates ∧ (s.logHealth die cls unit_ g loc).notes = s.notes ∧
    (s.logHealth die cls unit_ g loc).reductions = s.reductions ∧ (s.logHealth die cls unit_ g loc).worlds = s.worlds ∧
    (s.logHealth die cls unit_ g loc).merge = s.merge ∧ (s.logHealth die cls unit_ g loc).renewals = s.renewals ∧
    (s.logHealth die cls unit_ g loc).bulks = s.bulks ∧ (s.logHealth die cls unit_ g loc).jobs = s.jobs ∧
    (s.logHealth die cls unit_ g loc).links = s.links ∧ (s.logHealth die cls unit_ g loc).placements = s.placements ∧
    (s.logHealth die cls unit_ g loc).tenants = s.tenants ∧ (s.logHealth die cls unit_ g loc).launches = s.launches ∧
    (s.logHealth die cls unit_ g loc).queues = s.queues ∧ (s.logHealth die cls unit_ g loc).images = s.images ∧
    (s.logHealth die cls unit_ g loc).armed = s.armed ∧ (s.logHealth die cls unit_ g loc).reserved = s.reserved ∧
    (s.logHealth die cls unit_ g loc).passed = s.passed ∧ (s.logHealth die cls unit_ g loc).evicting = s.evicting ∧
    (s.logHealth die cls unit_ g loc).deadDies = s.deadDies ∧ (s.logHealth die cls unit_ g loc).stopped = s.stopped ∧
    (s.logHealth die cls unit_ g loc).clocksStopped = s.clocksStopped ∧ (s.logHealth die cls unit_ g loc).registers = s.registers ∧
    (s.logHealth die cls unit_ g loc).bootstat = s.bootstat ∧ (s.logHealth die cls unit_ g loc).measures = s.measures ∧
    (s.logHealth die cls unit_ g loc).temps = s.temps ∧ (s.logHealth die cls unit_ g loc).sent = s.sent ∧
    (s.logHealth die cls unit_ g loc).lastTenant = s.lastTenant ∧ (s.logHealth die cls unit_ g loc).pf0 = s.pf0 ∧
    (s.logHealth die cls unit_ g loc).event = s.event ∧ (s.logHealth die cls unit_ g loc).inputs = s.inputs ∧
    (s.logHealth die cls unit_ g loc).nextId = s.nextId ∧ (s.logHealth die cls unit_ g loc).tick = s.tick := by
  and_intros <;> rfl

@[simp] theorem State.modLinks_fields (s : State) (f : Links → Links) :
    (s.modLinks f).power = s.power ∧ (s.modLinks f).tnow = s.tnow ∧ (s.modLinks f).lt = s.lt ∧ (s.modLinks f).tstep = s.tstep ∧
    (s.modLinks f).lastTick = s.lastTick ∧ (s.modLinks f).g = s.g ∧ (s.modLinks f).cr = s.cr ∧ (s.modLinks f).others = s.others ∧
    (s.modLinks f).scratch = s.scratch ∧ (s.modLinks f).lineMeta = s.lineMeta ∧ (s.modLinks f).tiles = s.tiles ∧
    (s.modLinks f).released = s.released ∧ (s.modLinks f).imem = s.imem ∧ (s.modLinks f).hbm = s.hbm ∧ (s.modLinks f).hbmTags = s.hbmTags ∧
    (s.modLinks f).hbmPoison = s.hbmPoison ∧ (s.modLinks f).frameTs = s.frameTs ∧ (s.modLinks f).pool = s.pool ∧
    (s.modLinks f).poolLines = s.poolLines ∧ (s.modLinks f).ht = s.ht ∧ (s.modLinks f).homeAged = s.homeAged ∧
    (s.modLinks f).homeOld = s.homeOld ∧ (s.modLinks f).partAged = s.partAged ∧ (s.modLinks f).pageTokens = s.pageTokens ∧
    (s.modLinks f).homeLeases = s.homeLeases ∧ (s.modLinks f).leases = s.leases ∧ (s.modLinks f).cxl = s.cxl ∧
    (s.modLinks f).host = s.host ∧ (s.modLinks f).clusters = s.clusters ∧ (s.modLinks f).rdc = s.rdc ∧ (s.modLinks f).version = s.version ∧
    (s.modLinks f).walks = s.walks ∧ (s.modLinks f).objects = s.objects ∧ (s.modLinks f).frames = s.frames ∧
    (s.modLinks f).clockHand = s.clockHand ∧ (s.modLinks f).nextNode = s.nextNode ∧ (s.modLinks f).shoots = s.shoots ∧
    (s.modLinks f).prefs = s.prefs ∧ (s.modLinks f).services = s.services ∧ (s.modLinks f).writes = s.writes ∧
    (s.modLinks f).updates = s.updates ∧ (s.modLinks f).notes = s.notes ∧ (s.modLinks f).reductions = s.reductions ∧
    (s.modLinks f).worlds = s.worlds ∧ (s.modLinks f).merge = s.merge ∧ (s.modLinks f).renewals = s.renewals ∧
    (s.modLinks f).bulks = s.bulks ∧ (s.modLinks f).jobs = s.jobs ∧ (s.modLinks f).placements = s.placements ∧
    (s.modLinks f).tenants = s.tenants ∧ (s.modLinks f).launches = s.launches ∧ (s.modLinks f).queues = s.queues ∧
    (s.modLinks f).images = s.images ∧ (s.modLinks f).armed = s.armed ∧ (s.modLinks f).reserved = s.reserved ∧
    (s.modLinks f).passed = s.passed ∧ (s.modLinks f).evicting = s.evicting ∧ (s.modLinks f).deadDies = s.deadDies ∧
    (s.modLinks f).stopped = s.stopped ∧ (s.modLinks f).clocksStopped = s.clocksStopped ∧ (s.modLinks f).registers = s.registers ∧
    (s.modLinks f).bootstat = s.bootstat ∧ (s.modLinks f).measures = s.measures ∧ (s.modLinks f).temps = s.temps ∧
    (s.modLinks f).sent = s.sent ∧ (s.modLinks f).lastTenant = s.lastTenant ∧ (s.modLinks f).pf0 = s.pf0 ∧
    (s.modLinks f).health = s.health ∧ (s.modLinks f).healthCnt = s.healthCnt ∧ (s.modLinks f).event = s.event ∧
    (s.modLinks f).inputs = s.inputs ∧ (s.modLinks f).nextId = s.nextId ∧ (s.modLinks f).tick = s.tick := by
  and_intros <;> rfl

@[simp] theorem State.modPort_fields (s : State) (p : Nat) (f : Port → Port) :
    (s.modPort p f).power = s.power ∧ (s.modPort p f).tnow = s.tnow ∧ (s.modPort p f).lt = s.lt ∧ (s.modPort p f).tstep = s.tstep ∧
    (s.modPort p f).lastTick = s.lastTick ∧ (s.modPort p f).g = s.g ∧ (s.modPort p f).cr = s.cr ∧ (s.modPort p f).others = s.others ∧
    (s.modPort p f).scratch = s.scratch ∧ (s.modPort p f).lineMeta = s.lineMeta ∧ (s.modPort p f).tiles = s.tiles ∧
    (s.modPort p f).released = s.released ∧ (s.modPort p f).imem = s.imem ∧ (s.modPort p f).hbm = s.hbm ∧
    (s.modPort p f).hbmTags = s.hbmTags ∧ (s.modPort p f).hbmPoison = s.hbmPoison ∧ (s.modPort p f).frameTs = s.frameTs ∧
    (s.modPort p f).pool = s.pool ∧ (s.modPort p f).poolLines = s.poolLines ∧ (s.modPort p f).ht = s.ht ∧
    (s.modPort p f).homeAged = s.homeAged ∧ (s.modPort p f).homeOld = s.homeOld ∧ (s.modPort p f).partAged = s.partAged ∧
    (s.modPort p f).pageTokens = s.pageTokens ∧ (s.modPort p f).homeLeases = s.homeLeases ∧ (s.modPort p f).leases = s.leases ∧
    (s.modPort p f).cxl = s.cxl ∧ (s.modPort p f).host = s.host ∧ (s.modPort p f).clusters = s.clusters ∧ (s.modPort p f).rdc = s.rdc ∧
    (s.modPort p f).version = s.version ∧ (s.modPort p f).walks = s.walks ∧ (s.modPort p f).objects = s.objects ∧
    (s.modPort p f).frames = s.frames ∧ (s.modPort p f).clockHand = s.clockHand ∧ (s.modPort p f).nextNode = s.nextNode ∧
    (s.modPort p f).shoots = s.shoots ∧ (s.modPort p f).prefs = s.prefs ∧ (s.modPort p f).services = s.services ∧
    (s.modPort p f).writes = s.writes ∧ (s.modPort p f).updates = s.updates ∧ (s.modPort p f).notes = s.notes ∧
    (s.modPort p f).reductions = s.reductions ∧ (s.modPort p f).worlds = s.worlds ∧ (s.modPort p f).merge = s.merge ∧
    (s.modPort p f).renewals = s.renewals ∧ (s.modPort p f).bulks = s.bulks ∧ (s.modPort p f).jobs = s.jobs ∧
    (s.modPort p f).placements = s.placements ∧ (s.modPort p f).tenants = s.tenants ∧ (s.modPort p f).launches = s.launches ∧
    (s.modPort p f).queues = s.queues ∧ (s.modPort p f).images = s.images ∧ (s.modPort p f).armed = s.armed ∧
    (s.modPort p f).reserved = s.reserved ∧ (s.modPort p f).passed = s.passed ∧ (s.modPort p f).evicting = s.evicting ∧
    (s.modPort p f).deadDies = s.deadDies ∧ (s.modPort p f).stopped = s.stopped ∧ (s.modPort p f).clocksStopped = s.clocksStopped ∧
    (s.modPort p f).registers = s.registers ∧ (s.modPort p f).bootstat = s.bootstat ∧ (s.modPort p f).measures = s.measures ∧
    (s.modPort p f).temps = s.temps ∧ (s.modPort p f).sent = s.sent ∧ (s.modPort p f).lastTenant = s.lastTenant ∧
    (s.modPort p f).pf0 = s.pf0 ∧ (s.modPort p f).health = s.health ∧ (s.modPort p f).healthCnt = s.healthCnt ∧
    (s.modPort p f).event = s.event ∧ (s.modPort p f).inputs = s.inputs ∧ (s.modPort p f).nextId = s.nextId ∧
    (s.modPort p f).tick = s.tick := by
  and_intros <;> rfl

@[simp] theorem State.modCluster_fields (s : State) (n : Nat) (f : Cluster → Cluster) :
    (s.modCluster n f).power = s.power ∧ (s.modCluster n f).tnow = s.tnow ∧ (s.modCluster n f).lt = s.lt ∧
    (s.modCluster n f).tstep = s.tstep ∧ (s.modCluster n f).lastTick = s.lastTick ∧ (s.modCluster n f).g = s.g ∧
    (s.modCluster n f).cr = s.cr ∧ (s.modCluster n f).others = s.others ∧ (s.modCluster n f).scratch = s.scratch ∧
    (s.modCluster n f).lineMeta = s.lineMeta ∧ (s.modCluster n f).tiles = s.tiles ∧ (s.modCluster n f).released = s.released ∧
    (s.modCluster n f).imem = s.imem ∧ (s.modCluster n f).hbm = s.hbm ∧ (s.modCluster n f).hbmTags = s.hbmTags ∧
    (s.modCluster n f).hbmPoison = s.hbmPoison ∧ (s.modCluster n f).frameTs = s.frameTs ∧ (s.modCluster n f).pool = s.pool ∧
    (s.modCluster n f).poolLines = s.poolLines ∧ (s.modCluster n f).ht = s.ht ∧ (s.modCluster n f).homeAged = s.homeAged ∧
    (s.modCluster n f).homeOld = s.homeOld ∧ (s.modCluster n f).partAged = s.partAged ∧ (s.modCluster n f).pageTokens = s.pageTokens ∧
    (s.modCluster n f).homeLeases = s.homeLeases ∧ (s.modCluster n f).leases = s.leases ∧ (s.modCluster n f).cxl = s.cxl ∧
    (s.modCluster n f).host = s.host ∧ (s.modCluster n f).rdc = s.rdc ∧ (s.modCluster n f).version = s.version ∧
    (s.modCluster n f).walks = s.walks ∧ (s.modCluster n f).objects = s.objects ∧ (s.modCluster n f).frames = s.frames ∧
    (s.modCluster n f).clockHand = s.clockHand ∧ (s.modCluster n f).nextNode = s.nextNode ∧ (s.modCluster n f).shoots = s.shoots ∧
    (s.modCluster n f).prefs = s.prefs ∧ (s.modCluster n f).services = s.services ∧ (s.modCluster n f).writes = s.writes ∧
    (s.modCluster n f).updates = s.updates ∧ (s.modCluster n f).notes = s.notes ∧ (s.modCluster n f).reductions = s.reductions ∧
    (s.modCluster n f).worlds = s.worlds ∧ (s.modCluster n f).merge = s.merge ∧ (s.modCluster n f).renewals = s.renewals ∧
    (s.modCluster n f).bulks = s.bulks ∧ (s.modCluster n f).jobs = s.jobs ∧ (s.modCluster n f).links = s.links ∧
    (s.modCluster n f).placements = s.placements ∧ (s.modCluster n f).tenants = s.tenants ∧ (s.modCluster n f).launches = s.launches ∧
    (s.modCluster n f).queues = s.queues ∧ (s.modCluster n f).images = s.images ∧ (s.modCluster n f).armed = s.armed ∧
    (s.modCluster n f).reserved = s.reserved ∧ (s.modCluster n f).passed = s.passed ∧ (s.modCluster n f).evicting = s.evicting ∧
    (s.modCluster n f).deadDies = s.deadDies ∧ (s.modCluster n f).stopped = s.stopped ∧
    (s.modCluster n f).clocksStopped = s.clocksStopped ∧ (s.modCluster n f).registers = s.registers ∧
    (s.modCluster n f).bootstat = s.bootstat ∧ (s.modCluster n f).measures = s.measures ∧ (s.modCluster n f).temps = s.temps ∧
    (s.modCluster n f).sent = s.sent ∧ (s.modCluster n f).lastTenant = s.lastTenant ∧ (s.modCluster n f).pf0 = s.pf0 ∧
    (s.modCluster n f).health = s.health ∧ (s.modCluster n f).healthCnt = s.healthCnt ∧ (s.modCluster n f).event = s.event ∧
    (s.modCluster n f).inputs = s.inputs ∧ (s.modCluster n f).nextId = s.nextId ∧ (s.modCluster n f).tick = s.tick := by
  and_intros <;> rfl

@[simp] theorem State.modMerge_fields (s : State) (n : Nat) (f : MergeUnit → MergeUnit) :
    (s.modMerge n f).power = s.power ∧ (s.modMerge n f).tnow = s.tnow ∧ (s.modMerge n f).lt = s.lt ∧ (s.modMerge n f).tstep = s.tstep ∧
    (s.modMerge n f).lastTick = s.lastTick ∧ (s.modMerge n f).g = s.g ∧ (s.modMerge n f).cr = s.cr ∧ (s.modMerge n f).others = s.others ∧
    (s.modMerge n f).scratch = s.scratch ∧ (s.modMerge n f).lineMeta = s.lineMeta ∧ (s.modMerge n f).tiles = s.tiles ∧
    (s.modMerge n f).released = s.released ∧ (s.modMerge n f).imem = s.imem ∧ (s.modMerge n f).hbm = s.hbm ∧
    (s.modMerge n f).hbmTags = s.hbmTags ∧ (s.modMerge n f).hbmPoison = s.hbmPoison ∧ (s.modMerge n f).frameTs = s.frameTs ∧
    (s.modMerge n f).pool = s.pool ∧ (s.modMerge n f).poolLines = s.poolLines ∧ (s.modMerge n f).ht = s.ht ∧
    (s.modMerge n f).homeAged = s.homeAged ∧ (s.modMerge n f).homeOld = s.homeOld ∧ (s.modMerge n f).partAged = s.partAged ∧
    (s.modMerge n f).pageTokens = s.pageTokens ∧ (s.modMerge n f).homeLeases = s.homeLeases ∧ (s.modMerge n f).leases = s.leases ∧
    (s.modMerge n f).cxl = s.cxl ∧ (s.modMerge n f).host = s.host ∧ (s.modMerge n f).clusters = s.clusters ∧ (s.modMerge n f).rdc = s.rdc ∧
    (s.modMerge n f).version = s.version ∧ (s.modMerge n f).walks = s.walks ∧ (s.modMerge n f).objects = s.objects ∧
    (s.modMerge n f).frames = s.frames ∧ (s.modMerge n f).clockHand = s.clockHand ∧ (s.modMerge n f).nextNode = s.nextNode ∧
    (s.modMerge n f).shoots = s.shoots ∧ (s.modMerge n f).prefs = s.prefs ∧ (s.modMerge n f).services = s.services ∧
    (s.modMerge n f).writes = s.writes ∧ (s.modMerge n f).updates = s.updates ∧ (s.modMerge n f).notes = s.notes ∧
    (s.modMerge n f).reductions = s.reductions ∧ (s.modMerge n f).worlds = s.worlds ∧ (s.modMerge n f).renewals = s.renewals ∧
    (s.modMerge n f).bulks = s.bulks ∧ (s.modMerge n f).jobs = s.jobs ∧ (s.modMerge n f).links = s.links ∧
    (s.modMerge n f).placements = s.placements ∧ (s.modMerge n f).tenants = s.tenants ∧ (s.modMerge n f).launches = s.launches ∧
    (s.modMerge n f).queues = s.queues ∧ (s.modMerge n f).images = s.images ∧ (s.modMerge n f).armed = s.armed ∧
    (s.modMerge n f).reserved = s.reserved ∧ (s.modMerge n f).passed = s.passed ∧ (s.modMerge n f).evicting = s.evicting ∧
    (s.modMerge n f).deadDies = s.deadDies ∧ (s.modMerge n f).stopped = s.stopped ∧ (s.modMerge n f).clocksStopped = s.clocksStopped ∧
    (s.modMerge n f).registers = s.registers ∧ (s.modMerge n f).bootstat = s.bootstat ∧ (s.modMerge n f).measures = s.measures ∧
    (s.modMerge n f).temps = s.temps ∧ (s.modMerge n f).sent = s.sent ∧ (s.modMerge n f).lastTenant = s.lastTenant ∧
    (s.modMerge n f).pf0 = s.pf0 ∧ (s.modMerge n f).health = s.health ∧ (s.modMerge n f).healthCnt = s.healthCnt ∧
    (s.modMerge n f).event = s.event ∧ (s.modMerge n f).inputs = s.inputs ∧ (s.modMerge n f).nextId = s.nextId ∧
    (s.modMerge n f).tick = s.tick := by
  and_intros <;> rfl

@[simp] theorem State.setMeta_fields (s : State) (key : Nat) (m : LineMeta) :
    (s.setMeta key m).power = s.power ∧ (s.setMeta key m).tnow = s.tnow ∧ (s.setMeta key m).lt = s.lt ∧ (s.setMeta key m).tstep = s.tstep ∧
    (s.setMeta key m).lastTick = s.lastTick ∧ (s.setMeta key m).g = s.g ∧ (s.setMeta key m).cr = s.cr ∧
    (s.setMeta key m).others = s.others ∧ (s.setMeta key m).scratch = s.scratch ∧ (s.setMeta key m).tiles = s.tiles ∧
    (s.setMeta key m).released = s.released ∧ (s.setMeta key m).imem = s.imem ∧ (s.setMeta key m).hbm = s.hbm ∧
    (s.setMeta key m).hbmTags = s.hbmTags ∧ (s.setMeta key m).hbmPoison = s.hbmPoison ∧ (s.setMeta key m).frameTs = s.frameTs ∧
    (s.setMeta key m).pool = s.pool ∧ (s.setMeta key m).poolLines = s.poolLines ∧ (s.setMeta key m).ht = s.ht ∧
    (s.setMeta key m).homeAged = s.homeAged ∧ (s.setMeta key m).homeOld = s.homeOld ∧ (s.setMeta key m).partAged = s.partAged ∧
    (s.setMeta key m).pageTokens = s.pageTokens ∧ (s.setMeta key m).homeLeases = s.homeLeases ∧ (s.setMeta key m).leases = s.leases ∧
    (s.setMeta key m).cxl = s.cxl ∧ (s.setMeta key m).host = s.host ∧ (s.setMeta key m).clusters = s.clusters ∧
    (s.setMeta key m).rdc = s.rdc ∧ (s.setMeta key m).version = s.version ∧ (s.setMeta key m).walks = s.walks ∧
    (s.setMeta key m).objects = s.objects ∧ (s.setMeta key m).frames = s.frames ∧ (s.setMeta key m).clockHand = s.clockHand ∧
    (s.setMeta key m).nextNode = s.nextNode ∧ (s.setMeta key m).shoots = s.shoots ∧ (s.setMeta key m).prefs = s.prefs ∧
    (s.setMeta key m).services = s.services ∧ (s.setMeta key m).writes = s.writes ∧ (s.setMeta key m).updates = s.updates ∧
    (s.setMeta key m).notes = s.notes ∧ (s.setMeta key m).reductions = s.reductions ∧ (s.setMeta key m).worlds = s.worlds ∧
    (s.setMeta key m).merge = s.merge ∧ (s.setMeta key m).renewals = s.renewals ∧ (s.setMeta key m).bulks = s.bulks ∧
    (s.setMeta key m).jobs = s.jobs ∧ (s.setMeta key m).links = s.links ∧ (s.setMeta key m).placements = s.placements ∧
    (s.setMeta key m).tenants = s.tenants ∧ (s.setMeta key m).launches = s.launches ∧ (s.setMeta key m).queues = s.queues ∧
    (s.setMeta key m).images = s.images ∧ (s.setMeta key m).armed = s.armed ∧ (s.setMeta key m).reserved = s.reserved ∧
    (s.setMeta key m).passed = s.passed ∧ (s.setMeta key m).evicting = s.evicting ∧ (s.setMeta key m).deadDies = s.deadDies ∧
    (s.setMeta key m).stopped = s.stopped ∧ (s.setMeta key m).clocksStopped = s.clocksStopped ∧ (s.setMeta key m).registers = s.registers ∧
    (s.setMeta key m).bootstat = s.bootstat ∧ (s.setMeta key m).measures = s.measures ∧ (s.setMeta key m).temps = s.temps ∧
    (s.setMeta key m).sent = s.sent ∧ (s.setMeta key m).lastTenant = s.lastTenant ∧ (s.setMeta key m).pf0 = s.pf0 ∧
    (s.setMeta key m).health = s.health ∧ (s.setMeta key m).healthCnt = s.healthCnt ∧ (s.setMeta key m).event = s.event ∧
    (s.setMeta key m).inputs = s.inputs ∧ (s.setMeta key m).nextId = s.nextId ∧ (s.setMeta key m).tick = s.tick := by
  and_intros <;> rfl

@[simp] theorem State.clearEvent_fields (s : State) :
    (s.clearEvent).power = s.power ∧ (s.clearEvent).tnow = s.tnow ∧ (s.clearEvent).lt = s.lt ∧ (s.clearEvent).tstep = s.tstep ∧
    (s.clearEvent).lastTick = s.lastTick ∧ (s.clearEvent).g = s.g ∧ (s.clearEvent).cr = s.cr ∧ (s.clearEvent).others = s.others ∧
    (s.clearEvent).scratch = s.scratch ∧ (s.clearEvent).lineMeta = s.lineMeta ∧ (s.clearEvent).tiles = s.tiles ∧
    (s.clearEvent).released = s.released ∧ (s.clearEvent).imem = s.imem ∧ (s.clearEvent).hbm = s.hbm ∧ (s.clearEvent).hbmTags = s.hbmTags ∧
    (s.clearEvent).hbmPoison = s.hbmPoison ∧ (s.clearEvent).frameTs = s.frameTs ∧ (s.clearEvent).pool = s.pool ∧
    (s.clearEvent).poolLines = s.poolLines ∧ (s.clearEvent).ht = s.ht ∧ (s.clearEvent).homeAged = s.homeAged ∧
    (s.clearEvent).homeOld = s.homeOld ∧ (s.clearEvent).partAged = s.partAged ∧ (s.clearEvent).pageTokens = s.pageTokens ∧
    (s.clearEvent).homeLeases = s.homeLeases ∧ (s.clearEvent).leases = s.leases ∧ (s.clearEvent).cxl = s.cxl ∧
    (s.clearEvent).host = s.host ∧ (s.clearEvent).clusters = s.clusters ∧ (s.clearEvent).rdc = s.rdc ∧ (s.clearEvent).version = s.version ∧
    (s.clearEvent).walks = s.walks ∧ (s.clearEvent).objects = s.objects ∧ (s.clearEvent).frames = s.frames ∧
    (s.clearEvent).clockHand = s.clockHand ∧ (s.clearEvent).nextNode = s.nextNode ∧ (s.clearEvent).shoots = s.shoots ∧
    (s.clearEvent).prefs = s.prefs ∧ (s.clearEvent).services = s.services ∧ (s.clearEvent).writes = s.writes ∧
    (s.clearEvent).updates = s.updates ∧ (s.clearEvent).notes = s.notes ∧ (s.clearEvent).reductions = s.reductions ∧
    (s.clearEvent).worlds = s.worlds ∧ (s.clearEvent).merge = s.merge ∧ (s.clearEvent).renewals = s.renewals ∧
    (s.clearEvent).bulks = s.bulks ∧ (s.clearEvent).jobs = s.jobs ∧ (s.clearEvent).links = s.links ∧
    (s.clearEvent).placements = s.placements ∧ (s.clearEvent).tenants = s.tenants ∧ (s.clearEvent).launches = s.launches ∧
    (s.clearEvent).queues = s.queues ∧ (s.clearEvent).images = s.images ∧ (s.clearEvent).armed = s.armed ∧
    (s.clearEvent).reserved = s.reserved ∧ (s.clearEvent).passed = s.passed ∧ (s.clearEvent).evicting = s.evicting ∧
    (s.clearEvent).deadDies = s.deadDies ∧ (s.clearEvent).stopped = s.stopped ∧ (s.clearEvent).clocksStopped = s.clocksStopped ∧
    (s.clearEvent).registers = s.registers ∧ (s.clearEvent).bootstat = s.bootstat ∧ (s.clearEvent).measures = s.measures ∧
    (s.clearEvent).temps = s.temps ∧ (s.clearEvent).sent = s.sent ∧ (s.clearEvent).lastTenant = s.lastTenant ∧ (s.clearEvent).pf0 = s.pf0 ∧
    (s.clearEvent).health = s.health ∧ (s.clearEvent).healthCnt = s.healthCnt ∧ (s.clearEvent).inputs = s.inputs ∧
    (s.clearEvent).nextId = s.nextId ∧ (s.clearEvent).tick = s.tick := by
  and_intros <;> rfl

@[simp] theorem State.fresh_fields (s : State) :
    (s.fresh).power = s.power ∧ (s.fresh).tnow = s.tnow ∧ (s.fresh).lt = s.lt ∧ (s.fresh).tstep = s.tstep ∧
    (s.fresh).lastTick = s.lastTick ∧ (s.fresh).g = s.g ∧ (s.fresh).cr = s.cr ∧ (s.fresh).others = s.others ∧
    (s.fresh).scratch = s.scratch ∧ (s.fresh).lineMeta = s.lineMeta ∧ (s.fresh).tiles = s.tiles ∧ (s.fresh).released = s.released ∧
    (s.fresh).imem = s.imem ∧ (s.fresh).hbm = s.hbm ∧ (s.fresh).hbmTags = s.hbmTags ∧ (s.fresh).hbmPoison = s.hbmPoison ∧
    (s.fresh).frameTs = s.frameTs ∧ (s.fresh).pool = s.pool ∧ (s.fresh).poolLines = s.poolLines ∧ (s.fresh).ht = s.ht ∧
    (s.fresh).homeAged = s.homeAged ∧ (s.fresh).homeOld = s.homeOld ∧ (s.fresh).partAged = s.partAged ∧
    (s.fresh).pageTokens = s.pageTokens ∧ (s.fresh).homeLeases = s.homeLeases ∧ (s.fresh).leases = s.leases ∧ (s.fresh).cxl = s.cxl ∧
    (s.fresh).host = s.host ∧ (s.fresh).clusters = s.clusters ∧ (s.fresh).rdc = s.rdc ∧ (s.fresh).version = s.version ∧
    (s.fresh).walks = s.walks ∧ (s.fresh).objects = s.objects ∧ (s.fresh).frames = s.frames ∧ (s.fresh).clockHand = s.clockHand ∧
    (s.fresh).nextNode = s.nextNode ∧ (s.fresh).shoots = s.shoots ∧ (s.fresh).prefs = s.prefs ∧ (s.fresh).services = s.services ∧
    (s.fresh).writes = s.writes ∧ (s.fresh).updates = s.updates ∧ (s.fresh).notes = s.notes ∧ (s.fresh).reductions = s.reductions ∧
    (s.fresh).worlds = s.worlds ∧ (s.fresh).merge = s.merge ∧ (s.fresh).renewals = s.renewals ∧ (s.fresh).bulks = s.bulks ∧
    (s.fresh).jobs = s.jobs ∧ (s.fresh).links = s.links ∧ (s.fresh).placements = s.placements ∧ (s.fresh).tenants = s.tenants ∧
    (s.fresh).launches = s.launches ∧ (s.fresh).queues = s.queues ∧ (s.fresh).images = s.images ∧ (s.fresh).armed = s.armed ∧
    (s.fresh).reserved = s.reserved ∧ (s.fresh).passed = s.passed ∧ (s.fresh).evicting = s.evicting ∧ (s.fresh).deadDies = s.deadDies ∧
    (s.fresh).stopped = s.stopped ∧ (s.fresh).clocksStopped = s.clocksStopped ∧ (s.fresh).registers = s.registers ∧
    (s.fresh).bootstat = s.bootstat ∧ (s.fresh).measures = s.measures ∧ (s.fresh).temps = s.temps ∧ (s.fresh).sent = s.sent ∧
    (s.fresh).lastTenant = s.lastTenant ∧ (s.fresh).pf0 = s.pf0 ∧ (s.fresh).health = s.health ∧ (s.fresh).healthCnt = s.healthCnt ∧
    (s.fresh).event = s.event ∧ (s.fresh).inputs = s.inputs ∧ (s.fresh).tick = s.tick := by
  and_intros <;> rfl

@[simp] theorem State.withCur_fields (s : State) (k : BitVec 2) :
    (s.withCur k).power = s.power ∧ (s.withCur k).tnow = s.tnow ∧ (s.withCur k).lt = s.lt ∧ (s.withCur k).tstep = s.tstep ∧
    (s.withCur k).lastTick = s.lastTick ∧ (s.withCur k).g = s.g ∧ (s.withCur k).others = s.others ∧ (s.withCur k).scratch = s.scratch ∧
    (s.withCur k).lineMeta = s.lineMeta ∧ (s.withCur k).tiles = s.tiles ∧ (s.withCur k).released = s.released ∧
    (s.withCur k).imem = s.imem ∧ (s.withCur k).hbm = s.hbm ∧ (s.withCur k).hbmTags = s.hbmTags ∧ (s.withCur k).hbmPoison = s.hbmPoison ∧
    (s.withCur k).frameTs = s.frameTs ∧ (s.withCur k).pool = s.pool ∧ (s.withCur k).poolLines = s.poolLines ∧ (s.withCur k).ht = s.ht ∧
    (s.withCur k).homeAged = s.homeAged ∧ (s.withCur k).homeOld = s.homeOld ∧ (s.withCur k).partAged = s.partAged ∧
    (s.withCur k).pageTokens = s.pageTokens ∧ (s.withCur k).homeLeases = s.homeLeases ∧ (s.withCur k).leases = s.leases ∧
    (s.withCur k).cxl = s.cxl ∧ (s.withCur k).host = s.host ∧ (s.withCur k).clusters = s.clusters ∧ (s.withCur k).rdc = s.rdc ∧
    (s.withCur k).version = s.version ∧ (s.withCur k).walks = s.walks ∧ (s.withCur k).objects = s.objects ∧
    (s.withCur k).frames = s.frames ∧ (s.withCur k).clockHand = s.clockHand ∧ (s.withCur k).nextNode = s.nextNode ∧
    (s.withCur k).shoots = s.shoots ∧ (s.withCur k).prefs = s.prefs ∧ (s.withCur k).services = s.services ∧
    (s.withCur k).writes = s.writes ∧ (s.withCur k).updates = s.updates ∧ (s.withCur k).notes = s.notes ∧
    (s.withCur k).reductions = s.reductions ∧ (s.withCur k).worlds = s.worlds ∧ (s.withCur k).merge = s.merge ∧
    (s.withCur k).renewals = s.renewals ∧ (s.withCur k).bulks = s.bulks ∧ (s.withCur k).jobs = s.jobs ∧ (s.withCur k).links = s.links ∧
    (s.withCur k).placements = s.placements ∧ (s.withCur k).tenants = s.tenants ∧ (s.withCur k).launches = s.launches ∧
    (s.withCur k).queues = s.queues ∧ (s.withCur k).images = s.images ∧ (s.withCur k).armed = s.armed ∧
    (s.withCur k).reserved = s.reserved ∧ (s.withCur k).passed = s.passed ∧ (s.withCur k).evicting = s.evicting ∧
    (s.withCur k).deadDies = s.deadDies ∧ (s.withCur k).stopped = s.stopped ∧ (s.withCur k).clocksStopped = s.clocksStopped ∧
    (s.withCur k).registers = s.registers ∧ (s.withCur k).bootstat = s.bootstat ∧ (s.withCur k).measures = s.measures ∧
    (s.withCur k).temps = s.temps ∧ (s.withCur k).sent = s.sent ∧ (s.withCur k).lastTenant = s.lastTenant ∧ (s.withCur k).pf0 = s.pf0 ∧
    (s.withCur k).health = s.health ∧ (s.withCur k).healthCnt = s.healthCnt ∧ (s.withCur k).event = s.event ∧
    (s.withCur k).inputs = s.inputs ∧ (s.withCur k).nextId = s.nextId ∧ (s.withCur k).tick = s.tick := by
  and_intros <;> rfl

-- Updates of a context

@[simp] theorem Ctx.setX_fields (c : Ctx) (r : BitVec 6) (v : Word) :
    (c.setX r v).state = c.state ∧ (c.setX r v).pc = c.pc ∧ (c.setX r v).c = c.c ∧ (c.setX r v).p = c.p ∧ (c.setX r v).k = c.k ∧
    (c.setX r v).s = c.s ∧ (c.setX r v).d = c.d ∧ (c.setX r v).sys = c.sys ∧ (c.setX r v).loops = c.loops ∧ (c.setX r v).prio = c.prio ∧
    (c.setX r v).waits = c.waits ∧ (c.setX r v).due = c.due ∧ (c.setX r v).waitCnt = c.waitCnt ∧ (c.setX r v).mq = c.mq ∧
    (c.setX r v).track = c.track ∧ (c.setX r v).catchAll = c.catchAll ∧ (c.setX r v).extents = c.extents ∧
    (c.setX r v).answers = c.answers ∧ (c.setX r v).pageWait = c.pageWait ∧ (c.setX r v).was = c.was ∧ (c.setX r v).pins = c.pins ∧
    (c.setX r v).drainRel = c.drainRel ∧ (c.setX r v).yielded = c.yielded := by
  unfold Ctx.setX; split <;> and_intros <;> rfl

@[simp] theorem Ctx.emptyX_fields (c : Ctx) (r : BitVec 6) :
    (c.emptyX r).state = c.state ∧ (c.emptyX r).pc = c.pc ∧ (c.emptyX r).c = c.c ∧ (c.emptyX r).p = c.p ∧ (c.emptyX r).k = c.k ∧
    (c.emptyX r).s = c.s ∧ (c.emptyX r).d = c.d ∧ (c.emptyX r).sys = c.sys ∧ (c.emptyX r).loops = c.loops ∧ (c.emptyX r).prio = c.prio ∧
    (c.emptyX r).waits = c.waits ∧ (c.emptyX r).due = c.due ∧ (c.emptyX r).waitCnt = c.waitCnt ∧ (c.emptyX r).mq = c.mq ∧
    (c.emptyX r).track = c.track ∧ (c.emptyX r).catchAll = c.catchAll ∧ (c.emptyX r).extents = c.extents ∧
    (c.emptyX r).answers = c.answers ∧ (c.emptyX r).pageWait = c.pageWait ∧ (c.emptyX r).was = c.was ∧ (c.emptyX r).pins = c.pins ∧
    (c.emptyX r).drainRel = c.drainRel ∧ (c.emptyX r).yielded = c.yielded := by
  unfold Ctx.emptyX; split <;> and_intros <;> rfl

@[simp] theorem Ctx.poisonX_fields (c : Ctx) (r : BitVec 6) :
    (c.poisonX r).state = c.state ∧ (c.poisonX r).pc = c.pc ∧ (c.poisonX r).c = c.c ∧ (c.poisonX r).p = c.p ∧ (c.poisonX r).k = c.k ∧
    (c.poisonX r).s = c.s ∧ (c.poisonX r).d = c.d ∧ (c.poisonX r).sys = c.sys ∧ (c.poisonX r).loops = c.loops ∧
    (c.poisonX r).prio = c.prio ∧ (c.poisonX r).waits = c.waits ∧ (c.poisonX r).due = c.due ∧ (c.poisonX r).waitCnt = c.waitCnt ∧
    (c.poisonX r).mq = c.mq ∧ (c.poisonX r).track = c.track ∧ (c.poisonX r).catchAll = c.catchAll ∧ (c.poisonX r).extents = c.extents ∧
    (c.poisonX r).answers = c.answers ∧ (c.poisonX r).pageWait = c.pageWait ∧ (c.poisonX r).was = c.was ∧ (c.poisonX r).pins = c.pins ∧
    (c.poisonX r).drainRel = c.drainRel ∧ (c.poisonX r).yielded = c.yielded := by
  unfold Ctx.poisonX; split <;> and_intros <;> rfl

@[simp] theorem Ctx.setP_fields (c : Ctx) (r : BitVec 4) (v : Bool) :
    (c.setP r v).state = c.state ∧ (c.setP r v).pc = c.pc ∧ (c.setP r v).x = c.x ∧ (c.setP r v).c = c.c ∧ (c.setP r v).k = c.k ∧
    (c.setP r v).s = c.s ∧ (c.setP r v).d = c.d ∧ (c.setP r v).sys = c.sys ∧ (c.setP r v).loops = c.loops ∧ (c.setP r v).prio = c.prio ∧
    (c.setP r v).waits = c.waits ∧ (c.setP r v).due = c.due ∧ (c.setP r v).waitCnt = c.waitCnt ∧ (c.setP r v).mq = c.mq ∧
    (c.setP r v).track = c.track ∧ (c.setP r v).catchAll = c.catchAll ∧ (c.setP r v).extents = c.extents ∧
    (c.setP r v).answers = c.answers ∧ (c.setP r v).pageWait = c.pageWait ∧ (c.setP r v).was = c.was ∧ (c.setP r v).pins = c.pins ∧
    (c.setP r v).drainRel = c.drainRel ∧ (c.setP r v).yielded = c.yielded := by
  unfold Ctx.setP; split <;> and_intros <;> rfl

@[simp] theorem Ctx.setK_fields (c : Ctx) (r : BitVec 3) (v : MaskReg) :
    (c.setK r v).state = c.state ∧ (c.setK r v).pc = c.pc ∧ (c.setK r v).x = c.x ∧ (c.setK r v).c = c.c ∧ (c.setK r v).p = c.p ∧
    (c.setK r v).s = c.s ∧ (c.setK r v).d = c.d ∧ (c.setK r v).sys = c.sys ∧ (c.setK r v).loops = c.loops ∧ (c.setK r v).prio = c.prio ∧
    (c.setK r v).waits = c.waits ∧ (c.setK r v).due = c.due ∧ (c.setK r v).waitCnt = c.waitCnt ∧ (c.setK r v).mq = c.mq ∧
    (c.setK r v).track = c.track ∧ (c.setK r v).catchAll = c.catchAll ∧ (c.setK r v).extents = c.extents ∧
    (c.setK r v).answers = c.answers ∧ (c.setK r v).pageWait = c.pageWait ∧ (c.setK r v).was = c.was ∧ (c.setK r v).pins = c.pins ∧
    (c.setK r v).drainRel = c.drainRel ∧ (c.setK r v).yielded = c.yielded := by
  unfold Ctx.setK; split <;> and_intros <;> rfl

@[simp] theorem Ctx.setC_fields (c : Ctx) (r : BitVec 5) (v : Cap) :
    (c.setC r v).state = c.state ∧ (c.setC r v).pc = c.pc ∧ (c.setC r v).x = c.x ∧ (c.setC r v).p = c.p ∧ (c.setC r v).k = c.k ∧
    (c.setC r v).s = c.s ∧ (c.setC r v).d = c.d ∧ (c.setC r v).sys = c.sys ∧ (c.setC r v).loops = c.loops ∧ (c.setC r v).prio = c.prio ∧
    (c.setC r v).waits = c.waits ∧ (c.setC r v).due = c.due ∧ (c.setC r v).waitCnt = c.waitCnt ∧ (c.setC r v).mq = c.mq ∧
    (c.setC r v).track = c.track ∧ (c.setC r v).catchAll = c.catchAll ∧ (c.setC r v).extents = c.extents ∧
    (c.setC r v).answers = c.answers ∧ (c.setC r v).pageWait = c.pageWait ∧ (c.setC r v).was = c.was ∧ (c.setC r v).pins = c.pins ∧
    (c.setC r v).drainRel = c.drainRel ∧ (c.setC r v).yielded = c.yielded := by
  unfold Ctx.setC; split <;> and_intros <;> rfl

@[simp] theorem Ctx.emptyC_fields (c : Ctx) (r : BitVec 5) :
    (c.emptyC r).state = c.state ∧ (c.emptyC r).pc = c.pc ∧ (c.emptyC r).x = c.x ∧ (c.emptyC r).p = c.p ∧ (c.emptyC r).k = c.k ∧
    (c.emptyC r).s = c.s ∧ (c.emptyC r).d = c.d ∧ (c.emptyC r).sys = c.sys ∧ (c.emptyC r).loops = c.loops ∧ (c.emptyC r).prio = c.prio ∧
    (c.emptyC r).waits = c.waits ∧ (c.emptyC r).due = c.due ∧ (c.emptyC r).waitCnt = c.waitCnt ∧ (c.emptyC r).mq = c.mq ∧
    (c.emptyC r).track = c.track ∧ (c.emptyC r).catchAll = c.catchAll ∧ (c.emptyC r).extents = c.extents ∧
    (c.emptyC r).answers = c.answers ∧ (c.emptyC r).pageWait = c.pageWait ∧ (c.emptyC r).was = c.was ∧ (c.emptyC r).pins = c.pins ∧
    (c.emptyC r).drainRel = c.drainRel ∧ (c.emptyC r).yielded = c.yielded := by
  unfold Ctx.emptyC; split <;> and_intros <;> rfl

-- What is read back

theorem State.ctx_eq (s : State) : s.ctx = s.ctxAt s.cr.cur := rfl

@[simp] theorem State.setCtxAt_same (s : State) (k : BitVec 2) (c : Ctx) : (s.setCtxAt k c).ctxAt k = c := by
  simp [State.setCtxAt, State.ctxAt]

theorem State.setCtxAt_other (s : State) (k j : BitVec 2) (c : Ctx) (h : j ≠ k) : (s.setCtxAt k c).ctxAt j = s.ctxAt j := by
  have n : ¬(k.toNat = j.toNat) := fun e => h (BitVec.eq_of_toNat_eq e.symm)
  simp [State.setCtxAt, State.ctxAt, n]

@[simp] theorem State.modCtxAt_same (s : State) (k : BitVec 2) (f : Ctx → Ctx) : (s.modCtxAt k f).ctxAt k = f (s.ctxAt k) := by
  simp [State.modCtxAt]

theorem State.modCtxAt_other (s : State) (k j : BitVec 2) (f : Ctx → Ctx) (h : j ≠ k) : (s.modCtxAt k f).ctxAt j = s.ctxAt j :=
  State.setCtxAt_other s k j _ h

@[simp] theorem State.modCtx_ctx (s : State) (f : Ctx → Ctx) : (s.modCtx f).ctx = f s.ctx := by
  exact State.setCtxAt_same s s.cr.cur (f s.ctx)

@[simp] theorem State.modTenant_same (s : State) (t : BitVec 4) (f : Tenant → Tenant) : (s.modTenant t f).tenant t = f (s.tenant t) := by
  simp only [State.modTenant, State.tenant, tabGet_tabSet_same, Option.getD_some]

theorem State.modTenant_other (s : State) (t u : BitVec 4) (f : Tenant → Tenant) (h : u ≠ t) : (s.modTenant t f).tenant u = s.tenant u := by
  have : u.toNat ≠ t.toNat := fun e => h (BitVec.eq_of_toNat_eq e)
  simp only [State.modTenant, State.tenant, tabGet_tabSet_other _ _ _ _ this]

/-- A write to a scalar register is read back; one to x0 is not (R27, R111). -/
theorem Ctx.xVal_setX (c : Ctx) (r q : BitVec 6) (v : Word) : (c.setX r v).xVal q = if q = 0 then 0 else if q = r then v else c.xVal q := by
  unfold Ctx.xVal Ctx.setX
  by_cases hq : q = 0
  · simp only [hq, if_true]
  · simp only [hq, if_false]
    by_cases hr : r = 0
    · have h : q ≠ r := by rw [hr]; exact hq
      simp only [h, if_false, if_pos hr]
    · simp only [hr, if_false]
      by_cases h : q = r
      · subst h; simp
      · have n : ¬(r.toNat = q.toNat) := fun e => h (BitVec.eq_of_toNat_eq e.symm)
        simp [h, n]

theorem Ctx.pVal_setP (c : Ctx) (r q : BitVec 4) (v : Bool) : (c.setP r v).pVal q = if q = 0 then true else if q = r then v else c.pVal q := by
  unfold Ctx.pVal Ctx.setP
  by_cases hq : q = 0
  · simp only [hq, if_true]
  · simp only [hq, if_false]
    by_cases hr : r = 0
    · have h : q ≠ r := by rw [hr]; exact hq
      simp only [h, if_false, if_pos hr]
    · simp only [hr, if_false]
      by_cases h : q = r
      · subst h; simp
      · have n : ¬(r.toNat = q.toNat) := fun e => h (BitVec.eq_of_toNat_eq e.symm)
        simp [h, n]

theorem Ctx.cVal_setC (c : Ctx) (r q : BitVec 5) (v : Cap) : (c.setC r v).cVal q = if q = 0 then {} else if q = r then v else c.cVal q := by
  unfold Ctx.cVal Ctx.setC
  by_cases hq : q = 0
  · simp only [hq, if_true]
  · simp only [hq, if_false]
    by_cases hr : r = 0
    · have h : q ≠ r := by rw [hr]; exact hq
      simp only [h, if_false, if_pos hr]
    · simp only [hr, if_false]
      by_cases h : q = r
      · subst h; simp
      · have n : ¬(r.toNat = q.toNat) := fun e => h (BitVec.eq_of_toNat_eq e.symm)
        simp [h, n]

/-- What performing an event does (R19): its row of the table runs with its operands at hand, and then it is over. -/
theorem perform_next (e : Event) (s t : State) (h : perform e s = .next t) :
    ∃ u, exec e.instr { s with event := some e } = .next u ∧ t = u.clearEvent := by
  unfold perform onNext at h
  split at h
  · rename_i u hu; cases h; exact ⟨u, hu, rfl⟩
  · cases h
  · cases h

end Sys2Proof.Machine
end

