-- ==== Sys2Proof/Laws/Vector.lean ====
section
/-! SUPPORT. What a vector word does when everything that it needs is at hand: it issues, and its results are in flight. -/

namespace Sys2Proof.Machine

theorem lineRangeTrap_none (sl : Slot) (c : Ctx) (ls : List Nat) (h : ∀ l ∈ ls, l < c.sys.allocSize.toNat) : lineRangeTrap sl c ls = none := by
  have e : ls.find? (fun l => c.sys.allocSize.toNat ≤ l) = none := by
    rw [List.find?_eq_none]
    intro l hl
    simpa using h l hl
  simp [lineRangeTrap, e]

/-- A source that can be read is not empty, has no form fault and no wait. -/
theorem sourceReady_clear (s : State) (o : Source) (h : s.sourceReady o) :
    o.isEmpty s s.ctx = false ∧ sourceFormTrap s s.ctx o = none ∧ sourceHold s s.ctx o = none ∧
      ∀ l ∈ groupLines s.ctx o.code o.n, l < s.ctx.sys.allocSize.toNat := by
  unfold State.sourceReady at h
  by_cases hb : isBypass o.code = true
  · rw [if_pos hb] at h
    simp [Source.isEmpty, sourceFormTrap, sourceHold, hb, h, groupLines, firstTrap, holdIf]
  · rw [if_neg hb] at h
    refine ⟨?_, ?_, ?_, fun l hl => (h l hl).1⟩
    · rw [Source.isEmpty, if_neg hb, List.any_eq_false]
      intro l hl
      simp [(h l hl).2.1]
    · refine firstTrap_none _ ?_
      intro t ht
      obtain ⟨l, hl, rfl⟩ := List.mem_map.1 ht
      simp [(h l hl).2.1, (h l hl).2.2.1]
    · rw [sourceHold, if_neg hb]
      refine joinHolds_none _ ?_
      intro t ht
      obtain ⟨l, hl, rfl⟩ := List.mem_map.1 ht
      simp [lineHold, (h l hl).2.1, (h l hl).2.2.2, holdIf]

/-- A line that can be written makes no wait of R52 or R314. -/
theorem lineWriteWait_none (s : State) (ls : List Nat) (h1 : ∀ l ∈ ls, ∀ o ∈ s.cr.copies, o.holds s.cr.cur l = false)
    (h2 : ∀ l ∈ ls, s.mergeReadsLine s.g l = false) (h3 : ∀ l ∈ ls, ∀ r ∈ s.cr.reads, r.1 = l → r.2 ≤ s.cr.cyc) :
    lineWriteWait s ls = (none, id, none) := by
  have e1 : s.cr.copies.filter (fun m => ls.any (fun l => m.holds s.cr.cur l)) = [] := by
    rw [List.filter_eq_nil_iff]
    intro m hm
    simp only [List.any_eq_true, not_exists, not_and]
    intro l hl
    simp [h1 l hl m hm]
  have e2 : ls.any (s.mergeReadsLine s.g) = false := by
    rw [List.any_eq_false]; intro l hl; simp [h2 l hl]
  have e3 : (s.cr.reads.any fun r => ls.contains r.1 && decide (s.cr.cyc < r.2)) = false := by
    rw [List.any_eq_false]
    intro r hr
    simp only [Bool.and_eq_true, List.contains_iff_mem, decide_eq_true_eq, not_and, Nat.not_lt]
    intro hl
    exact h3 _ hl r hr rfl
  simp only [lineWriteWait, e1, e2, e3]
  simp [holdIf, Hold.join]

/-- The destinations of a vector word are no loop registers. -/
theorem vector_noConflict (w : VWord) (o : VOut) (s : State) (r : SlotRes) (h : r.dests = w.names ++ o.dests) : valueConflict [r] s.ctx r = none := by
  refine valueConflict_one _ _ ?_
  intro d hd hl
  obtain ⟨n, rfl⟩ := mem_loopEndDests _ _ hl
  rw [h] at hd
  have hn : n = 44 ∨ n = 45 ∨ n = 46 ∨ n = 47 := by
    simp only [VOut.dests, List.mem_append] at hd
    rcases hd with hd | (hd | hd) | hd
    · exact absurd hd (by simp [VWord.names, nameDests])
    · split at hd <;> simp at hd
    · split at hd <;> simp at hd
    · split at hd <;> simp at hd; omega
  unfold loopEndDests at hl
  split at hl
  · simp only [List.map_cons, List.map_nil, List.mem_append, List.mem_cons, List.not_mem_nil, or_false, Dest.sys.injEq] at hl
    rcases hl with hl | hl
    · omega
    · split at hl
      · simp at hl
      · simp at hl; omega
  · simp at hl

/-- A vector word whose needs are met issues with its results in flight. -/
theorem vector_clear (s : State) (w : VWord) (o : VOut) (h : s.VecReady w o) : (vectorRes w o s).Clear s := by
  have lw : lineWriteWait s (o.lines.map (fun d => physLine s.ctx d.rel)) = (none, id, none) := by
    refine lineWriteWait_none s _ ?_ ?_ ?_ <;> intro l hl <;> obtain ⟨d, hd, rfl⟩ := List.mem_map.1 hl
    · exact (h.dests d hd).2.2.1
    · exact (h.dests d hd).2.2.2.2.1
    · exact (h.dests d hd).2.2.2.2.2
  have src := fun r hr => sourceReady_clear s r (h.sources r hr)
  have rng : lineRangeTrap (vslot w.u) s.ctx ((w.srcs.map (fun o => groupLines s.ctx o.code o.n)).flatten ++ w.dstRange) = none := by
    refine lineRangeTrap_none _ _ _ ?_
    intro l hl
    rcases List.mem_append.1 hl with hl | hl
    · obtain ⟨g, hg, hl⟩ := List.mem_flatten.1 hl
      obtain ⟨r, hr, rfl⟩ := List.mem_map.1 hg
      exact (src r hr).2.2.2 l hl
    · exact h.range l hl
  have emp : ∀ t (os : List Source), (∀ r ∈ os, r ∈ w.srcs) → emptyTrap s s.ctx t os = none := by
    intro t os hos
    unfold emptyTrap
    split
    · rfl
    · have : os.find? (fun o => o.isEmpty s s.ctx) = none := by
        rw [List.find?_eq_none]; intro r hr; simp [(src r (hos r hr)).1]
      simp [this]
  have dst : destFormTrap s s.ctx w.dst o.lines = none := by
    refine firstTrap_none _ ?_
    intro t ht
    obtain ⟨d, hd, rfl⟩ := List.mem_map.1 ht
    rcases (h.dests d hd).2.1 with hf | hf <;> simp [trapIf, hf]
  have trp : (vectorRes w o s).trap = none := by
    have own : ∀ t ∈ [w.early, lineRangeTrap (vslot w.u) s.ctx ((w.srcs.map (fun o => groupLines s.ctx o.code o.n)).flatten ++ w.dstRange)] ++
        w.xs.map (xPoisonTrap s.ctx) ++ [emptyTrap s s.ctx w.t (if w.readsD then w.srcs.drop (w.srcs.length - 1) ++
          w.srcs.take (w.srcs.length - 1) else w.srcs)] ++ w.srcs.map (sourceFormTrap s s.ctx) ++
        [if s.ctx.kEmpty w.k then none else destFormTrap s s.ctx w.dst o.lines], t = none := by
      intro t ht
      simp only [List.mem_append, List.mem_cons, List.not_mem_nil, or_false, List.mem_map] at ht
      rcases ht with ((((ht | ht) | ⟨x, hx, rfl⟩) | ht) | ⟨r, hr, rfl⟩) | ht
      · rw [ht, h.early]
      · rw [ht, rng]
      · exact xPoisonTrap_none _ _ (h.scalars x hx).2
      · rw [ht]
        refine emp _ _ ?_
        split
        · intro r hr
          rcases List.mem_append.1 hr with hr | hr
          · exact List.mem_of_mem_drop hr
          · exact List.mem_of_mem_take hr
        · exact fun r hr => hr
      · exact (src r hr).2.1
      · rw [ht, h.mask, dst]; rfl
    simp only [vectorRes, h.known, if_pos, firstTrap_none _ own, lw]
  refine ⟨rfl, vector_noConflict w o s _ rfl, trp, ?_, ?_, ?_, ?_, ?_⟩
  · simp only [vectorRes, h.known, if_pos, lw]
    refine joinHolds_none _ ?_
    intro t ht
    simp only [List.mem_append, List.mem_map, List.mem_cons, List.not_mem_nil, or_false] at ht
    rcases ht with (((⟨x, hx, rfl⟩ | ht) | ⟨r, hr, rfl⟩) | ⟨d, hd, rfl⟩) | ht | ht | ht
    · exact xHold_none _ _ (h.scalars x hx).1
    · rw [ht]; simp [maskHold, holdIf, h.mask]
    · exact (src r hr).2.2.1
    · simp [lineHold, (h.dests d hd).1, (h.dests d hd).2.2.2.1, holdIf]
    · rw [ht]; split
      · next r v e => simp [holdIf, h.maskDest r v e]
      · rfl
    · rw [ht]; split
      · next r v e => exact xHold_none _ _ (h.xDest r v e)
      · rfl
    · exact ht
  · simp only [SlotRes.engineHold, vectorRes]
    split
    · next _ _ _ e => 
      have := h.engine _ e
      simp [holdIf, Nat.not_lt.2 this.1, Nat.not_lt.2 this.2]
    · rfl
  · simp only [SlotRes.schedule, vectorRes]
    split
    · next _ _ _ e =>
      have := h.engine _ e
      simp [Nat.not_lt.2 this.1]
    · rfl
  · simp [resourceHold, sumOf, vectorRes, entriesFit, holdIf]
  · simp [recordTrap, sumOf, vectorRes]

/-- The issue of a lone vector word. -/
theorem vector_issue (i : Instr) (s : State) (w : VWord) (o : VOut) (hw : i.wellFormed = true) (h : s.VecReady w o) :
    runAlone i (vectorRes w o s) s = .next (s.afterVector w o) := by
  rw [runAlone_clear i _ s hw (vector_clear s w o h) rfl rfl (fun _ => rfl)]
  rfl

end Sys2Proof.Machine
end

