-- ==== Sys2Proof/Tests/Slice0.lean ====
section
/-! SUPPORT. Tests: words of the spec and their instructions, ill-formed terms and their refusal, single steps, and for each statement
with hypotheses a state and operands that meet them. -/

set_option Elab.async false

namespace Sys2Proof.Tests

open Sys2Proof.Machine

-- A small state

/-- A capability with every permission and all addresses as its bounds. -/
def someCap (space : BitVec 3) (cursor : Word) : Cap := { tag := true, bits := capBits 0 space 0 0xFFF 0 0 63 cursor }

/-- A context at its attempt, with all the lines and tiles of its core, and one capability for each space: c1 scratchpad, c2 object 2,
c3 pool object 3, c4 host, c5 objects of the system, c6 sealed, c7 untagged. -/
def someCtx : Ctx := {
  state := .run
  sys := { allocSize := 32768, tilesCount := 48 }
  c := (Vector.replicate 32 {}).set 1 { cap := someCap 1 0 } |>.set 2 { cap := someCap 2 0x20000000000 } |>.set 3 { cap := someCap 3 0x30000000000 }
    |>.set 4 { cap := someCap 4 64 } |>.set 5 { cap := someCap 6 1 } |>.set 6 { cap := (someCap 1 0).withOtype 1 }
  x := (Vector.replicate 64 {}).set 8 { val := 1 } |>.set 9 { val := 64 } }

/-- A running package: core 0 runs `someCtx` as its context 0; objects 2 and 3 have their page 0 in frames 32768 and 32769. -/
def base : State := { State.reset with
  power := .run
  cr := { ctxs := (Vector.replicate 4 {}).set 0 someCtx }
  objects := [(2, { pool := false, tenant := 0, levels := 1, pages := 512, leaves := [(0, { state := .resident, frame := 32768 })] }),
    (3, { pool := true, tenant := 0, levels := 1, pages := 512, leaves := [(0, { state := .resident, frame := 32769 })] })]
  frames := [(32768, { pool := false, obj := 2, page := 0 }), (32769, { pool := true, obj := 3, page := 0 })]
  clusters := [(0, { tlb := [{ space := .local, obj := 2, page := 0, frame := 32768, gen := 0 },
    { space := .pool, obj := 3, page := 0, frame := 32769, gen := 0 }] })]
  placements := [{ tenant := 0, launch := 0, gang := 0, stage := 0, cluster := 0, cores := [(0, 0, 0, 32768)] }] }

/-- `base` with another context at its attempt. -/
def withCtx (f : Ctx → Ctx) : State := base.modCtx f

/-- `base` with an event at hand. -/
def at_ (e : Event) : State := { base with event := some e }

-- Witnesses: hypotheses of the statements that concrete states meet

theorem witness_IntegerResults : base.ctx.xReady 8 ∧ base.ctx.xReady 0 ∧ base.ctx.xReady 63 ∧ base.ctx.xEmpty 63 = false := by decide

theorem witness_ImmediateAndPredicateResults : base.ctx.xReady 8 ∧ base.ctx.xReady 63 ∧ base.ctx.xEmpty 0 = false ∧ base.ctx.xPoison 0 = false := by
  decide

theorem witness_DivisionResults : base.ctx.xReady 8 ∧ base.ctx.xReady 9 ∧ base.ctx.xEmpty 0 = false ∧ base.ctx.xEmpty 63 = false := by decide

theorem witness_SystemRegisterMoves :
    (sysBusy base 18 = false ∧ base.ctx.xEmpty 8 = false ∧ sysAssigned 18 = true) ∧
    (base.ctx.xReady 9 ∧ sysWritable 10 = true ∧ mtsBad base.ctx 10 (base.ctx.xVal 9) = false ∧ Dest.sys 10 ∉ loopEndDests base.ctx ∧
      Dest.sys 11 ∉ loopEndDests base.ctx) ∧
    mtsBad base.ctx 10 (base.ctx.xVal 0) = true ∧ mtsBad base.ctx 11 (base.ctx.xVal 8) = true := by decide

theorem witness_DescriptorMoves : base.ctx.cReady 31 ∧ base.ctx.xReady 0 ∧ base.ctx.xReady 8 ∧ mtdBad 1 0 = false ∧ mtdBad 8 0 = false ∧
    mtstrBad 0 0 = false ∧ mtstrBad 5 0 = false := by decide

theorem witness_NewBounds : base.ctx.cEmpty 31 = false ∧ base.ctx.cValid 1 ∧ base.ctx.xReady 0 ∧
    (0 + 2 ^ 0 - 1) / 2 ^ 0 - 0 / 2 ^ 0 ≤ 2 ^ 14 - 1 ∧ (boundsOf (base.ctx.cVal 1)).1 = 0 ∧ 0 ≤ (boundsOf (base.ctx.cVal 1)).2 := by decide

theorem witness_CapabilityDerivations : base.ctx.cEmpty 31 = false ∧ base.ctx.cValid 1 ∧ base.ctx.cReady 7 ∧ base.ctx.xReady 8 ∧
    (let w := base.ctx.cVal 5
     base.ctx.cValid 5 ∧ w.space = 6 ∧ (boundsOf w).1 ≤ w.cursor.toNat ∧ w.cursor.toNat < (boundsOf w).2 ∧ (base.ctx.cVal 1).otype = 0 ∧
      w.has .seal = true ∧ w.cursor.toNat = 1 ∧ (base.ctx.cVal 6).otype.toNat = 1 ∧ w.has .unseal = true) := by decide

theorem witness_SourceFaults : (base.ctx.cReady 7 ∧ (base.ctx.cVal 7).tag = false) ∧
    (base.ctx.cReady 6 ∧ (base.ctx.cVal 6).tag = true ∧ (base.ctx.cVal 6).otype ≠ 0) ∧
    ((withCtx (fun c => { c with x := c.x.set 63 { poison := true } })).ctx.xPoison 63 = true) ∧
    ((withCtx (fun c => { c with c := c.c.set 31 { poison := true } })).ctx.cPoison 31 = true) := by decide

theorem witness_CapabilityMonotonic : ((limitCap false (someCap 1 0) 0).isSome = true ∧ (limitCap true (someCap 1 64) 64).isSome = true) ∧
    ((moveCursor (someCap 1 0) 64).tag = true ∧ (someCap 1 0).e.toNat = 63) := by decide

theorem witness_CapabilityTests : base.ctx.cReady 7 ∧ base.ctx.xReady 0 ∧ (base.ctx.cVal 7).tag = false ∧ (base.ctx.cVal 1).space = 1 ∧
    (∀ e ∈ ([(2, .local, 2), (3, .pool, 3)] : List (BitVec 5 × Space × Nat)), let v := base.ctx.cVal e.1
      (v.space = 2 ∧ e.2.1 = .local ∨ v.space = 3 ∧ e.2.1 = .pool) ∧ v.cursor.toNat / 2 ^ 40 = e.2.2 ∧
        (tabGet base.objects e.2.2).map ObjMap.deleted = some false ∧ translate base base.ctx e.2.1 e.2.2 (v.cursor.toNat % 2 ^ 40 / 65536) ≠ .walk) := by
  decide +kernel

theorem reaches_scratch : base.Reaches (base.ctx.cVal 1) 0 16 { space := .scratch, obj := 0, off := 0, full := 0 } :=
  .scratch 0 0 (by decide +kernel) (by decide +kernel) (by decide +kernel)

theorem reaches_local : base.Reaches (base.ctx.cVal 2) 0x20000000000 16 { space := .local, obj := 2, off := 0, frame := 32768, full := 0x20000000000 } :=
  .object .local 32768 (by decide +kernel) (by decide +kernel) (by decide +kernel) (by decide +kernel)

theorem reaches_pool : base.Reaches (base.ctx.cVal 3) 0x30000000000 16 { space := .pool, obj := 3, off := 0, frame := 32769, full := 0x30000000000 } :=
  .object .pool 32769 (by decide +kernel) (by decide +kernel) (by decide +kernel) (by decide +kernel)

theorem reaches_host : base.Reaches (base.ctx.cVal 4) 64 16 { space := .host, obj := 0, off := 64, full := 64, vf := 1 } := .host (by decide +kernel) (by decide +kernel)

theorem witness_MemoryIssue : base.ctx.xEmpty 0 = false ∧ base.ctx.xReady 8 ∧ base.ctx.cReady 1 ∧ base.outstanding < 1024 ∧
    (base.ctx.cVal 1).allows .ld [.scratch, .local, .pool, .host] 0 8 ∧ (base.ctx.cVal 3).allows .st [.scratch, .local, .pool, .host] 0x30000000000 8 ∧
    base.mayWrite { space := .scratch, obj := 0, off := 0, full := 0 } := by
  refine ⟨by decide +kernel, by decide +kernel, by decide +kernel, by decide +kernel, ?_, ?_, by decide +kernel⟩ <;> decide +kernel

theorem witness_CapabilityTransfers : base.ctx.cReady 1 ∧ base.outstanding < 1024 ∧ base.ctx.cEmpty 31 = false ∧ base.ctx.cReady 3 ∧
    (base.ctx.cVal 1).allows .ld [.scratch, .local, .pool, .host] 0 16 ∧ (base.ctx.cVal 1).allows .st [.scratch, .local, .pool, .host] 0 16 ∧
    base.mayWrite { space := .scratch, obj := 0, off := 0, full := 0 } ∧ (base.ctx.cVal 3).tag = true ∧
    (base.ctx.cVal 1).space ≠ 4 ∧ (base.ctx.cVal 1).has .stcap = true ∧ (base.ctx.cVal 3).has .global = true := by
  refine ⟨by decide +kernel, by decide +kernel, by decide +kernel, by decide +kernel, ?_, ?_, by decide +kernel, by decide +kernel, by decide +kernel, by decide +kernel, by decide +kernel⟩ <;> decide +kernel

/-- The first, the second and the last check of R124, an absent and a lost page, both further checks of STC, and a copy that passes each check. -/
theorem witness_AccessFaults : base.ctx.xEmpty 0 = false ∧ base.ctx.xReady 8 ∧ base.ctx.cEmpty 31 = false ∧
    (Instr.acas2 62 1 8 0 0 0).wellFormed = true ∧ (base.ctx.xPoison 62 = false ∧ base.ctx.xPoison 63 = false) ∧
    (base.ctx.cReady 7 ∧ (base.ctx.cVal 7).tag = false) ∧ (base.ctx.cReady 6 ∧ (base.ctx.cVal 6).tag = true ∧ (base.ctx.cVal 6).otype ≠ 0) ∧
    (let s := { base with lineMeta := [(0, { form := .poison })] }
     resolveScratch s s.ctx 0 8 = some (0, 0) ∧ formKnown s s.ctx 0 0 = some .poison) ∧
    (∀ w ∈ [Xlat.absent, Xlat.lost],
      let s := withCtx (fun c => { c with answers := [(.local, 2, 0, match w with | .lost => .lost | _ => .absent)] })
      let t := { s with clusters := [] }
      (t.ctx.cVal 2).allows .ld [.scratch, .local, .pool, .host] 0x20000000000 8 ∧ (t.ctx.cVal 2).space = 2 ∧ t.ctx.sys.world = 0 ∧
        stale t (t.ctx.cVal 2) 2 = false ∧ translate t t.ctx .local 2 0 = w) ∧
    ((base.ctx.cVal 3).tag = true ∧ (base.ctx.cVal 4).allows .st [.scratch, .local, .pool, .host] 64 16 ∧ (base.ctx.cVal 4).space = 4 ∧
      (base.ctx.cVal 1).allows .st [.scratch, .local, .pool, .host] 0 16 ∧ (base.ctx.cVal 1).space = 1) ∧
    (let v : Cap := { tag := true, bits := capBits 0 1 0 0x0FF 0 0 63 0 }
     v.has .stcap = false ∨ v.has .global = false) := by
  refine ⟨?_, ?_, ?_, ?_, ?_, ?_, ?_, ?_, ?_, ?_, ?_⟩ <;> decide +kernel

theorem witness_ControlWords : base.ctx.xReady 0 ∧ base.ctx.pVal 0 = true ∧ (base.ctx.xVal 0).toNat ≤ 8191 ∧
    (base.ctx.loops[0].v = true → 8191 < base.ctx.loops[0].last.toNat) ∧ base.ctx.loops[3].v = false ∧ base.ctx.sys.vrs ≠ 0 ∧
    (base.ctx.atLoopEnd = true → base.ctx.loops[0].step = 0) ∧
    ((base.ctx.xVal 0).toNat + 2048 ≤ base.ctx.sys.allocSize.toNat) ∧ (47 < base.ctx.sys.tilesCount.toNat) ∧
    resolveRef base base.ctx (base.placementOf base.ctx) (base.ctx.xVal 0) = .at { g := 0, byte := 0, ref := 0 } := by
  refine ⟨?_, ?_, ?_, ?_, ?_, ?_, ?_, ?_, ?_, rfl⟩ <;> decide +kernel

/-- One context for each clause: no loop end, an iteration that goes on, the last one, a jump that leaves one body for the next, one that leaves
the only body, one that stays, and one over an entry that is not valid. -/
theorem witness_AdvanceRules :
    (∃ c : Ctx, ¬(c.loops[0].v = true ∧ c.loops[0].last.toNat = c.pc.toNat)) ∧
    (∃ c : Ctx, c.loops[0].v = true ∧ c.loops[0].last.toNat = c.pc.toNat ∧ c.loops[0].cnt = 0) ∧
    (∃ c : Ctx, c.loops[0].v = true ∧ c.loops[0].last.toNat = c.pc.toNat ∧ c.loops[0].cnt = 1) ∧
    (∃ ctl : Ctl, ∀ t, ctl ≠ .goto t true) ∧
    (let e (v : Bool) (a b : BitVec 13) : LoopEntry := { cnt := 2, v := v, start := a, last := b }
     let s (l : Vector LoopEntry 4) : State := withCtx (fun c => { c with loops := l })
     ((s #v[e true 3 5, e true 2 9, {}, {}]).leaveLoops (.goto 9 true)).ctx.loops = #v[e true 2 9, {}, {}, {}] ∧
       ((s #v[e true 3 5, {}, {}, {}]).leaveLoops (.goto 9 true)).ctx.loops = Vector.replicate 4 {} ∧
       ((s #v[e true 3 5, e true 2 9, {}, {}]).leaveLoops (.goto 5 true)).ctx.loops = #v[e true 3 5, e true 2 9, {}, {}] ∧
       ((s #v[e false 3 5, e true 2 9, {}, {}]).leaveLoops (.goto 2 true)).ctx.loops = #v[e true 2 9, {}, {}, {}]) := by
  let one (n : Word) : Ctx := { loops := (Vector.replicate 4 {}).set 0 { v := true, cnt := n, start := 0, last := 5 }, pc := 5 }
  refine ⟨⟨{}, by decide +kernel⟩, ⟨one 0, by decide +kernel⟩, ⟨one 1, by decide +kernel⟩, ⟨.fall, fun _ h => by cases h⟩, ?_⟩
  decide +kernel

theorem witness_FaultEntry : base.fpol (base.ctxAt 0) = 0 ∧
    (let s : State := { base with launches := [{ tenant := 0, number := 0, header := 64 }] }
     s.fpol (s.ctxAt 0) = 1) ∧
    (let s : State := { base with launches := [{ tenant := 0, number := 0, header := 128 }] }
     s.fpol (s.ctxAt 0) = 2) ∧
    (let s : State := { base with launches := [{ tenant := 0, number := 0, header := 192 }] }
     s.fpol (s.ctxAt 0) = 3) ∧
    (∃ t : Trap, t.code = 0x15) ∧ (∃ t : Trap, t.code ≠ 0x0F ∧ t.code ≠ 0x15 ∧ t.code ≠ 0x16) ∧ (∃ l : Launch, l.stopping = true) :=
  ⟨by decide +kernel, by decide +kernel, by decide +kernel, by decide +kernel, ⟨{ code := 0x15, trapi := 0 }, rfl⟩,
    ⟨{ code := 1, trapi := 0 }, by decide⟩, { tenant := 0, number := 0, header := 0, stopping := true }, rfl⟩

theorem witness_ContextEvents :
    (∃ s : State, s.event = some (.contextResume 0 0) ∧ ((s.coreAt 0).ctxs[(0 : BitVec 2).toNat]).state = .halt ∧ (s.focus 0).pageDrained 0 = true) ∧
    (∃ s : State, s.event = some (.contextEnd 0 0) ∧ ((s.coreAt 0).ctxs[(0 : BitVec 2).toNat]).state = .halt) ∧
    (∃ s : State, s.event = some (.fetchPastEnd 0) ∧ (s.ctxAt 0).state = .run ∧ (s.ctxAt 0).waits = [] ∧ (s.ctxAt 0).mq = [] ∧ 8192 ≤ (s.ctxAt 0).pc.toNat) ∧
    (∃ (s : State) (f : DueFault), s.event = some (.asyncFaultDelivery 0) ∧ (s.ctxAt 0).state = .run ∧ firstDue (s.ctxAt 0).due = some f) ∧
    (∃ (s : State) (w : Pending), s.event = some (.engineWaitEnd 0) ∧ (s.ctxAt 0).state = .run ∧ (s.ctxAt 0).waits.find? (s.pendingMet 0) = some w ∧
      s.coveredCopy 0 w = none) ∧
    (∃ (s : State) (w : Pending) (m : Copy), s.event = some (.engineWaitEnd 0) ∧ (s.ctxAt 0).state = .run ∧ (s.ctxAt 0).waits.find? (s.pendingMet 0) = some w ∧
      s.coveredCopy 0 w = some m) ∧
    (∃ s : State, s.event = some (.engineWaitEnd 0) ∧ (s.ctxAt 0).state = .wait ∧ (s.ctxAt 0).waits = [] ∧ (s.ctxAt 0).mq = [] ∧
      s.outlook 0 ≠ some .engine) ∧
    (∃ s : State, s.event = some .waitCounterExpiry ∧ s.running.isSome = true ∧ s.longestWait = some 1 ∧ s.cr.switchLeft = 0) ∧
    (∃ s : State, s.event = some .coreClockGate ∧ s.cr.gated = false ∧ 64 ≤ s.cr.idle) ∧
    (∃ s : State, s.event = some .coreWake ∧ s.cr.gated = true ∧ s.isReady 0 = true) ∧
    (∃ s : State, s.event = some .freezeCycle ∧ s.frozen = true) :=
  let one (e : Event) (f : Ctx → Ctx) : State := (at_ e).modCtx f
  ⟨⟨one (.contextResume 0 0) (fun c => { c with state := .halt }), by decide +kernel⟩, ⟨one (.contextEnd 0 0) (fun c => { c with state := .halt }), by decide +kernel⟩,
   ⟨one (.fetchPastEnd 0) (fun c => { c with pc := 8192 }), by decide +kernel⟩,
   ⟨one (.asyncFaultDelivery 0) (fun c => { c with due := [{ code := 0x14, due := 0, trapi := 0 }] }), { code := 0x14, due := 0, trapi := 0 }, by decide +kernel⟩,
   ⟨one (.engineWaitEnd 0) (fun c => { c with waits := [.copies 0] }), .copies 0, by decide +kernel⟩,
   ⟨{ one (.engineWaitEnd 0) (fun c => { c with waits := [.lines 0 1] }) with cr := { (one (.engineWaitEnd 0) (fun c => { c with waits := [.lines 0 1] })).cr with
        copies := [{ id := 1, k := 0, op := .get, phase := .failed 0x09, desc := { cap := someCap 3 0x30000000000, len := 128 }, lines := [0] }] } },
     .lines 0 1, { id := 1, k := 0, op := .get, phase := .failed 0x09, desc := { cap := someCap 3 0x30000000000, len := 128 }, lines := [0] }, by decide +kernel⟩,
   ⟨one (.engineWaitEnd 0) (fun c => { c with state := .wait }), by decide +kernel⟩,
   ⟨{ at_ .waitCounterExpiry with cr := { base.cr with ctxs := base.cr.ctxs.set 1 { someCtx with state := .ready, waitCnt := 65536 } } }, by decide +kernel⟩,
   ⟨{ at_ .coreClockGate with cr := { base.cr with idle := 64 } }, by decide +kernel⟩,
   ⟨{ at_ .coreWake with cr := { base.cr with gated := true } }.modCtx (fun c => { c with state := .ready }), by decide +kernel⟩,
   ⟨{ at_ .freezeCycle with cr := { base.cr with droop := true } }, by decide +kernel⟩⟩

theorem base_mask : ∀ k, base.ctx.kEmpty k = false := by decide +kernel

theorem base_xReady : ∀ r, base.ctx.xReady r := by decide +kernel

theorem base_meta (n : Nat) : base.metaAt n = {} := rfl

theorem base_noCopy : base.cr.copies = [] ∧ base.cr.reads = [] := ⟨rfl, rfl⟩

theorem base_merge (g l : Nat) : base.mergeReadsLine g l = false := rfl

theorem base_scrub (l : Nat) : base.scrubHolds l = false := rfl

theorem base_engine (sl : Slot) : base.cr.engineFree sl := by
  intro e h
  cases sl <;> first | (cases h; exact ⟨Nat.le_refl 0, Nat.le_refl 0⟩) | cases h

/-- Everything is at hand in `base` for a vector word whose lines lie in the allotment and whose sources are no bypass registers. -/
theorem ready_base (w : VWord) (o : VOut) (he : w.early = none) (hk : w.dstKnown = true) (hs : ∀ r ∈ w.srcs, isBypass r.code = false ∧ ∀ l ∈ groupLines base.ctx r.code r.n, l < 32768)
    (hr : ∀ l ∈ w.dstRange, l < 32768) : base.VecReady w o where
  engine := base_engine _
  early := he
  known := hk
  mask := base_mask _
  scalars x _ := base_xReady x
  sources r h := by
    rw [State.sourceReady, if_neg (by simp [(hs r h).1])]
    exact fun l hl => ⟨(hs r h).2 l hl, by rw [base_meta], by rw [base_meta], base_scrub _⟩
  range := hr
  dests d _ := by
    simp [State.destReady, base_meta, base_noCopy, base_merge, base_scrub, (show base.g = 0 from rfl)]
  maskDest r _ _ := base_mask r
  xDest r _ _ := (base_xReady r).1

/-- A one-register word and an eight-register word, the largest group, of the shapes that the element-wise statements name. -/
theorem witness_VectorFloat : (Instr.vaddF32 .a 0 0 0 4 0 2).wellFormed = true ∧ (Instr.vminBf16 .b 3 7 1 16 0 8).wellFormed = true ∧
    (Instr.vfmaF32 .a 0 0 0 4 0 2).wellFormed = true ∧ (Instr.vabsF32 .a 3 0 0 16 0).wellFormed = true ∧
    (∀ o, base.VecReady { u := .a, busy := 1, weight := 5, dst := 4, dstRange := groupLines base.ctx 4 1, srcs := [⟨0, 1⟩, ⟨2, 1⟩] } o) ∧
    (∀ o, base.VecReady { u := .b, t := 1, busy := 8, weight := 5, k := 7, dst := 16, dstRange := groupLines base.ctx 16 8, srcs := [⟨0, 8⟩, ⟨8, 8⟩] } o) ∧
    (∀ o, base.VecReady { u := .a, busy := 1, weight := 5, readsD := true, dst := 4, dstRange := groupLines base.ctx 4 1, srcs := [⟨0, 1⟩, ⟨2, 1⟩, ⟨4, 1⟩] } o) ∧
    (∀ o, base.VecReady { u := .a, busy := 8, weight := 5, dst := 16, dstRange := groupLines base.ctx 16 8, srcs := [⟨0, 8⟩] } o) := by
  refine ⟨by decide, by decide, by decide, by decide, fun o => ?_, fun o => ?_, fun o => ?_, fun o => ?_⟩ <;>
    exact ready_base _ _ rfl rfl (by decide +kernel) (by decide +kernel)

theorem witness_VectorInteger : (Instr.vaddsI8 .a 3 0 0 16 0 8).wellFormed = true ∧ (Instr.vshrI32 .a 3 0 0 16 0 8).wellFormed = true ∧
    (Instr.vmov .a 0 0 0 4 0).wellFormed = true ∧
    (∀ o, base.VecReady { u := .a, busy := 8, weight := 3, dst := 16, dstRange := groupLines base.ctx 16 8, srcs := [⟨0, 8⟩, ⟨8, 8⟩] } o) ∧
    (∀ o, base.VecReady { u := .a, busy := 1, weight := 3, dst := 4, dstRange := groupLines base.ctx 4 1, srcs := [⟨0, 1⟩] } o) := by
  refine ⟨by decide, by decide, by decide, fun o => ?_, fun o => ?_⟩ <;> exact ready_base _ _ rfl rfl (by decide +kernel) (by decide +kernel)

theorem witness_VectorCompareSelect : (Instr.vcmpF32Eq .a 2 0 0 7 0 8).wellFormed = true ∧ (Instr.vcmpI32Le .a 0 0 0 0 0 8).wellFormed = true ∧
    (Instr.vsel .a 2 1 0 16 0 8).wellFormed = true ∧ (Instr.vbcx32 .a 0 0 0 4 63).wellFormed = true ∧
    (∀ o, base.VecReady { u := .a, busy := 4, weight := 3, srcs := [⟨0, 4⟩, ⟨8, 4⟩] } o) ∧
    (∀ o, base.VecReady { u := .a, busy := 4, weight := 3, k := 1, dst := 16, dstRange := groupLines base.ctx 16 4, srcs := [⟨0, 4⟩, ⟨8, 4⟩] } o) ∧
    (∀ o, base.VecReady { u := .a, busy := 1, weight := 3, xs := [63], dst := 4, dstRange := groupLines base.ctx 4 1 } o) := by
  refine ⟨by decide, by decide, by decide, by decide, fun o => ?_, fun o => ?_, fun o => ?_⟩ <;>
    exact ready_base _ _ rfl rfl (by decide +kernel) (by decide +kernel)

theorem witness_VectorConversions : (Instr.vcvtF32Bf16 .a 0 0 0 4 0).wellFormed = true ∧ (Instr.vcvtI8I16 .a 2 0 0 16 0).wellFormed = true ∧
    (∀ o, base.VecReady { u := .a, busy := 1, weight := 5, dst := 4, dstRange := [regLine base.ctx 4 0], srcs := [⟨0, 1⟩] } o) ∧
    (∀ o, base.VecReady { u := .a, busy := 4, weight := 5, dst := 16, dstRange := groupLines base.ctx 16 8, srcs := [⟨0, 4⟩] } o) := by
  refine ⟨by decide, by decide, fun o => ?_, fun o => ?_⟩ <;> exact ready_base _ _ rfl rfl (by decide +kernel) (by decide +kernel)

theorem witness_VectorBlockScaled : (Instr.vqntMx8 .a 3 0 0 16 0 8).wellFormed = true ∧ (Instr.vamaxBf16 .a 3 0 0 0).wellFormed = true ∧
    (Instr.vdqntMx4 .a 0 0 0 4 0 8).wellFormed = true ∧ (Instr.vplnMx6 .a 0 0 4 0).wellFormed = true ∧ (Instr.vuplnMx8 .a 3 0 16 0).wellFormed = true ∧
    (∀ o, base.VecReady { u := .a, busy := 8, weight := 5, dst := 16, dstRange := (List.range 4).map (fun i => regLine base.ctx 16 (i / 2) + i % 2), srcs := [⟨0, 8⟩, ⟨8, 1⟩] } o) ∧
    (∀ o, base.VecReady { u := .a, busy := 8, weight := 5, srcs := [⟨0, 8⟩] } o) ∧
    (∀ o, base.VecReady { u := .a, busy := 8, weight := 5, dst := 16, dstRange := groupLines base.ctx 16 8, srcs := [⟨0, 8⟩] } o) := by
  refine ⟨by decide, by decide, by decide, by decide, by decide, fun o => ?_, fun o => ?_, fun o => ?_⟩ <;>
    exact ready_base _ _ rfl rfl (by decide +kernel) (by decide +kernel)

theorem witness_VectorReductions : (Instr.vrcpa .a 0 0 0 4 0).wellFormed = true ∧ (Instr.vrsumF32 .a 3 0 0 4 8).wellFormed = true ∧
    (Instr.vscanI32 .a 0 0 0 4 0).wellFormed = true ∧ (Instr.vtopkF32 .a 0 0 0 4 0 9).wellFormed = true ∧
    1 ≤ (base.ctx.xVal 8).toNat ∧ (base.ctx.xVal 9).toNat ≤ 64 ∧
    (∀ o, base.VecReady { u := .a, busy := 2, weight := 4, dst := 4, dstRange := groupLines base.ctx 4 1, srcs := [⟨0, 1⟩] } o) ∧
    (∀ o, base.VecReady { u := .a, busy := 8, weight := 5, dst := 4, dstRange := [regLine base.ctx 4 0], srcs := [⟨8, 8⟩] } o) ∧
    (∀ o, base.VecReady { u := .a, busy := 1, weight := 5, xs := [9], dst := 4, dstRange := groupLines base.ctx 4 2, srcs := [⟨0, 1⟩] } o) ∧
    (∃ cand : List (Nat × Nat), cand ≠ [] ∧ (∀ e ∈ cand, e.1 < 2 ^ 32) ∧ (cand.map Prod.snd).Nodup) := by
  refine ⟨by decide, by decide, by decide, by decide, by decide, by decide, fun o => ?_, fun o => ?_, fun o => ?_, [(2 ^ 32 - 1, 0), (0, 1)], by decide⟩ <;>
    exact ready_base _ _ rfl rfl (by decide +kernel) (by decide +kernel)

theorem witness_VectorMoves : (Instr.vperm8 .a 0 0 0 4 0 8).wellFormed = true ∧ (Instr.vrotl32 .a 0 0 0 4 0 63).wellFormed = true ∧
    (Instr.vzip32 .a 2 0 16 0 8).wellFormed = true ∧ (Instr.vxtr32 .a 0 8 0 9).wellFormed = true ∧ (Instr.vins32 .a 0 0 4 8 9).wellFormed = true ∧
    (Instr.vltld .a 0 0).wellFormed = true ∧ (Instr.vlutBf16 .a 3 0 0 16 0).wellFormed = true ∧
    (∀ o, base.VecReady { u := .a, busy := 4, weight := 3, dst := 16, dstRange := groupLines base.ctx 16 8, srcs := [⟨0, 4⟩, ⟨8, 4⟩] } o) ∧
    (∀ l ∈ groupLines base.ctx 0 4 ++ groupLines base.ctx 8 4, l ∉ groupLines base.ctx 16 8) ∧
    (∀ o, base.VecReady { u := .a, busy := 1, weight := 3, xs := [8, 9], dst := 4, dstRange := groupLines base.ctx 4 1, srcs := [⟨4, 1⟩], readsD := true } o) ∧
    (∀ o, base.VecReady { u := .a, busy := 1, weight := 3, xs := [9], srcs := [⟨0, 1⟩] } o) ∧
    (∀ o, base.VecReady { u := .a, busy := 8, weight := 5, dst := 16, dstRange := groupLines base.ctx 16 8, srcs := [⟨0, 2⟩] } o) := by
  refine ⟨by decide, by decide, by decide, by decide, by decide, by decide, by decide, fun o => ?_, by decide +kernel, fun o => ?_, fun o => ?_, fun o => ?_⟩ <;>
    exact ready_base _ _ rfl rfl (by decide +kernel) (by decide +kernel)

/-- All 64 lanes of one register at address 0 of the scratchpad, and at object 2. -/
theorem witness_GatherScatter :
    (Instr.vgath32 0 0 0 4 0 1).wellFormed = true ∧ (Instr.vscat16 3 7 1 16 0 2).wellFormed = true ∧
    (∀ i < 64, BitVec.ofInt 64 ((base.ctx.cVal 1).cursor.toNat + sextN 32 (base.lane 0 1 32 (i / 64) (i % 64)) * 4) = 0) ∧
    (base.ctx.cReady 1 ∧ (base.ctx.cVal 1).tag = true ∧ (base.ctx.cVal 1).otype = 0 ∧ (base.ctx.cVal 1).has .ld = true ∧
      (base.ctx.cVal 1).space = 1 ∧ base.outstanding + 64 ≤ 1024 ∧ (boundsOf (base.ctx.cVal 1)).1 ≤ 0 ∧ 4 ≤ (boundsOf (base.ctx.cVal 1)).2) ∧
    (base.ctx.cReady 2 ∧ (base.ctx.cVal 2).space = 2 ∧ (base.ctx.cVal 2).has .st = true ∧ base.ctx.sys.world = 0 ∧ stale base (base.ctx.cVal 2) 2 = false) ∧
    (∀ o, base.VecReady { u := .a, busy := 1, weight := 3, dst := 4, dstRange := groupLines base.ctx 4 1, srcs := [⟨0, 1⟩] } o) ∧
    base.VecReady { u := .a, t := 1, busy := 8, weight := 3, k := 7, readsD := true, srcs := [⟨0, 4⟩, ⟨16, 8⟩] } {} := by
  refine ⟨by decide, by decide, by decide +kernel, by decide +kernel, by decide +kernel, fun o => ?_, ?_⟩ <;>
    exact ready_base _ _ rfl rfl (by decide +kernel) (by decide +kernel)

theorem witness_VectorLaunch : ∃ o : VOut, o.lines ≠ [] ∧ o.bypass.isSome = true ∧ o.mask.isSome = true ∧ o.flags.isSome = true ∧ o.amax.isSome = true ∧
    o.xreg.isSome = true ∧ o.ctab.isSome = true :=
  ⟨{ lines := [⟨0, 0, 0⟩], bypass := some 0, mask := some (7, 0), flags := some 0, amax := some 0, xreg := some (63, 0), ctab := some (Vector.replicate 4 0) },
    by decide⟩

/-- The first and the last tile, an MMA of one row of four and of format 2, MRD of a whole tile. -/
theorem witness_MatrixWords :
    let s := withCtx (fun c => { c with s := (Vector.replicate 16 {}).set 0 { fmt := 3 } |>.set 1 { fmt := 2 } })
    (∀ sl, s.cr.engineFree sl) ∧ 47 < s.ctx.sys.tilesCount.toNat ∧ s.mergeReads 47 = false ∧ s.cr.tileBusy 47 = false ∧
    (Instr.mma 0 1 47 0).wellFormed = true ∧ (Instr.mzero 47).wellFormed = true ∧ (Instr.mrdF32 0 47 1 0).wellFormed = true ∧
    (Instr.mwrF32 0 47 0 15).wellFormed = true ∧
    (∀ l ∈ (mmaLines s.ctx.s[0] s.ctx.s[1] 1).eraseDups, s.lineReady l) ∧
    (∀ l ∈ groupLines s.ctx 0 1, l < s.ctx.sys.allocSize.toNat ∧ s.destReady ⟨l, 0, BitVec.allOnes 128⟩) ∧ s.sourceReady ⟨0, 4⟩ :=
  ⟨base_engine, by decide, by decide, by decide, by decide, by decide, by decide, by decide, by decide +kernel, by decide +kernel, by decide +kernel⟩

/-- `base` with a descriptor for each command: d0 of pool object 3, d1 of the scratchpad, rows of 128 bytes. -/
def copyState : State := withCtx (fun c => { c with
  d := (Vector.replicate 16 {}).set 0 { cap := someCap 3 0x30000000000, len := 128, line := 32767 } |>.set 1 { cap := someCap 1 0, len := 128, rows := 2, lstr := 1, rstr := 128 } })

theorem witness_AccessFaults_copies :
    (let s := copyState
     let d := s.ctx.desc 0
     (Instr.getc .a 0 1 1 0 0 0 255).wellFormed = true ∧ copyIllegal .get d true 0 = false ∧ s.ctx.xReady 0 ∧
       (∀ l ∈ d.localLines .get, l < s.ctx.sys.allocSize.toNat ∧ s.lineFree l) ∧ (∀ w, copyRef s.ctx 0 d ≠ some w) ∧
       copyWorldTrap s s.ctx (cslot .a).index .get d = none ∧ d.cap.tag = true ∧ d.cap.otype = 0 ∧ d.cap.has CopyOp.get.perm = true ∧
       (∃ sp ∈ CopyOp.get.spaces, spaceOf d.cap.space = some sp) ∧ d.isStale s .get = false) ∧
    (let s := withCtx (fun c => { c with d := (Vector.replicate 16 {}).set 0 { cap := someCap 3 0x30000000000, len := 256, line := 32767 } })
     let d := s.ctx.desc 0
     copyIllegal .get d false 0 = false ∧ (d.localLines .get).find? (fun l => s.ctx.sys.allocSize.toNat ≤ l) = some 32768) ∧
    (let v : Cap := { tag := true, bits := capBits 0 3 0 0xFFF 1 0 0 0x30000000000 }
     let d : Desc := { cap := v, len := 128 }
     (boundsOf v).2 < 0x30000000080 ∧ d.rowAddr .get 0 = 0x30000000000) := by
  refine ⟨?_, ?_, ?_⟩
  · exact ⟨by decide, by decide, by decide, by decide +kernel, fun w h => (by cases h), by decide, by decide, by decide, by decide, by decide, by decide⟩
  · decide +kernel
  · decide +kernel

theorem copyReady_get : copyState.CopyReady .get .a 0 1 1 0 0 none where
  scope := by decide
  extent := by decide
  rows := by decide
  bulk := by decide
  ref := by decide
  object := rfl
  lines := by decide +kernel
  own := by decide +kernel
  room := by decide
  records := by decide
  world := by decide
  cap := by decide
  lease := by decide
  space := by decide
  bounds := by decide +kernel
  fresh := by decide
  scratch := by decide
  stage := by decide

theorem copyReady_xfer : copyState.CopyReady .xfer .b 1 0 0 0 0 none where
  scope := by decide
  extent := by decide
  rows := by decide
  bulk := by decide
  ref := by decide
  object := rfl
  lines := by decide +kernel
  own := by decide +kernel
  room := by decide
  records := by decide
  world := by decide
  cap := by decide
  lease := by decide
  space := by decide
  bounds := by decide +kernel
  fresh := by decide
  scratch := by decide
  stage := fun _ => ⟨by decide, _, rfl, by decide +kernel⟩

theorem copyReady_bget : copyState.CopyReady .bget .a 0 0 0 0 0 none where
  scope := by decide
  extent := by decide
  rows := by decide
  bulk := by decide
  ref := by decide
  object := rfl
  lines := by decide
  own := by decide +kernel
  room := by decide
  records := by decide
  world := by decide
  cap := by decide
  lease := by decide
  space := by decide
  bounds := by decide +kernel
  fresh := by decide
  scratch := by decide
  stage := by decide

theorem witness_CopyWords : copyState.CopyReady .get .a 0 1 1 0 0 none ∧ copyState.CopyReady .xfer .b 1 0 0 0 0 none ∧
    copyState.CopyReady .bget .a 0 0 0 0 0 none ∧ (Instr.getc .a 0 1 1 0 0 0 255).wellFormed = true ∧ (Instr.xfer .b 1 0 0 0 0 0 0).wellFormed = true ∧
    (Instr.bget .a 0 0 0 0).wellFormed = true ∧ (Instr.pref .a 0).wellFormed = true ∧ (Instr.cflush .b 255).wellFormed = true ∧
    (let d := copyState.ctx.desc 0
     d.len ≠ 0 ∧ max d.rows.toNat 1 * d.len.toNat ≤ 2 ^ 24) :=
  ⟨copyReady_get, copyReady_xfer, copyReady_bget, by decide, by decide, by decide, by decide, by decide, by decide⟩

theorem witness_FencesAndAtomics : (Instr.fence 0 0 0 1 3).wellFormed = true ∧ (Instr.fenceall 4 1).wellFormed = true ∧
    (base.ctx.cReady 1 ∧ (base.ctx.cVal 1).tag = true) ∧ (Instr.aaddI64 63 1 8 1 1 1).wellFormed = true ∧ (Instr.acas2 62 1 8 1 0 0).wellFormed = true ∧
    base.ctx.xReady 8 ∧ base.ctx.xEmpty 63 = false ∧ base.outstanding < 1024 ∧ (base.ctx.cVal 1).allows .atom [.scratch, .local, .pool] 0 16 ∧
    base.Reaches (base.ctx.cVal 1) 0 16 { space := .scratch, obj := 0, off := 0, full := 0 } ∧
    base.mayWrite { space := .scratch, obj := 0, off := 0, full := 0 } :=
  ⟨by decide, by decide, by decide, by decide, by decide, by decide, by decide, by decide, by decide +kernel, reaches_scratch, by decide⟩

/-- The arrival object at byte 0, a SIGNAL into an empty ring, a window over all of an object's page 0, a harvest list, and a range of pages. -/
theorem witness_ObjectWords :
    base.ctx.xReady 0 ∧ resolveRef base base.ctx (base.placementOf base.ctx) (base.ctx.xVal 0) = .at { g := 0, byte := 0, ref := 0 } ∧
    base.ctx.xEmpty 63 = false ∧ -(2 ^ 39) ≤ (base.ctx.xVal 8).toInt ∧ (base.ctx.xVal 8).toInt < 2 ^ 39 ∧
    ((base.tenant 0).ring.isFull = false ∧ (base.tenant 0).ring.overflow = []) ∧
    (let v : Cap := { tag := true, bits := capBits 0 2 0 0xFFF 1 0 16 0x20000000000 }
     let s : State := { withCtx (fun c => { c with c := c.c.set 2 { cap := v } }) with tenants := [(0, { windows := [(3, { obj := 2, off := 0, size := 65536 })] })] }
     s.ctx.cReady 2 ∧ v.has .st = true ∧ v.space = 2 ∧ s.windowOf s.ctx.sys.tenant v = some 3 ∧ stale s v (v.cursor.toNat / 2 ^ 40) = false) ∧
    (base.ctx.cReady 3 ∧ (base.ctx.cVal 3).has .lease = true ∧ (base.ctx.cVal 3).space = 3 ∧
      stale base (base.ctx.cVal 3) ((base.ctx.cVal 3).cursor.toNat / 2 ^ 40) = false ∧ (base.ctx.xVal 9).toNat ≤ 2 ^ 20) ∧
    (let s : State := { base with tenants := [(0, { lists := [(64, [])] })] }
     (tabGet (s.tenant s.ctx.sys.tenant).lists (s.ctx.xVal 9).toNat).isSome = true) := by
  refine ⟨by decide, rfl, ?_⟩
  decide +kernel

/-- The largest and the smallest command, of a region that may be written and of one that is only read. -/
theorem witness_SealAndOpen :
    let v := someCap 2 0x20000000000
    let world (kind : BitVec 2) (n : Word) (form : Form) : State := { withCtx (fun c => { c with
        sys := { c.sys with world := 1 }, x := c.x.set 9 { val := n } }) with
      worlds := [(1, { tenant := 0, key := 0, regions := [(5, { kind := kind, state := 1, obj := 2, page0 := 0, pages := 4 })] })]
      lineMeta := if form = .plain then [] else (List.range 32).map (fun i => (i, { form := form })) }
    (∀ s ∈ [world 2 2048 .plain, world 1 1 .cipher, world 3 32 .cipher], s.ctx.sys.world ≠ 0 ∧ s.ctx.xReady 0 ∧ s.ctx.xReady 9 ∧ s.ctx.cReady 2 ∧
      s.ctx.cVal 2 = v ∧ s.ctx.xVal 0 = 0 ∧ 1 ≤ (s.ctx.xVal 9).toNat ∧ (s.ctx.xVal 9).toNat ≤ 2048 ∧ stale s v (v.cursor.toNat / 2 ^ 40) = false ∧
      (s.rangeRegion 1 v.cursor.toNat (s.ctx.xVal 9).toNat).isSome = true ∧ s.cr.cipherOf s.cr.cur < 4) ∧
    (boundsOf v).1 ≤ v.cursor.toNat ∧ v.cursor.toNat + 128 * 2048 ≤ (boundsOf v).2 ∧ v.cursor.toNat % 4096 = 0 ∧ v.has .cpout = true ∧ v.has .cpin = true ∧
    (∀ i < 2048, i < base.ctx.sys.allocSize.toNat ∧ ((world 2 2048 .plain).metaAt i).form = .plain ∧ ((world 2 2048 .plain).metaAt i).full = true) ∧
    (∀ i < 32, ((world 3 32 .cipher).metaAt i).form = .cipher ∧ (world 3 32 .cipher).lineFree i) := by
  decide +kernel

/-- A map of two tokens merged into one, in the first lines. -/
def mapState : State := { withCtx (fun c => { c with
    sys := { c.sys with mgMatch := true }
    x := (Vector.replicate 64 {}).set 10 { val := 2 ^ 23 + 64 * 65536 + 1984 } |>.set 11 { val := 64 * 65536 + 1984 } |>.set 12 { val := 2 ^ 13 + 4096 }
      |>.set 13 { val := 1 } |>.set 14 { val := 512 } |>.set 15 { val := 65536 + 1024 } }) with
  scratch := [(0, 2), (2, 1), (4, 2), (6, 1), (8320, 1), (16514, 1), (16518, 1)]
  merge := [(0, { entries := [(0, (0, 0))] })] }

theorem witness_MergeWords :
    (let s := base.modCtx (fun _ => mapState.ctx)
     (Instr.mgmatch 47 10 11).wellFormed = true ∧ s.ctx.xReady 10 ∧ (s.mergeAt 0).count s.g s.cr.cur < 4 ∧ (s.ctx.xVal 10).toNat % 2048 + 64 = 2048 ∧
       (s.ctx.xVal 10).toNat / 65536 % 128 = 64 ∧ (s.ctx.xVal 10).toNat / 2 ^ 23 % 2 = 1 ∧ (s.ctx.xVal 10).toNat / 2048 % 32 = 0 ∧
       (s.mergeAt 0).owner = none ∧ (s.mergeAt 0).claims = [] ∧ (s.mergeAt 0).selecting s.g s.cr.cur = false) ∧
    (let s := mapState
     let map := readMap s s.g 0
     (s.ctx.xVal 12).toNat / 2 ^ 13 = 1 ∧ (s.ctx.xVal 12).toNat < 2 ^ 14 ∧ (s.mergeAt 0).matching s.g s.cr.cur = false ∧ s.ctx.sys.mgMatch = true ∧
       mgselBad map (s.mergeAt 0) (s.ctx.xVal 13).toNat 4096 true = false ∧
       map.headerOk = true ∧ map.sizeOk = true ∧ map.lastOk = true ∧ map.posOk = true ∧ map.layers ≠ 0 ∧
       (∀ l ∈ mapLines 0, s.lineReady l ∧ s.lineFree l) ∧ (∀ l ∈ rowLines 512 1 map.oldn, s.lineReady l) ∧ (∀ l ∈ rowLines 1024 1 map.n0, s.lineFree l) ∧
       (s.ctx.xVal 15).toNat / 65536 = 1 ∧ (s.ctx.xVal 15).toNat % 65536 = 1024) := by
  decide +kernel

/-- `base` with an event at hand and operations in the queue of context 0. -/
def queue_ (e : Event) (ops : List MemOp) : State := (at_ e).modCtx (fun c => { c with mq := ops })

def own (off : Nat) : MAddr := { space := .scratch, obj := 0, off := off, full := 0 }

/-- A load of a signed word, and one of a capability. -/
theorem witness_LoadsReturn :
    (∀ k ∈ ([.load (own 0) 8 (.x 63 true), .load (own 128) 16 (.cap 31 true)] : List MemKind),
      let o : MemOp := { id := 1, kind := k }
      let s := queue_ (.loadReturn 0 1) [o]
      s.event = some (.loadReturn 0 1) ∧ s.queued 0 1 = some (o, []) ∧ s.bindsNow 0 1 [] k = true ∧ s.loadReady 0 1 (own 0) = true ∧
        s.loadReady 0 1 (own 128) = true) := by decide +kernel

/-- A store to the last bytes of a line of the scratchpad, and one to host memory. -/
theorem witness_StoresApply :
    (∀ a ∈ [own 124, { space := .host, obj := 0, off := 0 }],
      let o : MemOp := { id := 1, kind := .store a [1, 2, 3, 4] 0 }
      let s := queue_ (.storeApply 0 1) [o]
      s.event = some (.storeApply 0 1) ∧ s.queued 0 1 = some (o, []) ∧ s.appliesNow 0 1 [] o.kind = true ∧ s.loadReady 0 1 a = true ∧
        a.off % 128 + 4 ≤ 128 ∧ ∀ q ∈ (s.ctxAt 0).mq, q.kind.isRelease = false) ∧
    (let o : MemOp := { id := 1, kind := .store (own 0) [1] 0 }
     let s := queue_ (.storeApply 0 1) [o, { id := 2, kind := .release 2 [1] }]
     s.queued 0 1 = some (o, []) ∧ s.appliesNow 0 1 [] o.kind = true ∧ s.loadReady 0 1 (own 0) = true) ∧
    (let a : MAddr := { space := .local, obj := 2, off := 0, frame := 32768 }
     let o : MemOp := { id := 1, kind := .store a [1] 0 }
     let s := (queue_ (.storeApply 0 1) [o]).modCluster 0 (fun c => { c with cache := [{ obj := 2, line := 0, val := {}, cls := .own, gen := 0 }] })
     s.queued 0 1 = some (o, []) ∧ s.appliesNow 0 1 [] o.kind = true ∧ s.loadReady 0 1 a = true ∧ ((s.clusterAt (clusterOf s.g)).find 2 a.line).isSome = true) := by
  decide +kernel

/-- One state for each kind of operation that the statement names. -/
theorem witness_QueueEvents :
    (let o : MemOp := { id := 1, kind := .gather 63 (own 252) 4 7 }
     let s := queue_ (.gatherLand 0 1) [o]
     s.queued 0 1 = some (o, []) ∧ s.bindsNow 0 1 [] o.kind = true ∧ s.loadReady 0 1 (own 252) = true) ∧
    (let o : MemOp := { id := 1, kind := .atomic .aaddI64 (own 0) 1 63 0 1 }
     let s := queue_ (.atomicReturn 0 1) [o]
     s.queued 0 1 = some (o, []) ∧ s.bindsNow 0 1 [] o.kind = true ∧ s.appliesNow 0 1 [] o.kind = true ∧ s.lineOpen 0 1 0 0 = true ∧ s.writes = []) ∧
    (let a : MAddr := { space := .local, obj := 2, off := 128, frame := 32768 }
     let o : MemOp := { id := 1, kind := .atomic .axchg a 3 63 0 1 }
     let s := queue_ (.atomicReturn 0 1) [o]
     s.queued 0 1 = some (o, []) ∧ s.bindsNow 0 1 [] o.kind = true ∧ s.appliesNow 0 1 [] o.kind = true ∧ s.atomRetry a = false ∧
       (match performAtomic 0 1 (s.lineOpen 0 1 a.obj a.off) .axchg a 3 0 1 s with | some (t, some _) => decide (t.writes = []) | _ => false) = true) ∧
    (let a : MAddr := { space := .host, obj := 0, off := 0 }
     let o : MemOp := { id := 1, kind := .atomic .acas a 4 63 0 1 }
     let s := queue_ (.atomicFail 0 1 0x09) [o]
     s.queued 0 1 = some (o, []) ∧ s.bindsNow 0 1 [] o.kind = true ∧ s.appliesNow 0 1 [] o.kind = true ∧ ∃ code, atomicCanFail s 0 a code = true) ∧
    (let o : MemOp := { id := 1, kind := .release 4 [9] }
     let s := queue_ (.releaseComplete 0 1) [o]
     s.queued 0 1 = some (o, []) ∧ s.copyReleasing 0 1 = false ∧ s.reached (s.ctxAt 0) 4 9 = true) ∧
    (let o : MemOp := { id := 1, kind := .acquire 4 (some 9) }
     let s := queue_ (.acquireComplete 0 1) [o]
     s.queued 0 1 = some (o, []) ∧ (s.clusterAt (clusterOf s.g)).flash ≤ s.tnow.toNat) ∧
    (let r : ArrRef := { g := 0, byte := 0, ref := 0 }
     let s := queue_ (.arriveApply 0 1) [{ id := 1, kind := .ainit r 4095 }]
     sameObject [] r = false ∧ fullAt s r.g r.byte = true ∧ s.mergeReadsLine r.g (r.byte / 128) = false ∧ s.objectPlain r = true) ∧
    (let r : ArrRef := { g := 0, byte := 0, ref := 0 }
     let s := queue_ (.arriveApply 0 1) [{ id := 1, kind := .arrive r 63 63 0 0 [] }]
     arrExp (s.object r) = 0 ∧ s.copyReleasing 0 1 = false ∧ arriveReady s 0 [] = true ∧
       let t := s.setObject r (BitVec.ofNat 128 (63 * 256))
       arrExp (t.object r) = 63 ∧ arrReserved (t.object r) = false ∧ arrCnt (t.object r) = 0) ∧
    (let o : MemOp := { id := 1, kind := .signal 0 (.sweep) }
     let s := queue_ (.signalRecordWrite 0 1) [o]
     s.queued 0 1 = some (o, []) ∧ s.copyReleasing 0 1 = false) := by
  refine ⟨?_, ?_, ?_, ⟨?_, ?_, ?_, 0x09, ?_⟩, ?_, ?_, ?_, ?_, ?_⟩ <;> decide +kernel

/-- Writes at each step of their acknowledgement, a refused write, a line that is wanted, a pin whose time has passed, and a WAITPH at its bound. -/
theorem witness_MemorySystemEvents :
    (let w (a : MAddr) : WriteRec := { id := 1, g := 0, k := 0, cluster := 0, a := a, bytes := [1] }
     let s (v : WriteRec) : State := { at_ (.writeAck 1) with writes := [v] }
     let host : MAddr := { space := .host, obj := 0, off := 0 }
     let own2 : MAddr := { space := .local, obj := 2, off := 0, frame := 32768 }
     let pool3 : MAddr := { space := .pool, obj := 3, off := 0, frame := 32769 }
     let first (v : WriteRec) := (s v).writes.find? (fun o => o.id == v.id && o.copy.isNone) = some v ∧ (s v).event = some (.writeAck v.id)
     (first (w host) ∧ ({ s (w host) with cxl := true } : State).cxl = true ∧
       (let q := (s (w host)).modCtx (fun c => { c with mq := [{ id := 2, kind := .release 4 [1] }] })
        q.cxl = false ∧ (q.releaseWaits (w host)).find? (fun l => l.contains 1 &&
          !((q.coreAt 0).ctxs[(0 : BitVec 2).toNat]).mq.any (fun o => l.contains o.id && (w host).sameFunction o.kind)) = some [1]) ∧
       (let q := (s (w host)).modCtx (fun c => { c with state := .drain, drainRel := true })
        q.releaseWaits (w host) = [] ∧ q.mustAck (w host) = true)) ∧
     (∀ a ∈ [own2, pool3], first (w a) ∧ (s (w a)).writesBefore (w a) = [] ∧ ((s (w a)).clusterAt 0).cache = [] ∧
       (s (w a)).pinnedElsewhere 0 a = none ∧ (s (w a)).writeRefusal (w a) = none) ∧
     (first { w own2 with granted := true, drops := [7, 0] } ∧ first { w own2 with granted := true } ∧ first { w pool3 with granted := true }) ∧
     (let v : WriteRec := { w pool3 with granted := true, homeAcked := true }
      first v ∧ (s v).writeRefusal v = none ∧ (s v).writesBefore v = []) ∧
     (∀ v ∈ [({ w pool3 with granted := true, homeAcked := true } : WriteRec), w own2],
       let t : State := { s v with objects := (s v).objects.map (fun e => (e.1, { e.2 with gen := 1, homeGen := 1 })) }
       (t.writes.find? (fun o => o.id == v.id && o.copy.isNone && o.g == t.g)) = some v ∧ t.writeRefusal v = some .capStale)) ∧
    (let a : MAddr := { space := .local, obj := 2, off := 128, frame := 32768 }
     let s := queue_ (.lineFill 0 2 1) [{ id := 1, kind := .load a 8 (.x 8 false) }]
     clusterOf s.g = 0 ∧ s.wanted.find? (fun p => p.1.obj == 2 && p.1.line == 1) = some (a, 0) ∧ s.cacheHit 0 a = none ∧ s.pinnedElsewhere 0 a = none ∧
       (s.clusterAt 0).find 2 1 = none ∧ frameDie a.frame = dieOfCluster 0 ∧ s.oldAtHome a = false ∧ s.writes = [] ∧ (s.clusterAt 0).cache.length < 16 ∧
       (s.fillLine 0 a 16).isSome = true) ∧
    (let l : CLine := { obj := 2, line := 1, val := {}, cls := .own, gen := 0, pin := true, retrySince := some 0 }
     let s := ({ at_ (.pinRetryTimeout 0 (2 * 2 ^ 33 + 1)) with tnow := 2 ^ 20 } : State).modCluster 0 (fun c => { c with cache := [l] })
     (s.clusterAt 0).find 2 1 = some l ∧ l.retrySince = some 0 ∧ 2 ^ 20 ≤ s.tnow.toNat ∧ s.writes = []) ∧
    (let s : State := { at_ .ltTick with tnow := 4096 }
     s.lastTick ≠ s.tnow ∧ s.tnow.toNat % s.tstep.toNat = 0) ∧
    (let r : ArrRef := { g := 0, byte := 0, ref := 0 }
     let s := (at_ (.waitphTimeout 0)).modCtx (fun c => { c with waits := [.phase 63 r 0 (some 0)] })
     (s.ctxAt 0).waits.find? (fun w => match w with | .phase .. => true | _ => false) = some (.phase 63 r 0 (some 0)) ∧
       sameInit (s.ctxAt 0).mq r = false ∧ (s.object r).setWidth 4 = (0 : BitVec 4)) := by
  refine ⟨⟨?_, ?_, ?_, ?_, ?_⟩, ?_, ?_, ?_, ?_⟩ <;> decide +kernel

/-- An operation of each kind at its cycle, an MMA at its check, and one replayed whose check fails again. -/
theorem witness_LandingEvents :
    (∀ w ∈ ([.bypass .a 0, .lines [{ line := 0, data := 0, mask := 1 }], .fstat 31, .amax 0x7F800000,
        .gather [{ index := 0, write := { line := 0, data := 0, mask := 1 }, lanes := [], last := true },
          { index := 1, write := { line := 1, data := 0, mask := 1 }, lanes := [32], last := true }] 0 true, .mask 7 0, .xreg 63 0,
        .tileRows 47 [(63, 0)], .tileClear 47 true, .tileFree 0, .accepted 64, .mma 47 true [[0]] 1 true false 0 47] : List Landing),
      let f : Flight := { id := 1, k := 0, due := 0, what := w }
      let s : State := { base with cr := { base.cr with flights := [f] } }
      s.cr.flights.find? (fun o => o.id == 1) = some f ∧ (∀ o ∈ s.cr.flights, o.id = 1 → o = f) ∧ f.due ≤ s.cr.cyc) ∧
    (∀ again ∈ [false, true],
      let f : Flight := { id := 1, k := 0, due := 12, what := .mma 47 true [[0]] 1 true again 0 47 }
      let a : Flight := { id := 2, k := 0, due := 0, what := .accepted 1 }
      let s : State := { base with cr := { base.cr with flights := [f, a] } }
      s.cr.flights.find? (fun o => o.id == 1) = some f ∧ s.cr.cyc + 12 ≤ f.due ∧ (∀ o ∈ s.cr.flights, o.id = 1 → o = f) ∧
        a.unit_ = f.unit_ ∧ a.since = f.since ∧ ([[0]] : List (List VReg))[0]? = some [0] ∧ (decodeF 24 (laneAt 32 (0 : VReg) 0)).isNan = false ∧
        (lanesOf 32 (0 : VReg)).any (fun x => !(decodeF 24 x).isNan) = true) := by
  refine ⟨?_, ?_⟩ <;> decide +kernel

/-- A copy of one line of the context's own region, from line 1 to line 0, in the buffer of core 0. -/
def oneCopy (op : CopyOp) (phase : CopyPhase) (todo : List Nat) : Copy :=
  { id := 1, k := 0, op := op, phase := phase, desc := { cap := someCap (if op = .putr ∨ op = .bget then 3 else 1) (if op = .putr ∨ op = .bget then 0x30000000000 else 0)
                                                         off := if op = .putr ∨ op = .bget then 0 else 128, len := 128 }, todo := todo, lines := [0] }

def copyAt (e : Event) (m : Copy) : State := { at_ e with cr := { base.cr with copies := [m] } }

/-- A command in each phase, a request, and a piece of each operation that can be moved. -/
theorem witness_CopyEvents :
    ((copyAt (.timedEligible 1) (oneCopy .get .timed [0])).cr.copies.find? (fun o => o.id == 1) = some (oneCopy .get .timed [0]) ∧
      (base.ctxAt 0).state ≠ .evicting ∧ (oneCopy .get .timed [0]).desc.time.toNat ≤ (lclk base.tnow (base.ctxAt 0)).toNat) ∧
    (∀ op ∈ [CopyOp.get, .xfer], let s := copyAt (.copyActivate 1) (oneCopy op (.eligible 0) [0])
      (s.cr.copies.filter Copy.isActive).length < 16 ∧ ∀ o ∈ s.cr.copies, o.eligibleSince ≠ none → o.id = 1 ∨ (oneCopy op (.eligible 0) [0]).goesBefore o = true) ∧
    (∀ op ∈ [CopyOp.get, .put, .xfer], let m := oneCopy op .active [0]
      let s := copyAt (.copyLineLand 1 0) m
      m.nextPiece (s.channelOf m).isSome = some 0 ∧ pieceReady s m 0 = true ∧ s.engineRequests < 512 ∧ s.outstanding < 1024 ∧ s.hasTurn m = true) ∧
    (let m := { oneCopy .get .active [0] with reqs := [0] }
     let s := copyAt (.copyLineLand 1 0) m
     s.copyMayWrite 0 1 = true ∧ s.destSettled 0 1 (s.localAddr 0) 128 = true ∧ s.mayMove false = true ∧ badPart s 0 128 = false ∧
       s.cr.scrubs s.tnow 0 = false ∧ m.gotFor 0 = none ∧
       ((fetchInside m (m.desc.pieceAddr .get 0) 128 s).2.map Fetched.poison) = some false) ∧
    (let f : Fetched := { bytes := List.replicate 128 0 }
     let m (op : CopyOp) : Copy := { oneCopy op .active [0] with reqs := [0], got := [(0, f)] }
     let s (op : CopyOp) := copyAt (.copyLineLand 1 0) (m op)
     (∀ op ∈ [CopyOp.get, .put, .xfer, .putr], (m op).gotFor 0 = some f ∧ f.poison = false ∧ (s op).copyMayWrite 0 1 = true ∧ (s op).mayMove true = true) ∧
     (sendPut (m .put) 0 f (s .put)).isSome = true ∧
     (match xferKey (s .xfer) (m .xfer) 0 with | some key => xferOpen (s .xfer) (m .xfer) key 128 | none => false) = true ∧
     (let r : Reduction := { tenant := 0, obj := 3, off := 0, nelem := 32, bf16 := false, expect := 1, token := 0 }
      rowTarget ({ s .putr with reductions := [r] } : State) (m .putr) 0 = some r ∧ rowTarget (s .putr) (m .putr) 0 = none ∧
         let route : Route := { obj := 3, off := 0, nelem := 32, bf16 := false, root := 5 }
         let u := (s .putr).modLinks (fun l => { l with routes := [route], outs := [(5, { window := 16 })] })
         rowRoute u (m .putr) 0 = some route ∧ u.links.mayIssue 5 = true ∧ u.roomFor 1 = true)) ∧
    ((oneCopy .put .active []).todo = [] ∧ (oneCopy .put .active []).acks = [] ∧
      (let m := { oneCopy .put .releasing [] with rel := true }
       let s := copyAt (.copyComplete 1) m
       m.relWaits = [] ∧ s.earlierOps 0 1 = [] ∧ s.copyReleasing 0 1 = false)) ∧
    (let m := oneCopy .putr .active [0]
     let s := copyAt (.copyFail 1 0) m
     refusedWrite s 1 = none ∧ m.refused = false ∧ ((m.todo.take 4 ++ m.reqs).findSome? (pieceCause s m)).isSome = true ∧
       refusedWrite (copyAt (.copyFail 1 0x08) { m with refused := true }) 1 = none) ∧
    (let w (a : MAddr) : WriteRec := { id := 5, g := 0, k := 0, cluster := 0, a := a, bytes := [1], copy := some 1, granted := true }
     ∀ v ∈ [w { space := .host, obj := 0, off := 0 }, w { space := .local, obj := 2, off := 0, frame := 32768 }],
       let s : State := { copyAt (.copyAck 5) (oneCopy .put .active []) with writes := [v] }
       s.updates.find? (fun u => u.id == 5) = none ∧ s.writes.find? (fun o => o.id == 5 && o.copy.isSome && o.g == s.g) = some v ∧
         s.writeRefusal v = none ∧ (ackWrite v s).isSome = true) ∧
    (let u : ObjUpdate := { id := 5, ref := { g := 0, byte := 0, ref := 0 }, bytes := 128, er := false }
     let s : State := { at_ (.copyAck 5) with updates := [u] }
     s.updates.find? (fun u => u.id == 5) = some u ∧ u.arrive = false ∧ fullAt s 0 0 = true ∧ s.objectPlain u.ref = true) ∧
    (let m := oneCopy .get .active [0]
     let s := copyAt (.copyFail 1 0) m
     m ∈ s.cr.copies ∧ s.cr.copies.Pairwise (fun a b => a.id ≠ b.id) ∧ (s.ctxAt m.k).state ≠ .drain) := by
  refine ⟨?_, ?_, ?_, ?_, ⟨?_, ?_, ?_, ?_⟩, ?_, ?_, ?_, ?_, ?_⟩ <;> decide +kernel

/-- A pool object's page 1 that context 0 waits for, with a frame to spare or none. -/
def pageWaiting (e : Event) : State := (at_ e).modCtx (fun c => { c with state := .page, pageWait := some (.pool, 3, 1) })

theorem witness_TranslationEvents :
    (let w : Walk := { id := 1, cluster := 0, g := 0, k := 0, space := .pool, obj := 3, page := 0, gen := 0, version := 0 }
     let s : State := { at_ (.tlbWalkEnd 1) with walks := [w] }
     s.walks.find? (fun v => v.id == 1) = some w ∧ s.atWalker w = true ∧ w.version = s.version ∧ ({ s with version := 1 } : State).version ≠ w.version ∧
       s.genOf 4 = none ∧ s.genOf w.obj = some 0 ∧ (s.leafOf 3 0).state = .resident ∧ (s.leafOf 3 511).state = .invalid ∧
       ((s.modLeaf 3 0 (fun l => { l with state := .lost })).leafOf 3 0).state = .lost) ∧
    (let s := pageWaiting (.pageService 3 1)
     s.needsService 3 1 = true ∧ (s.tenant 0).pfmode = false ∧ s.freeFrame (s.placingDie 3 1) = some 32770) ∧
    (let s : State := { pageWaiting (.pageService 3 1) with tenants := [(0, { pfmode := true })] }
     s.needsService 3 1 = true ∧ (s.tenant 0).pfmode = true) ∧
    (clockPick base.clockOrder base).2 = some 32769 ∧
    (let v : PageService := { obj := 3, page := 1, pool := true, die := 0, frame := some 32770 }
     let s : State := { pageWaiting (.pageResident 3 1 none) with services := [v] }
     s.services.find? (fun v => v.obj == 3 && v.page == 1 && v.victim.isNone) = some v ∧ s.unservable 3 1 = false ∧ (s.ctxAt 0).waitsFor 3 1 = true ∧ (s.tenant 0).pfmode = false ∧ (tabGet s.objects 3).isSome = true) ∧
    (tabGet base.frames 1464842 = none ∧ ((1464842 : BitVec 25).toNat % 2 ^ 21 = 1464842)) ∧
    (let s : State := { pageWaiting (.pageServiceFail 3 1) with objects := [] }
     s.unservable 3 1 = true ∧ (s.resident.filter (fun c => c.2.2.waitsFor 3 1)).length = 1) ∧
    (base.mayShoot 3 0 = true ∧ base.mayShoot 2 0 = true ∧ tabGet base.frames 32770 = none ∧ tabGet base.frames 1464842 = none) ∧
    (∀ y ∈ [ShootFor.evict false, .setLost, .migrate 40000],
      let h : Shoot := { obj := 3, page := 0, why := y }
      let s : State := { at_ (.shootDownComplete 3 0) with shoots := [h] }
      s.shoots.find? (fun h => h.obj == 3 && h.page == 0 && h.why != ShootFor.revoke) = some h ∧ s.shootReady h = true) := by
  refine ⟨?_, ?_, ?_, ?_, ?_, ?_, ?_, ?_, ?_⟩ <;> decide +kernel

theorem firstFree_full (r : FrameRec) : ∀ n a lo hi, a ≤ lo → hi < a + n → firstFree lo hi ((List.range' a n).map (fun i => (i, r))) = none
  | 0, a, lo, hi, h, k => by simp [firstFree]; omega
  | n + 1, a, lo, hi, h, k => by
    simp only [List.range'_succ, List.map_cons, firstFree]
    split
    · rfl
    · split
      · exact firstFree_full r n (a + 1) lo hi (by omega) (by omega)
      · rw [if_pos (by omega)]
        exact firstFree_full r n (a + 1) (lo + 1) hi (by omega) (by omega)

theorem freeFrame_full (s : State) (r : FrameRec) (n : Nat) (hn : 2 ^ 25 ≤ n) (h : s.frames = (List.range' 0 n).map (fun i => (i, r))) : s.freeFrame 0 = none := by
  have one : ∀ die < 8, s.freeOnDie die = none := fun die hd => by
    simp only [State.freeOnDie, List.findSome?_cons, List.findSome?_nil, h]
    rw [firstFree_full _ _ _ _ _ (by omega) (by omega), firstFree_full _ _ _ _ _ (by omega) (by omega)]
  rw [State.freeFrame, List.findSome?_eq_none_iff]
  intro die hd
  exact one die (by simp at hd; omega)

/-- Every frame of the package is taken: a placement needs a victim. -/
theorem witness_TranslationEvents_full : ∃ s : State, s.event = some (.pageService 3 1) ∧ s.needsService 3 1 = true ∧ s.placingDie 3 1 = 0 ∧ s.freeFrame 0 = none := by
  obtain ⟨n, hn⟩ : ∃ n, 2 ^ 25 ≤ n := ⟨2 ^ 25, Nat.le_refl _⟩
  obtain ⟨f, h⟩ : ∃ f : Tab FrameRec, f = (List.range' 0 n).map (fun i => (i, { pool := true, obj := 3, page := 0 })) := ⟨_, rfl⟩
  have one : ∀ (s : State) (f : Tab FrameRec), ({ s with frames := f } : State).needsService 3 1 = s.needsService 3 1 ∧
      ({ s with frames := f } : State).placingDie 3 1 = s.placingDie 3 1 := fun _ _ => ⟨rfl, rfl⟩
  exact ⟨{ pageWaiting (.pageService 3 1) with frames := f }, rfl, (one _ f).1.trans (by decide +kernel), (one _ f).2.trans (by decide +kernel),
    freeFrame_full _ _ n hn h⟩

theorem witness_ObjectEvents :
    (∃ m, tabGet base.objects 3 = some m ∧ m.deleted = false ∧ m.retired = false ∧ m.gen ≠ 255 ∧ m.pool = true ∧ m.homeGen ≠ 255) ∧
    (let h : Shoot := { obj := 3, page := 0, why := .revoke }
     let s : State := { at_ (.revokeComplete 3) with shoots := [h] }
     s.shoots.find? (fun h => h.obj == 3 && h.why == ShootFor.revoke) = some h ∧ h.waits = []) ∧
    (tabGet base.objects 4 = none ∧ base.numberFree 4 = true ∧ (2 ^ 24 - 1 : BitVec 24) ≠ 0) ∧
    (∀ e ∈ base.frames, e.2.extentPins = 0 ∧ e.2.copyPins = 0) ∧
    (let r : Range := { space := 3, obj := 3, base := 0x30000000000, top := 0x30000010000 }
     let o : MemOp := { id := 1, kind := .harv 63 r 0 9 }
     let s := queue_ (.harvestComplete 0 1) [o]
     s.queued 0 1 = some (o, []) ∧ r.base < r.top ∧ (tabGet s.objects 3).isSome = true) := by
  refine ⟨⟨_, rfl, rfl, rfl, ?_, rfl, ?_⟩, ?_, ?_, ?_, ?_⟩ <;> decide +kernel

theorem witness_MergeEvents :
    (∀ x ∈ ([.match_ 47 0 64 0 64 true, .sel 0 1 4096 true, .merge 0 512 1024 1, .unmerge 0 512 1024 1, .logs 0 512] : List MgKind),
      let m : MgCmd := { id := 1, g := 0, k := 0, base := 0, kind := x, started := some 0, cycles := 0 }
      let s : State := { at_ (.mgCommandComplete 0) with merge := [(0, { queue := [m] })] }
      (s.mergeAt 0).queue = [m] ∧ ((0 : Word) + BitVec.ofNat 64 m.cycles).toNat ≤ s.tnow.toNat) ∧
    (let s : State := { at_ (.mergeClaim 0) with merge := [(0, { claims := [(0, 0, 0, 0)] })] }
     s.liveClaims 0 = [(0, 0, 0, 0)] ∧ (s.mergeAt 0).owner = none) ∧
    (let s : State := { at_ (.mergeClaim 0) with merge := [(0, { owner := some (0, 3), claims := [(0, 0, 0, 0)] })] }
     s.liveClaims 0 = [(0, 0, 0, 0)] ∧ (s.mergeAt 0).matching 0 3 = false ∧ ((s.coreAt 0).ctxs[(3 : BitVec 2).toNat]).state = .free) ∧
    (let s : State := { at_ (.mergeClaimTimeout 0) with tnow := 65536, merge := [(0, { owner := some (0, 0), claims := [(0, 0, 0, 0)] })] }
     s.liveClaims 0 = [(0, 0, 0, 0)] ∧ (s.mergeAt 0).matching 0 0 = false ∧ max (s.mergeAt 0).ownerCmd.toNat 0 + 65536 ≤ s.tnow.toNat) := by
  refine ⟨?_, ?_, ?_, ?_⟩ <;> decide +kernel

/-- A world with a writable region of one page. -/
def worldState (e : Event) (r : Region) : State := { at_ e with worlds := [(1, { tenant := 0, key := 0, regions := [(63, r)] })] }

/-- A read-only region of object 2, page 0: the digest of 4096 zeros, and the digest of that and seven zero digests, as FIPS 180-4's own tools
give them (R477). -/
def programRegion : Region := {
  kind := 3, state := 1, obj := 2, page0 := 0, pages := 1
  leaves := [0xA72C89488BBDDA857A7CB47CFF05584F026BD1D1D704C066E9C66F58B2AC7FAD]
  root := 0xE8B75D86CCC58E72A819FCA04FB618E981147479567660D1FD9BABF98CABE320 }

theorem witness_WorldEvents :
    (∀ o ∈ [false, true],
      let j : CipherJob := { id := 1, k := 0, open_ := o, first := 0, count := 2048, world := 1, region := 63, index := 0 }
      let s := worldState (.cipherLineDone 1) { kind := 2, state := 1, obj := 2, pages := 4 }
      let t : State := { s with cr := { s.cr with cipher := [j] } }
      t.cr.cipher = [j] ∧ (t.region 1 63).state ≠ 2) ∧
    ((worldState (.rekey 1 63) { kind := 2, state := 2, obj := 2, pages := 4 }).region 1 63).rekeyed = false ∧
    (let s := (worldState (.rekey 1 63) { kind := 2, state := 2, obj := 2, pages := 4 }).modCluster 0 (fun c => { c with
         cache := [{ obj := 2, line := 0, val := {}, cls := .own, gen := 0, pin := true }] })
     s.pinnedIn 2 0 (s.region 1 63).span = true ∧ (s.retryPins 2 0 (s.region 1 63).span).isSome = true) ∧
    ((worldState (.rekeyComplete 1 63) { kind := 2, state := 2, rekeyed := true }).region 1 63).rekeyed = true ∧
    tabGet base.worlds 15 = none ∧
    (tabGet (worldState (.worldDestroy 1) {}).worlds 1).isSome = true ∧ (∀ c ∈ base.cores, c.2.world ≠ 1) ∧
    (let s : State := { State.reset with event := some (.coreClear 0), cr := { clearing := true, world := 1 } }
     (s.coreAt 0).clearing = true ∧ ∀ k : BitVec 2, ((s.coreAt 0).ctxs[k.toNat]).state = .free) ∧
    (let l : Launch := { tenant := 0, number := 7, header := 0 }
     let s : State := { State.reset with launches := [l] }
     s.launches.find? (fun l => l.tenant.toNat * 2 ^ 32 + l.number.toNat == 7) = some l) ∧
    (∀ obj ∈ [2, 4],
      let l : Launch := { tenant := 0, number := 7, header := BitVec.ofNat 1024 (2 ^ 8 + obj * 2 ^ 72) }
      let s : State := { State.reset with worlds := [(1, { tenant := 0, key := 0, regions := [(63, { kind := 3, state := 1, obj := 2, page0 := 0, pages := 1 })] })] }
      l.world = 1 ∧ l.program = (obj, 0, 1) ∧ (s.coreAt 0).clearing = false ∧ (s.coreAt 0).world = 0 ∧ (∀ k : BitVec 2, ((s.coreAt 0).ctxs[k.toNat]).state = .free) ∧
        (s.coreAt 0).holds l.image = false ∧ (s.rangeRegion 1 (obj * 2 ^ 40) 1).isSome = (obj == 2)) ∧
    (tabGet (worldState (.spdmGetMeasurements 0x11) {}).worlds 1).map World.meas = some 0 ∧
    (let p : RegionSpec := { index := 63, kind := 3, obj := 2, page0 := 1, pages := 65536, root := 0, head := 0, leaves := [] }
     let t : Tab Region := [(0, { kind := 3, obj := 2, page0 := 0, pages := 1 })]
     p.sound base = true ∧ p.kind = 3 ∧ tabGet t p.index = none ∧ (∀ e ∈ t, e.2.page0 + e.2.pages ≤ p.page0) ∧
       (∃ e ∈ t, e.1 ≠ 63 ∧ e.2.obj = p.obj ∧ 0 < e.2.page0 + e.2.pages ∧ e.2.page0 < 0 + p.pages)) := by
  refine ⟨?_, ?_, ?_, ?_, ?_, ?_, ?_, ?_, ?_, ?_, ?_, ?_⟩ <;> decide +kernel

theorem witness_WorldEvents_programLoad :
    leafVerifies programRegion 0 (byteNats (base.homeRead false 2 0 4096)) = true := by decide +kernel

/-- A lease of page 0 of object 3 that this package's tenant 0 holds, at its home and in its unit. -/
def leased (e : Event) (now : Word) : State := { at_ e with
  tnow := now
  homeLeases := [{ package := 0, tenant := 0, obj := 3, page := 0, count := 1, write := true, token := 16, term := 2000, until_ := 3000000 }]
  leases := [{ obj := 3, page := 0, count := 1, write := true, token := 16, term := 2000, expiry := 2900000, tenant := 0, owners := [some 7] }]
  launches := [{ tenant := 0, number := 7, header := 0 }] }

theorem witness_LeaseEvents :
    (let r : Range := { space := 3, obj := 3, base := 0x30000000000, top := 0x30000010000 }
     let sent : LeaseSent := { now := 0, lt := 0, gen := 0 }
     let o (what : Nat) (arg : Word) : MemOp := { id := 1, kind := .lease what 63 r true arg sent none }
     (let s := queue_ (.leaseGrant 0 1) [o 0 2000]
      s.queued 0 1 = some (o 0 2000, []) ∧ s.bulks = [] ∧ s.cr.copy 1 = none ∧ r.pages = some (0, 1) ∧
        (s.acquireLease 0 3 0 1 true 2000 sent none).2.toOption.isSome = true) ∧
     (let s : State := { queue_ (.leaseGrant 0 1) [o 0 2000] with homeLeases := [{ package := 1, tenant := 0, obj := 3, page := 0, count := 1, write := true
                                                                                   token := 16, term := 2000, until_ := 3000000 }] }
      (s.acquireLease 0 3 0 1 true 2000 sent none).2.toOption.isNone = true) ∧
     (let s : State := { queue_ (.leaseAcquireTimeout 0 1) [o 0 2000] with tnow := 96000 }
      s.queued 0 1 = some (o 0 2000, []) ∧ (0 : Word).toNat + 96000 ≤ s.tnow.toNat) ∧
     (let s := (leased (.leaseReleaseResponse 0 1) 0).modCtx (fun c => { c with mq := [o 2 16] })
      s.queued 0 1 = some (o 2 16, []) ∧ (s.heldLease 0 r 16).isSome = true ∧ s.heldLease 0 r 17 = none)) ∧
    (base.regionsFull 0 3 0 1 = false ∧ base.leaseEntries 3 < 4096 ∧ base.pageTokens = [] ∧ base.liveLeases = [] ∧ base.olderGen 3 0 = false ∧
      ({ base with objects := base.objects.map (fun e => (e.1, { e.2 with homeGen := 1 })) } : State).olderGen 3 0 = true) ∧
    (let r : Renewal := { id := 5, tenant := 0, obj := 3, page := 0, count := 1, token := 16, sent := { now := 0, lt := 0, gen := 0 }, hw := true }
     let s : State := { leased (.leaseRenewResponse 5) 0 with renewals := [r] }
     s.renewals.find? (fun r => r.id == 5) = some r ∧ s.leases.any (fun l => l.isOf 0 3 0 1 16 && s.tnow.toNat < l.expiry) = true ∧
       (({ s with renewals := [] } : State).homeRenew r).isSome = true ∧ (({ s with renewals := [] } : State).homeRenew { r with token := 17 }).isNone = true) ∧
    (((leased (.leaseExpiry 16) 2900000).leases.find? (fun l => l.token == 16 && l.expiry ≤ 2900000)).isSome = true) ∧
    (let s := leased (.leaseRenewalDue 16) 2900000
     (s.leases.find? (fun l => l.token == 16 && !l.noticed && l.halfTerm s.tnow.toNat && s.forLaunch l)).isSome = true) ∧
    (∃ l ∈ (leased (.hostLeaseRenewal 3 0 16) 0).leases, l.obj = 3 ∧ l.page = 0 ∧ l.token = 16 ∧ l.owners.any Option.isSome = true) := by
  refine ⟨⟨?_, ?_, ?_, ?_⟩, ?_, ?_, ?_, ?_, ?_⟩ <;> decide +kernel

theorem witness_JasperEvents :
    (let b : BulkGet := { id := 1, tenant := 0, launch := 7, entry := 0, kind := 2, obj := 3, pages := [0, 1], first := 0, count := 2 }
     let s : State := { at_ (.leaseGrant 0 1) with bulks := [b] }
     let t : State := { s with objects := [] }
     s.bulks.find? (fun b => b.id == 1) = some b ∧ b.kind ≠ 0 ∧ b.granted = false ∧ b.retryAt = none ∧ b.stuck = false ∧
       b.sent.now.toNat + 96000 ≤ ({ s with tnow := 96000 } : State).tnow.toNat ∧ (s.acquireLease 0 3 0 2 true 2000 b.sent (some 7)).2.toOption.isSome = true ∧
       s.rangeAbsent 3 [0, 1] = false ∧ ([0, 1].filter (fun p => (s.leafOf 3 p).state != .resident)).length ≠ 2 ∧ t.rangeAbsent 3 [0, 1] = true) ∧
    (let m : Copy := { oneCopy .bget .active [0] with desc := { (oneCopy .bget .active [0]).desc with rows := 1 } }
     let s := copyAt (.leaseGrant 0 1) m
     s.cr.copy 1 = some m ∧ s.rekeyHolds m = false ∧ m.desc.rows ≠ 0 ∧ m.granted = false ∧ m.desc.bgetPages = [0] ∧
       (s.acquireLease 0 3 0 1 false 2000 { now := 0, lt := 0, gen := 0 } none).2.toOption.isSome = true) ∧
    (let m := oneCopy .bget .active [0]
     let s := copyAt (.bulkGetPage 1) m
     m.desc.rows = 0 ∧ m.todo.find? (fun p => (s.leafOf 3 p).state == .resident) = some 0) ∧
    (let l : Launch := { tenant := 0, number := 7, header := 0, checked := true }
     let s : State := { at_ (.jasperWalk 7) with launches := [l] }
     s.launch 7 = some l ∧ l.running = true ∧ s.bulks = []) ∧
    (let l : Launch := { tenant := 0, number := 7, header := 0, checked := true, operands := [{ off := 0, len := 65536, obj := 3, space := 3, acc := 0, lease := 0
                                                                                                bounce := false, chan := 0 }] }
     let b : BulkGet := { id := 1, tenant := 0, launch := 7, entry := 2 ^ 20, kind := 0, obj := 3, pages := [], first := 0, count := 1 }
     let s : State := { (at_ (.jasperWalk 7)).modLeaf 3 0 (fun l => { l with state := .lost }) with launches := [l], bulks := [b] }
     (l.gets.find? (fun g => !base.bulks.any (fun b => b.serves l g))).isSome = true ∧ (∀ g ∈ l.gets, ∃ b ∈ s.bulks, b.serves l g = true) ∧
       s.lostPages b = [0] ∧ s.bulkRoom 3 = true) ∧
    (let b : BulkGet := { id := 1, tenant := 0, launch := 7, entry := 0, kind := 1, obj := 3, pages := [], first := 0, count := 0, retryAt := some 0 }
     (match b.retryAt with | some t => decide (t.toNat ≤ base.tnow.toNat) | none => false) = true) ∧
    (let s : State := { at_ (.checkpointJob true 0 5 2 4) with tenants := [(0, { lists := [(5, [(3, 0)])] })] }
     tabGet (s.tenant 0).lists 5 = some [(3, 0)]) ∧
    (∀ l ∈ ([[], [(3, 0)]] : List (List (Nat × Nat))),
      let j : Job := { tenant := 0, list := l, src := 3, dst := 4 }
      ([j].find? (fun j => j.src % 2 == (3 : BitVec 24).toNat % 2)) = some j) := by
  refine ⟨?_, ?_, ?_, ?_, ?_, ?_, ?_, ?_⟩ <;> decide +kernel

theorem witness_GangEvents :
    (∃ c ∈ base.gangCtxs (base.ctxAt 0).gangKey, c.2.2.evictable = true) ∧
    (let s := (at_ (.evictionComplete 0)).modCtx (fun c => { c with state := .evicting })
     (s.ctxAt 0).state = .evicting ∧ s.quietCtx 0 = true ∧ s.gangCopies (s.ctxAt 0).gangKey = false ∧ s.linesWanted s.g (s.ctxAt 0) = false ∧ s.writesOf 0 = false ∧
       (s.ctxAt 0).drainRel = false ∧ (let u := s.modCtx (fun c => { c with drainRel := true })
         (u.ctxAt 0).drainRel = true ∧ u.writesOf 0 = false ∧ u.linesWanted u.g (u.ctxAt 0) = false) ∧
       (let w : WriteRec := { id := 1, g := 0, k := 0, cluster := 0, a := { space := .local, obj := 2, off := 0, frame := 32768 }, bytes := [1] }
        let u := ({ s with writes := [w] } : State).modCluster 0 (fun c => { c with cache := [{ obj := 2, line := 0, val := {}, cls := .own, gen := 0, pin := true }] })
        u.quietCtx 0 = true ∧ u.gangCopies (u.ctxAt 0).gangKey = false ∧ u.writesOf 0 = true ∧ (u.clusterAt 0).cache.any CLine.pin = true)) ∧
    (let i : GangImage := { tenant := 0, launch := 7, gang := 0, ctxs := [], lines := [], tileRows := [], copies := [] }
     let s : State := { at_ (.gangRestore i.key) with images := [i] }
     s.images.find? (fun x => x.key == i.key) = some i ∧ i.alive = [] ∧ s.launches = [] ∧ (restoreGang i.key s).isSome = true) ∧
    (let i : GangImage := { tenant := 0, launch := 7, gang := 0, ctxs := [someCtx], lines := [], tileRows := [], copies := [] }
     let s : State := { at_ (.gangReserve i.key) with images := [i], passed := [(i.key, 0)], tnow := 2 ^ 16 }
     tabGet s.passed i.key = some 0 ∧ s.gangLevel i.key = some someCtx.prio ∧ s.reserved = none ∧ 2 ^ 16 ≤ s.tnow.toNat) ∧
    (∀ r ∈ [false, true],
      let s := (at_ (.drainComplete 0)).modCtx (fun c => { c with state := .drain, drainRel := r })
      (s.ctxAt 0).state = .drain ∧ s.quietCtx 0 = true ∧ s.cr.copies = [] ∧ s.writesOf 0 = false ∧ s.linesWanted s.g (s.ctxAt 0) = false) := by
  refine ⟨?_, ?_, ?_, ?_, ?_⟩ <;> decide +kernel

/-- A mapped queue whose ring lies in object 2. -/
def someQueue : Queue := { tenant := 0, q := 255, mapped := true, pi := 1, base := 0x20000000000 }

theorem witness_DispatchEvents :
    (let s : State := { at_ .dispatchOpportunity with queues := [someQueue] }
     s.power = .run ∧ s.stopped = false ∧ s.askPins = none ∧ s.launches = [] ∧
       s.queues.find? (fun q => s.wantsHead q && s.readable (s.headReads q)) = some someQueue) ∧
    (base.queues.find? (fun q => base.wantsHead q && base.readable (base.headReads q)) = none ∧ base.askPins = none ∧ base.turn = none) ∧
    (base.queue 255 = none ∧ (({ tenant := 0, q := 255, mapped := false } : Queue).unmapped = none) ∧
      (let s : State := { at_ (.doorbellNotify 0 255 17) with queues := [someQueue] }
       s.queue 255 = some someQueue ∧ 2 ^ someQueue.log2size.toNat < (17 - someQueue.ci).toNat ∧ (2 - someQueue.ci : BitVec 32).toNat ≤ 16)) ∧
    (let d : BitVec 512 := 0x20000000000 + 4 * 2 ^ 64
     (∀ q ∈ [({ tenant := 0, q := 255, unmapped := some 1, desc := d } : Queue), { tenant := 0, q := 255, pend := 43, pv := true, desc := d },
         { tenant := 0, q := 255, unmapped := some 1, disabled := true, rewritten := true, desc := d }],
       let s : State := { at_ (.queueMap 0 255 none) with queues := [q] }
       s.queue 255 = some q ∧ s.freeSlot = some 0 ∧ q.mapped = false ∧ (∀ o ∈ s.queues, o.tenant = 0 → s.idleQueue o = false) ∧
         (q.unmapped ≠ none ∨ q.pv = true) ∧ (q.disabled = false ∨ q.rewritten = true) ∧ descBad q.desc = false ∧ s.ownsLocal 0 2 0 (16 * 2 ^ 4) = true) ∧
       descBad 0 = true ∧ base.ownsLocal 0 3 0 (16 * 2 ^ 4) = false) ∧
    (let q : Queue := { tenant := 0, q := 255, unmappedAt := some base.tnow }
     let s : State := { at_ (.doorbellNotify 0 255 43) with queues := [q] }
     s.queue 255 = some q ∧ q.mapped = false ∧ q.unmappedAt = some s.tnow ∧ (43 : BitVec 32) ≠ q.pi ∧ (43 - q.pi : BitVec 32).toNat < 2 ^ 31) ∧
    (let p : Queue := { someQueue with pi := 0 }
     let s : State := { at_ (.queueUnmap 0) with queues := [p, { tenant := 1, q := 0, unmapped := some 1 }], tnow := 2 ^ 40 }
     s.queues.find? (fun q => q.mapped && q.slot = 0) = some p ∧ s.idleQueue p = true ∧
       (∃ o ∈ s.queues, o.mapped = false ∧ (o.unmapped.isSome = true ∨ o.pv = true))) ∧
    (let r := (base.tenant 0).ring
     (0 - r.ci).toNat ≤ (r.evpi - r.ci).toNat) ∧
    (let s : State := { base with hbm := [(32768 * 65536, 32)] }
     let l := s.readLaunch 0 2 0
     tabGet s.armed 0 = none ∧ s.ownsObject 0 2 = true ∧ l.f 5 5 = 1 ∧ l.f 227 216 = 0 ∧ l.world = 0 ∧ s.badSteps l 2 = false) ∧
    (let a : ArmedTag := { tenant := 0, prio := 0, obj := 2, off := 0 }
     tabGet ({ at_ (.disarmTag 0xFFFF 0) with armed := [(0xFFFF, a)] } : State).armed 0xFFFF = some a ∧ a.tenant = 0 ∧ a.busy = false ∧ ({ a with busy := true } : ArmedTag).busy = true ∧
       1 ≤ (List.replicate 4096 (0 : BitVec 8)).length ∧ (List.replicate 4096 (0 : BitVec 8)).length ≤ 4096) := by
  refine ⟨?_, ?_, ?_, ?_, ?_, ?_, ?_, ?_, ?_⟩ <;> decide +kernel

theorem witness_HostEvents :
    (0x100400 ≤ 0x100800 ∧ channelField 0x100800 = none ∧ mailboxAt 0x100800 = false ∧ mailboxAt 0x1FFFF8 = true ∧ ∃ off < 2 ^ 21, 0x100000 ≤ off ∧ (channelField off).isSome = true) ∧
    (let c : Channel := { size := 128 }
     (c.halted = false ∧ 2 ^ 63 ≤ ((-1 : Word) - c.resync).toNat ∧ ¬2 ^ 63 ≤ ((0 : Word) - c.resync).toNat ∧ c.size < (0 - 1 : Word).toNat)) ∧
    (tabGet (base.tenant 0).windows 15 = none ∧ base.ownsLocal 0 2 0 65536 = true ∧
      (let w : HostWindow := { obj := 2, off := 0, size := 65536 }
       ∀ p ∈ w.span, (base.leafOf 2 p).state = .resident)) ∧
    (let w : HostWindow := { obj := 2, off := 0, size := 65536 }
     let s : State := { at_ (.windowClose 0 15) with tenants := [(0, { windows := [(15, w)] })] }
     tabGet (s.tenant 0).windows 15 = some w ∧ s.hwinPending 0 15 none = false) ∧
    base.noCredit 0 63 [some 1, none, some 2] false = false := by
  refine ⟨⟨by decide, by decide +kernel, by decide, by decide, ?_⟩, ?_, ?_, ?_, ?_⟩
  · exact ⟨0x1803FF, by decide, by decide, by decide +kernel⟩
  all_goals decide +kernel

/-- A flit of a type for this package. -/
def someFlit (type : Nat) : BitVec 96 := BitVec.ofNat 96 (type * 2 ^ 84)

theorem witness_LinkEvents :
    (∀ type ∈ [0, 1, 3, 4, 5, 6, 7],
      let h := someFlit type
      let q := base.links.port 31
      q.up = true ∧ q.spoiled = 0 ∧ hf h 95 88 = q.rxSeq.toNat ∧ hf h 87 84 = type ∧ hf h 15 0 = 0 ∧ hf h 23 16 ≤ 240 ∧ hf h 79 68 = base.links.self ∧
        q.discarding = false ∧ base.links.noRoom 1 h = false) ∧
    (∃ crc, crc32 (flitBytes (someFlit 2) []) ≠ crc) ∧ hf (BitVec.ofNat 96 (2 * 2 ^ 84 + 5 * 2 ^ 68)) 79 68 ≠ base.links.self ∧
    (let h := BitVec.ofNat 96 (5 * 2 ^ 84 + 6 * 2 ^ 16)
     let body : List (BitVec 8) := ([1, 255, 255, 255, 255, 0, 9] : List (BitVec 8)).take (hf h 23 16)
     ∃ m, body = 1 :: m) ∧
    (∃ i : PairIn, i.early = [] ∧ i.next = 0) ∧ (2 ^ 31 ≤ (0xFFFFFFFF - (0 : BitVec 32)).toNat ∧ 2 ^ 31 ≤ (0x80000000 - (0 : BitVec 32)).toNat) ∧
    (let h' := BitVec.ofNat 96 (2 ^ 24)
     let i : PairIn := { early := [(0, h', [])] }
     flitSeq 0 = i.next ∧ flitSeq h' = i.next + 1) ∧
    (let u := base.modIn 5 (fun i => { i with ready := [(someFlit 3, [])] })
     (u.links.inOf 5).ready = [(someFlit 3, [])] ∧ hf (someFlit 3) 87 84 = 3 ∧ hf (someFlit 2) 87 84 ≠ 3) ∧
    (let s : State := { base with links := { base.links with ports := [(0, { replay := [(0, [1])] })] } }
     let u := s.modLinks (fun l => { l with tables := 0x1FFF1 })
     s.links.torus = false ∧ u.links.torus = true ∧ u.links.portsTo 2 ≠ [] ∧
       (u.links.portFor 2 none { id := 1, ld := 0, header := someFlit 2, payload := [] }).isSome = true ∧
       (s.links.port 0).replay.dropWhile (fun f => hf f.1 95 88 != 0) = [(0, [1])]) ∧
    (({ base with links := { base.links with ports := [(0, { txMap := 0x7F })] } } : State).links.port 0).up = false ∧
    (tabGet base.links.held (31 / 16) = none ∧ base.supervisors = [] ∧
      (let s : State := { base with tenants := [(0, { otmode := true })] }
       s.supervisors ≠ [] ∧ (s.tenant 0).otmode = true)) ∧
    (let s : State := { base with tnow := 15000, links := { base.links with changes := [{ port := 31, tx := true, fibre := 3, set := 0, clear := 1, at_ := 15000 }] } }
     ∃ c ∈ s.links.changes, c.at_.toNat ≤ s.tnow.toNat) ∧
    (let s : State := { base with tnow := 75000, links := { base.links with held := [(1, (0, false))] } }
     tabGet s.links.held 1 = some (0, false) ∧ (0 : Word).toNat + 75000 ≤ s.tnow.toNat) ∧
    (let f : OutFlit := { id := 1, ld := 1, header := 0, payload := [] }
     let s : State := { base with links := { base.links with outs := [(5, { seq := 1, kept := [f], window := 16 })], slot := 15 } }
     let o := s.links.out 5
     ((0 : BitVec 32) - o.acked).toNat < 2 ^ 31 ∧ ((0 : BitVec 32) - o.acked).toNat < (o.seq - o.acked).toNat ∧ s.links.round < 1 ∧ 1 ∉ s.links.requested ∧
       f ∈ o.unsent) ∧
    (let s : State := { base with tnow := 375, links := base.links }
     s.links.slotAt.toNat + 375 ≤ s.tnow.toNat ∧ s.links.slot < 16) ∧
    (0 < (BitVec.ofNat 32 (hf (BitVec.ofNat 96 (5 * 2 ^ 24)) 55 24) - ({} : PairIn).next).toNat ∧
      (BitVec.ofNat 32 (hf (BitVec.ofNat 96 (5 * 2 ^ 24)) 55 24) - ({} : PairIn).next).toNat < 2 ^ 31 ∧ 16 < 2 ^ 16) := by
  refine ⟨?_, ?_, ?_, ⟨_, rfl⟩, ⟨{}, by decide⟩, ?_, ?_, ?_, ?_, ?_, ?_, ?_, ?_, ?_, ?_, ?_⟩
  pick_goal 2
  · exact Classical.byContradiction fun h => absurd ((not_not.1 (not_exists.1 h 0)).symm.trans (not_not.1 (not_exists.1 h 1))) (by decide)
  all_goals decide +kernel

theorem witness_TopologyEvents :
    (base.links.change = none ∧ base.links.outs = [] ∧
      (let s : State := { base with links := { base.links with outs := [(5, { kept := [{ id := 1, ld := 0, header := 0, payload := [] }] })] } }
       ∃ o ∈ s.links.outs, s.links.affected 1 o.1 = true ∧ o.2.kept ≠ [])) ∧
    (∀ mine ∈ [true, false],
      let c : TopoChange := { coord := 9, tables := 3, since := 0, coordinator := mine, prepared := !mine }
      let s : State := { base with tnow := 15000000, links := { base.links with change := some c, decisions := [(3, true)] } }
      s.links.change = some c ∧ c.coordinator = mine ∧ (3 : BitVec 12).toNat ≠ c.coord ∧ c.since.toNat + 1500000 < s.tnow.toNat ∧
        c.asked.toNat + 150000 ≤ s.tnow.toNat ∧ c.raised = false ∧ c.heard.toNat + 15000000 ≤ s.tnow.toNat ∧ s.links.affected c.tables 5 = true ∧
        s.links.decisions = [] ++ [(3, true)]) ∧
    ((0x100000 : BitVec 21) ≠ 0 ∧ (0x100000 : BitVec 21).toNat ≤ 2 ^ 20 ∧ (0xFFFF : BitVec 16) ≠ 0 ∧ (tabGet base.objects 3).map ObjMap.pool = some true ∧
      (tabGet base.objects 3).map ObjMap.stands = some true ∧ base.reductions = [] ∧ base.slotsUsed 3 + 2 ^ 20 ≤ 2 ^ 20 ∧
      (let s : State := { base with reductions := [{ tenant := 0, obj := 5, off := 0, nelem := 1, bf16 := false, expect := 1, token := 0 }] }
       2 ^ 20 < s.slotsUsed 3 + 2 ^ 20)) ∧
    (let r : Reduction := { tenant := 0, obj := 3, off := 0, nelem := 32, bf16 := false, expect := 2, token := 0, elems := [(31, {}), (30, { cnt := 1 }), (29, { cnt := 2 })] }
     let pl : List (BitVec 8) := [3, 0, 0, 0, 0, 0, 0, 0] ++ List.replicate 128 0
     let s := ({ base with reductions := [r] } : State).modIn 5 (fun i => { i with ready := [(someFlit 3, pl)] })
     (s.links.inOf 5).ready = [(someFlit 3, pl)] ∧ (s.links.inOf 5).refusing = none ∧ leNat (pl.take 3) = 3 ∧ leNat ((pl.drop 3).take 5) = 0 ∧
       s.reductionAt 3 0 (pl.drop 8).length = some r ∧ base.reductionAt 3 0 128 = none ∧
       ((s.modIn 5 (fun i => { i with refusing := some 7 })).links.inOf 5).refusing = some 7 ∧
       (∀ f ∈ (s.links.out 5).kept ++ (s.links.out 5).held, f.id ≠ 7) ∧ ((tabGet r.elems 31).getD {}).cnt + 1 < r.expect ∧
       ((tabGet r.elems 30).getD {}).cnt + 1 = r.expect ∧ ((tabGet r.elems 29).getD {}).cnt = r.expect) ∧
    (∃ r : Reduction, r.complete = true) ∧ (base.engineMayWrite 3 0 0 = true ∧ base.engineMayWrite 3 0 1 = false) ∧
    (let n : Note := { ref := 2 ^ 22, launch := base.ctx.sys.launch, gang := base.ctx.sys.gang, stage := base.ctx.sys.stage }
     let s : State := { at_ (.arriveApply 0 0) with
       notes := [(0, n, none)], launches := [{ tenant := 0, number := base.ctx.sys.launch, header := 0 }] }
     s.notePlace 0 n = some (some { g := 0, byte := 0, ref := 2 ^ 22 }) ∧ s.notePlace 0 { n with launch := n.launch + 1 } = some none) := by
  refine ⟨?_, ?_, ?_, ?_, ⟨{ tenant := 0, obj := 3, off := 0, nelem := 0, bf16 := false, expect := 1, token := 0 }, by decide⟩, ?_, ?_⟩ <;> decide +kernel

theorem witness_HealthEvents :
    (let c := base.ctxAt ((base.metaAt (lineKey 0 32767)).owner)
     c.state ≠ .free ∧ c.sys.allocBase.toNat ≤ 32767 ∧ 32767 < c.sys.allocBase.toNat + c.sys.allocSize.toNat ∧ c.state ≠ .drain) ∧
    ((State.reset.ctxAt ((State.reset.metaAt (lineKey 0 0)).owner)).state = .free) ∧ State.reset.power = .boot ∧ base.power = .run ∧ 64 ≤ (64 : BitVec 16).toNat ∧
    base.lineHolder 32767 = some (base.metaAt (lineKey 0 32767)).owner ∧ State.reset.lineHolder 0 = none ∧
    (let s : State := { base with lineMeta := [(0, { owner := 3 })] }
     s.lineHolder 0 = some 0 ∧ (s.metaAt (lineKey 0 0)).owner = 3) ∧
    (∀ n ∈ [0, 1], let s := base.modCluster 0 (fun c => { c with cache := [{ obj := 2, line := 0, val := {}, cls := .own, gen := 0, unacked := n }] })
      ((s.clusterAt 0).find 2 0).isSome = true ∧ s.cleanLine 0 2 0 = (n == 0)) := by
  decide +kernel

/-- A core at its first attempt after reset, with a word at its PC. -/
def placed : State := State.reset.withFetchWord 32 0x20201004

theorem witness_ResetInvariant : State.reset.Inv ∧ placed.Inv := by decide +kernel

theorem witness_InvStep : placed.Inv ∧ ∃ t, step placed = .next t := ⟨by decide +kernel, _, rfl⟩

theorem witness_RoundTrip : (Instr.addi 63 63 0xFFF).wellFormed = true ∧ (Instr.addi 63 63 0xFFF).slot? = some .s ∧ (Instr.mma 15 15 47 15).wellFormed = true ∧
    (Instr.mma 15 15 47 15).slot? = some .m ∧ (Instr.br 15 1 0x7FFFF).wellFormed = true ∧ (Instr.br 15 1 0x7FFFF).slot? = some .b := by decide

theorem witness_WordsHaveOneMeaning : decodeSlot .s 0x20FFFFFF = .ok (.addi 63 63 0xFFF) ∧ decodeSlot .vb 0 = .ok .nop := ⟨rfl, rfl⟩

/-- A core at its attempt with nothing due, an event that is due, and the host's acts. -/
theorem witness_StepRunsDecoded :
    (placed.power = .run ∧ placed.clocksStopped = false ∧ placed.due = [] ∧ placed.may = [] ∧ placed.hostActs = [] ∧ placed.frozen = false ∧
      placed.openCycle.isRight = true ∧ placed.ctx.pc.toNat < 8192 ∧
      leNat (memRead placed.imem (placed.g * 2 ^ 18 + 32 * placed.ctx.pc.toNat + 4 * Slot.s.index) 4) = 0x20201004) ∧
    (let s : State := { placed with tnow := 4096 }
     s.due ≠ []) ∧
    (let s : State := { placed with hostActs := [.store 0 [1], .cas 0 1 2] }
     s.due = [] ∧ s.may = [] ∧ s.hostActs = .store 0 [1] :: [.cas 0 1 2]) ∧
    (let s : State := { placed with inputs := [.quiesce] }
     s.due = [] ∧ s.inputReady = some .quiesce ∧ s.hears .quiesce = true ∧ ({ s with stopped := true } : State).hears .quiesce = false) := by decide +kernel

theorem witness_HardwiredRegisters : base.ctx.xReady 8 ∧ base.ctx.xReady 0 ∧ base.ctx.cReady 7 := by decide

theorem witness_ScalarFrame : (base.ctx.xReady 8 ∧ base.ctx.xReady 9 ∧ base.ctx.xReady 63 ∧ base.ctx.cReady 7 ∧ base.ctx.cEmpty 31 = false) ∧
    (∃ t, exec (.remn 63 8 9) base = .next t) ∧ (∃ t, exec (.cmpiGe 15 8 0x800) base = .next t) ∧ (∃ t, exec (.cclr 31 7) base = .next t) :=
  ⟨by decide, ⟨_, rfl⟩, ⟨_, rfl⟩, _, rfl⟩

-- A word for every instruction: its match bits and fields as the table of the spec places them

/-- A word decodes in its slot to an instruction. -/
abbrev Reads (e : Slot × SlotWord × Instr) : Prop := (match decodeSlot e.1 e.2.1 with | .ok i => decide (i = e.2.2) | .error _ => false) = true

theorem test_decode_scalar_0 : ∀ e ∈ ([
    (.s, 0x014587C0, .add 17 24 31), (.s, 0x024587C0, .sub 17 24 31), (.s, 0x034587C0, .mul 17 24 31), (.s, 0x044587C0, .mulh 17 24 31),
    (.s, 0x054587C0, .mulhn 17 24 31), (.s, 0x064587C0, .div 17 24 31), (.s, 0x074587C0, .divn 17 24 31), (.s, 0x084587C0, .rem 17 24 31),
    (.s, 0x094587C0, .remn 17 24 31), (.s, 0x0A4587C0, .and 17 24 31), (.s, 0x0B4587C0, .or 17 24 31), (.s, 0x0C4587C0, .xor 17 24 31),
    (.s, 0x0D4587C0, .shl 17 24 31), (.s, 0x0E4587C0, .shr 17 24 31), (.s, 0x0F4587C0, .sar 17 24 31), (.s, 0x104587C0, .min 17 24 31),
    (.s, 0x114587C0, .max 17 24 31), (.s, 0x124587C0, .minn 17 24 31), (.s, 0x134587C0, .maxn 17 24 31), (.s, 0x14458000, .clz 17 24),
    (.s, 0x15458000, .popc 17 24), (.s, 0x164587E0, .sel 17 24 31 8), (.s, 0x204585A3, .addi 17 24 1443), (.s, 0x214585A3, .andi 17 24 1443),
    (.s, 0x224585A3, .ori 17 24 1443), (.s, 0x234585A3, .xori 17 24 1443), (.s, 0x2445801F, .shli 17 24 31), (.s, 0x2545801F, .shri 17 24 31),
    (.s, 0x2645801F, .sari 17 24 31), (.s, 0x274585A3, .muli 17 24 1443), (.s, 0x2846BEEF, .movi 17 179951), (.s, 0x2946BEEF, .movs 17 179951),
    (.s, 0x305187C0, .cmpEq 5 24 31), (.s, 0x315187C0, .cmpNe 5 24 31), (.s, 0x325187C0, .cmpLt 5 24 31), (.s, 0x335187C0, .cmpLe 5 24 31),
    (.s, 0x345187C0, .cmpLtn 5 24 31), (.s, 0x355187C0, .cmpLen 5 24 31), (.s, 0x385185A3, .cmpiEq 5 24 1443), (.s, 0x395185A3, .cmpiNe 5 24 1443)] : List (Slot × SlotWord × Instr)), Reads e := by decide +kernel

theorem test_decode_scalar_1 : ∀ e ∈ ([
    (.s, 0x3A5185A3, .cmpiLt 5 24 1443), (.s, 0x3B5185A3, .cmpiLe 5 24 1443), (.s, 0x3C5185A3, .cmpiGt 5 24 1443), (.s, 0x3D5185A3, .cmpiGe 5 24 1443),
    (.s, 0x40567000, .pand 5 6 7), (.s, 0x41567000, .por 5 6 7), (.s, 0x42567000, .pxor 5 6 7), (.s, 0x43560000, .pnot 5 6),
    (.s, 0x48459235, .ldI8 17 12 4661), (.s, 0x49459235, .ldN8 17 12 4661), (.s, 0x4A459235, .ldI16 17 12 4661), (.s, 0x4B459235, .ldN16 17 12 4661),
    (.s, 0x4C459235, .ldI32 17 12 4661), (.s, 0x4D459235, .ldN32 17 12 4661), (.s, 0x4E459235, .ldI64 17 12 4661), (.s, 0x50459235, .st8 17 12 4661),
    (.s, 0x51459235, .st16 17 12 4661), (.s, 0x52459235, .st32 17 12 4661), (.s, 0x53459235, .st64 17 12 4661), (.s, 0x58499235, .ldc 9 12 4661),
    (.s, 0x59499235, .stc 9 12 4661), (.s, 0x604B1F00, .clim 9 12 31), (.s, 0x614B1F00, .climx 9 12 31), (.s, 0x624B1F00, .cmask 9 12 31),
    (.s, 0x634B1F00, .cadv 9 12 31), (.s, 0x644B2345, .cadvi 9 12 9029), (.s, 0x654B1F00, .cpos 9 12 31), (.s, 0x66458007, .cget 17 12 7),
    (.s, 0x674B0000, .cmov 9 12), (.s, 0x684B0F00, .cseal 9 12 15), (.s, 0x694B0F00, .cunseal 9 12 15), (.s, 0x6A531F02, .ctest 5 12 31 2),
    (.s, 0x6B4B0000, .cclr 9 12), (.s, 0x70440600, .mfs 17 24), (.s, 0x71011600, .mts 17 24), (.s, 0x72500180, .mtdCap 5 12),
    (.s, 0x72567C00, .mtdValue 5 6 31), (.s, 0x73447C00, .mtstr 4 4 31), (.s, 0x74440000, .time 17)] : List (Slot × SlotWord × Instr)), Reads e := by decide +kernel

theorem test_decode_vector_0 : ∀ e ∈ ([
    (.vb, 0x012CC091, .vaddF32 .b 0 5 1 12 2 17), (.vb, 0x022CC091, .vaddBf16 .b 0 5 1 12 2 17), (.vb, 0x032CC091, .vaddI32 .b 0 5 1 12 2 17), (.vb, 0x042CC091, .vaddI16 .b 0 5 1 12 2 17),
    (.vb, 0x052CC091, .vaddI8 .b 0 5 1 12 2 17), (.vb, 0x062CC091, .vsubF32 .b 0 5 1 12 2 17), (.vb, 0x072CC091, .vsubBf16 .b 0 5 1 12 2 17), (.vb, 0x082CC091, .vsubI32 .b 0 5 1 12 2 17),
    (.vb, 0x092CC091, .vsubI16 .b 0 5 1 12 2 17), (.vb, 0x0A2CC091, .vsubI8 .b 0 5 1 12 2 17), (.vb, 0x0B2CC091, .vmulF32 .b 0 5 1 12 2 17), (.vb, 0x0C2CC091, .vmulBf16 .b 0 5 1 12 2 17),
    (.vb, 0x0D2CC091, .vmulI32 .b 0 5 1 12 2 17), (.vb, 0x0E2CC091, .vmulI16 .b 0 5 1 12 2 17), (.vb, 0x0F2CC091, .vfmaF32 .b 0 5 1 12 2 17), (.vb, 0x102CC091, .vfmaBf16 .b 0 5 1 12 2 17),
    (.vb, 0x112CC091, .vfmsF32 .b 0 5 1 12 2 17), (.vb, 0x122CC091, .vfmsBf16 .b 0 5 1 12 2 17), (.vb, 0x132CC091, .vmaxF32 .b 0 5 1 12 2 17), (.vb, 0x142CC091, .vmaxBf16 .b 0 5 1 12 2 17),
    (.vb, 0x152CC091, .vmaxI32 .b 0 5 1 12 2 17), (.vb, 0x162CC091, .vmaxI16 .b 0 5 1 12 2 17), (.vb, 0x172CC091, .vmaxI8 .b 0 5 1 12 2 17), (.vb, 0x182CC091, .vminF32 .b 0 5 1 12 2 17),
    (.vb, 0x192CC091, .vminBf16 .b 0 5 1 12 2 17), (.vb, 0x1A2CC091, .vminI32 .b 0 5 1 12 2 17), (.vb, 0x1B2CC091, .vminI16 .b 0 5 1 12 2 17), (.vb, 0x1C2CC091, .vminI8 .b 0 5 1 12 2 17),
    (.vb, 0x1D2CC080, .vabsF32 .b 0 5 1 12 2), (.vb, 0x1E2CC080, .vabsI32 .b 0 5 1 12 2), (.vb, 0x1F2CC080, .vnegF32 .b 0 5 1 12 2), (.vb, 0x202CC080, .vnegI32 .b 0 5 1 12 2),
    (.vb, 0x212CC091, .vaddsI16 .b 0 5 1 12 2 17), (.vb, 0x222CC091, .vaddsI8 .b 0 5 1 12 2 17), (.vb, 0x232CC091, .vsubsI16 .b 0 5 1 12 2 17), (.vb, 0x242CC091, .vsubsI8 .b 0 5 1 12 2 17),
    (.vb, 0x252CC091, .vmulhI32 .b 0 5 1 12 2 17), (.vb, 0x282CC091, .vand .b 0 5 1 12 2 17), (.vb, 0x292CC091, .vor .b 0 5 1 12 2 17), (.vb, 0x2A2CC091, .vxor .b 0 5 1 12 2 17)] : List (Slot × SlotWord × Instr)), Reads e := by decide +kernel

theorem test_decode_vector_1 : ∀ e ∈ ([
    (.vb, 0x2B2CC080, .vnot .b 0 5 1 12 2), (.vb, 0x2C2CC091, .vshlI32 .b 0 5 1 12 2 17), (.vb, 0x2D2CC091, .vshrI32 .b 0 5 1 12 2 17), (.vb, 0x2E2CC091, .vsarI32 .b 0 5 1 12 2 17),
    (.vb, 0x302C6091, .vcmpF32Eq .b 0 5 1 6 2 17), (.vb, 0x312C6091, .vcmpF32Ne .b 0 5 1 6 2 17), (.vb, 0x322C6091, .vcmpF32Lt .b 0 5 1 6 2 17), (.vb, 0x332C6091, .vcmpF32Le .b 0 5 1 6 2 17),
    (.vb, 0x342C6091, .vcmpI32Eq .b 0 5 1 6 2 17), (.vb, 0x352C6091, .vcmpI32Ne .b 0 5 1 6 2 17), (.vb, 0x362C6091, .vcmpI32Lt .b 0 5 1 6 2 17), (.vb, 0x372C6091, .vcmpI32Le .b 0 5 1 6 2 17),
    (.vb, 0x382CC091, .vsel .b 0 5 1 12 2 17), (.vb, 0x392CC021, .vbcx32 .b 0 5 1 12 33), (.vb, 0x3A2CC021, .vbcx16 .b 0 5 1 12 33), (.vb, 0x3B2CC080, .vmov .b 0 5 1 12 2),
    (.vb, 0x402CC080, .vcvtF32Bf16 .b 0 5 1 12 2), (.vb, 0x412CC080, .vcvtBf16F32 .b 0 5 1 12 2), (.vb, 0x422CC080, .vcvtF32I32 .b 0 5 1 12 2), (.vb, 0x432CC080, .vcvtI32F32 .b 0 5 1 12 2),
    (.vb, 0x442CC080, .vcvtI32I16 .b 0 5 1 12 2), (.vb, 0x452CC080, .vcvtI16I32 .b 0 5 1 12 2), (.vb, 0x462CC080, .vcvtI16I8 .b 0 5 1 12 2), (.vb, 0x472CC080, .vcvtI8I16 .b 0 5 1 12 2),
    (.vb, 0x482CC091, .vqntMx8 .b 0 5 1 12 2 17), (.vb, 0x492CC091, .vqntMx6 .b 0 5 1 12 2 17), (.vb, 0x4A2CC091, .vqntMx4 .b 0 5 1 12 2 17), (.vb, 0x4B2C0080, .vamaxF32 .b 0 5 1 2),
    (.vb, 0x4C2C0080, .vamaxBf16 .b 0 5 1 2), (.vb, 0x4D2CC091, .vdqntMx8 .b 0 5 1 12 2 17), (.vb, 0x4E2CC091, .vdqntMx6 .b 0 5 1 12 2 17), (.vb, 0x4F2CC091, .vdqntMx4 .b 0 5 1 12 2 17),
    (.vb, 0x5004C080, .vplnMx8 .b 0 1 12 2), (.vb, 0x5104C080, .vplnMx6 .b 0 1 12 2), (.vb, 0x5204C080, .vplnMx4 .b 0 1 12 2), (.vb, 0x5304C080, .vuplnMx8 .b 0 1 12 2),
    (.vb, 0x5404C080, .vuplnMx6 .b 0 1 12 2), (.vb, 0x5504C080, .vuplnMx4 .b 0 1 12 2), (.vb, 0x602CC080, .vrcpa .b 0 5 1 12 2), (.vb, 0x612CC080, .vrsqa .b 0 5 1 12 2)] : List (Slot × SlotWord × Instr)), Reads e := by decide +kernel

theorem test_decode_vector_2 : ∀ e ∈ ([
    (.vb, 0x622CC080, .vexp2a .b 0 5 1 12 2), (.vb, 0x632CC080, .vlog2a .b 0 5 1 12 2), (.vb, 0x682CC080, .vrsumF32 .b 0 5 1 12 2), (.vb, 0x692CC080, .vrsumI32 .b 0 5 1 12 2),
    (.vb, 0x6A2CC080, .vrmaxF32 .b 0 5 1 12 2), (.vb, 0x6B2CC080, .vrminF32 .b 0 5 1 12 2), (.vb, 0x6C2CC080, .vscanI32 .b 0 5 1 12 2), (.vb, 0x6D2CC0A1, .vtopkF32 .b 0 5 1 12 2 33),
    (.vb, 0x702CC091, .vperm32 .b 0 5 1 12 2 17), (.vb, 0x712CC091, .vperm16 .b 0 5 1 12 2 17), (.vb, 0x722CC091, .vperm8 .b 0 5 1 12 2 17), (.vb, 0x732CC0A1, .vrotl32 .b 0 5 1 12 2 33),
    (.vb, 0x7404C091, .vzip32 .b 0 1 12 2 17), (.vb, 0x7504C091, .vunzip32 .b 0 1 12 2 17), (.vb, 0x7604C0A1, .vxtr32 .b 1 12 2 33), (.vb, 0x772CC091, .vins32 .b 5 1 12 2 17),
    (.vb, 0x782CC021, .viota32 .b 0 5 1 12 33), (.vb, 0x7C2CC080, .vlutBf16 .b 0 5 1 12 2), (.vb, 0x7D040080, .vltld .b 1 2), (.va, 0x802CC095, .vgath32 0 5 1 12 2 21),
    (.va, 0x812CC095, .vgath16 0 5 1 12 2 21), (.va, 0x822CC095, .vscat32 0 5 1 12 2 21), (.va, 0x832CC095, .vscat16 0 5 1 12 2 21)] : List (Slot × SlotWord × Instr)), Reads e := by decide +kernel

theorem test_decode_matrix : ∀ e ∈ ([
    (.m, 0x019686C0, .mma 9 6 33 11), (.m, 0x019686D0, .mmaOw 9 6 33 11), (.m, 0x02008400, .mzero 33), (.m, 0x08008400, .mres 33),
    (.m, 0x0310841C, .mrdF32 4 33 0 7), (.m, 0x0410841C, .mrdBf16 4 33 0 7), (.m, 0x0510841C, .mwrF32 4 33 0 7), (.m, 0x0610841C, .mscl 4 33 0 7),
    (.m, 0x0710841C, .mrowmax 4 33 0 7)] : List (Slot × SlotWord × Instr)), Reads e := by decide +kernel

theorem test_decode_copy : ∀ e ∈ ([
    (.cb, 0x0199D1C8, .getc .b 9 1 0 3 1 17 200), (.cb, 0x0299D1C8, .putc .b 9 1 0 3 1 17 200), (.cb, 0x0399D1C8, .getp .b 9 1 0 3 1 17 200), (.cb, 0x0499D1C8, .xfer .b 9 1 0 3 1 17 200),
    (.cb, 0x059051C8, .bget .b 9 1 17 200), (.cb, 0x06900000, .pref .b 9), (.cb, 0x0799D1C8, .putr .b 9 1 0 3 1 17 200), (.cb, 0x08000029, .cflush .b 41)] : List (Slot × SlotWord × Instr)), Reads e := by decide +kernel

theorem test_decode_system : ∀ e ∈ ([
    (.y, 0x014B1EE0, .fence 9 12 15 3 2), (.y, 0x020000E0, .fenceall 3 2), (.y, 0x03000000, .lsync), (.y, 0x10458FBC, .aaddI32 17 12 31 3 1 1),
    (.y, 0x11458FBC, .aaddI64 17 12 31 3 1 1), (.y, 0x12458FBC, .aminI64 17 12 31 3 1 1), (.y, 0x13458FBC, .amaxI64 17 12 31 3 1 1), (.y, 0x14458FBC, .aminnN64 17 12 31 3 1 1),
    (.y, 0x15458FBC, .amaxnN64 17 12 31 3 1 1), (.y, 0x16458FBC, .aand 17 12 31 3 1 1), (.y, 0x17458FBC, .aor 17 12 31 3 1 1), (.y, 0x18458FBC, .axor 17 12 31 3 1 1),
    (.y, 0x19458FBC, .axchg 17 12 31 3 1 1), (.y, 0x1A458FBC, .acas 17 12 31 3 1 1), (.y, 0x1B498F3C, .acas2 18 12 30 3 1 1), (.y, 0x1C458FBC, .afaddF32 17 12 31 3 1 1),
    (.y, 0x200115A3, .ainit 17 1443), (.y, 0x214587E6, .arrive 17 24 31 38), (.y, 0x22458729, .waitph 17 24 7 41), (.y, 0x28458F80, .lacqR 17 12 31),
    (.y, 0x28458FA0, .lacqW 17 12 31), (.y, 0x29458F80, .lrel 17 12 31), (.y, 0x2A458F80, .lrenew 17 12 31), (.y, 0x2B458F80, .harv 17 12 31),
    (.y, 0x30458780, .sealLines 17 24 15), (.y, 0x31458780, .openLines 17 24 15), (.y, 0x34458000, .hwin 17 12), (.y, 0x38B587C0, .mgmatch 45 24 31),
    (.y, 0x394587C0, .mgsel 17 24 31), (.y, 0x3A4587C0, .mgmerge 17 24 31), (.y, 0x3B4587C0, .mgunm 17 24 31), (.y, 0x3C458000, .mglogs 17 24),
    (.y, 0x4000BEEF, .trap 48879), (.y, 0x410115A3, .signal 17 1443), (.y, 0x42000000, .yield)] : List (Slot × SlotWord × Instr)), Reads e := by decide +kernel

theorem test_decode_control : ∀ e ∈ ([
    (.b, 0x01580321, .br 5 1 801), (.b, 0x02580321, .jmp 5 1 801), (.b, 0x035BE000, .jmpx 5 1 31), (.b, 0x04580321, .call 5 1 801),
    (.b, 0x05580000, .ret 5 1), (.b, 0x06459235, .loop 17 12 4661), (.b, 0x0700012D, .rot 301), (.b, 0x08452C80, .waitl 17 601),
    (.b, 0x09B40000, .waitt 45), (.b, 0x0A000029, .waitc 41), (.b, 0x0B000000, .taskEnd), (.b, 0x0C00BEEF, .brk 48879)] : List (Slot × SlotWord × Instr)), Reads e := by decide +kernel

-- Ill-formed terms are refused

/-- Groups past v29 or w31, a bypass register as a destination or in a group, a ninth register count of a compare (R28, R33). -/
theorem test_illformed_vector : ∀ i ∈ ([.vaddF32 .a 1 0 0 29 0 2, .vaddF32 .a 0 0 0 30 0 2, .vaddF32 .a 1 0 0 0 30 2, .vaddF32 .b 3 0 0 0 57 2,
    .vcmpF32Eq .a 3 0 0 0 0 2, .vzip32 .a 3 0 16 0 8] : List Instr), i.wellFormed = false := by decide

/-- Tiles 48 and up, scopes 5 and up, a scope without a release or an acquire, a fence of no kind, an odd pair (R28). -/
theorem test_illformed_fields : ∀ i ∈ ([.mma 0 1 48 0, .mzero 63, .mrdF32 0 0 1 15, .getc .a 0 1 0 5 0 0 0, .getc .a 0 0 0 1 0 0 0, .fence 0 0 0 1 0,
    .aaddI64 3 1 8 5 0 0, .acas2 3 1 8 1 0 0, .acas2 2 1 9 1 0 0, .ainit 8 0, .arrive 8 9 10 0, .waitt 48, .waitc 65, .jmp 0 0 8192, .call 0 0 8192, .loop 8 0 0] : List Instr),
    i.wellFormed = false := by decide

/-- Unassigned and read-only system registers, selectors, conditions and fields out of range (R28, R63, R96, R97). -/
theorem test_illformed_system : ∀ i ∈ ([.mfs 8 15, .mfs 8 50, .mts 8 0, .cget 8 1 9, .ctest 1 1 0 5, .ctest 1 1 8 0, .mtdValue 0 0 8, .mtdValue 0 9 8, .mtstr 0 6 8] : List Instr),
    i.wellFormed = false := by decide

/-- A word that is refused raises nothing else: its decoder names why (R25, R28). -/
theorem test_rejected : (match decodeSlot .s 0x7F000000 with | .error .unassignedOpcode => true | _ => false) = true ∧
    (match decodeSlot .s 0x01000001 with | .error .reservedField => true | _ => false) = true ∧
    (match decodeSlot .m 0x0101C3C0 with | .error .illFormed => true | _ => false) = true ∧
    (match decodeSlot .y 0x20009000 with | .error .illFormed => true | _ => false) = true := by decide

-- Single steps

/-- ADDI x8, x1, 4 with x1 = 0, placed where the first step after reset fetches. -/
theorem test_step_addi : (match step placed with | .next t => decide ((t.coreAt 0).ctxs[0].xVal 8 = 4 ∧ (t.coreAt 0).ctxs[0].pc = 1) | _ => false) = true := by
  decide +kernel

/-- The boundary rows of R117's table. -/
theorem test_division_table :
    let s (a b : Word) := withCtx (fun c => { c with x := (c.x.set 8 { val := a }).set 9 { val := b } })
    let got (i : Instr) (a b : Word) : List Landing := match exec i (s a b) with | .next t => t.cr.flights.map Flight.what | _ => []
    got (.div 63 8 9) (-7) 2 = [.xreg 63 (-3)] ∧ got (.rem 63 8 9) (-7) 2 = [.xreg 63 (-1)] ∧ got (.divn 63 8 9) (-7) 2 = [.xreg 63 0x7FFFFFFFFFFFFFFC] ∧
      got (.div 63 8 9) 7 (-2) = [.xreg 63 (-3)] ∧ got (.rem 63 8 9) 7 (-2) = [.xreg 63 1] ∧ got (.remn 63 8 9) 7 (-2) = [.xreg 63 7] ∧
      got (.div 63 8 9) 5 0 = [.xreg 63 (-1)] ∧ got (.remn 63 8 9) 5 0 = [.xreg 63 5] ∧
      got (.div 63 8 9) 0x8000000000000000 (-1) = [.xreg 63 0x8000000000000000] ∧ got (.remn 63 8 9) 0x8000000000000000 (-1) = [.xreg 63 0x8000000000000000] := by
  decide +kernel

/-- An unassigned opcode raises ILLEGAL, with the slot in TRAPI: code 0x01, and the context halts under policy 00. -/
theorem test_step_illegal : (match step (State.reset.withFetchWord 32 0x7F000000) with
    | .next t => decide (((t.coreAt 0).ctxs[0].sys.trapc.toNat % 256 = 1)) && decide ((t.coreAt 0).ctxs[0].pc = 0)
    | _ => false) = true := by decide +kernel

/-- A store of 4 bytes joins the queue with the low bytes of its register, and an LD of an untagged capability raises CAP_TAG. -/
theorem test_memory_issue : (match exec (.st32 9 1 0) base with | .next t => decide (t.ctx.mq.map MemOp.kind = [.store { space := .scratch, obj := 0, off := 0 } [64, 0, 0, 0] 0]) | _ => false) = true ∧
    (match exec (.ldI64 9 7 0) base with | .next t => decide (t.ctx.sys.trapc.toNat % 256 = 0x04) | _ => false) = true := by decide +kernel

/-- The check value of the CRC of R518. -/
theorem test_crc : crc32 [0x31, 0x32, 0x33, 0x34, 0x35, 0x36, 0x37, 0x38, 0x39] = 0xCBF43926 := by decide +kernel

end Sys2Proof.Tests
end

section
/-! SUPPORT. The hardwired registers x0, p0, c0 and k0 (R27): a write to one is discarded, no slot conflicts over one, and a word whose only
result goes to one issues and leaves nothing but the advance of the sequence. -/

namespace Sys2Proof.Machine

-- Writes that are discarded

@[simp] theorem Ctx.setX_zero (c : Ctx) (v : Word) : c.setX 0 v = c := rfl
@[simp] theorem Ctx.emptyX_zero (c : Ctx) : c.emptyX 0 = c := rfl
@[simp] theorem Ctx.poisonX_zero (c : Ctx) : c.poisonX 0 = c := rfl
@[simp] theorem Ctx.setP_zero (c : Ctx) (v : Bool) : c.setP 0 v = c := rfl
@[simp] theorem Ctx.setK_zero (c : Ctx) (v : MaskReg) : c.setK 0 v = c := rfl
@[simp] theorem Ctx.setC_zero (c : Ctx) (v : Cap) : c.setC 0 v = c := rfl
@[simp] theorem Ctx.emptyC_zero (c : Ctx) : c.emptyC 0 = c := rfl

-- Constants that are read

@[simp] theorem Ctx.xVal_zero (c : Ctx) : c.xVal 0 = 0 := rfl
@[simp] theorem Ctx.xEmpty_zero (c : Ctx) : c.xEmpty 0 = false := rfl
@[simp] theorem Ctx.pVal_zero (c : Ctx) : c.pVal 0 = true := rfl
@[simp] theorem Ctx.kVal_zero (c : Ctx) : c.kVal 0 = BitVec.allOnes 256 := rfl
@[simp] theorem Ctx.cVal_zero (c : Ctx) : c.cVal 0 = {} := rfl
@[simp] theorem Ctx.cEmpty_zero (c : Ctx) : c.cEmpty 0 = false := rfl

-- Conflicts

/-- A slot that writes hardwired registers alone adds no destination to those that R26 compares. -/
theorem allDests_cons_of_not_real (r : SlotRes) (rs : List SlotRes) (h : ∀ d ∈ r.dests, d.real = false) :
    allDests (r :: rs) = allDests rs := by
  have hf : r.dests.filter Dest.real = [] := List.filter_eq_nil_iff.2 fun d hd => by simp [h d hd]
  simp [allDests, hf]

-- Words that write a hardwired register

/-- A change of the context that changes nothing leaves the whole state. -/
theorem State.modCtx_of_fixed (s : State) (f : Ctx → Ctx) (h : f s.ctx = s.ctx) : s.modCtx f = s := by
  have e : s.cr.ctxs.set s.cr.cur.toNat s.ctx = s.cr.ctxs := Vector.set_getElem_self _
  rw [State.modCtx, h, State.setCtx, State.setCtxAt, e]

/-- A word whose change of the context changes nothing leaves only the advance of the sequence. -/
theorem State.afterScalar_of_fixed (s : State) (f : Ctx → Ctx) (h : ∀ c, f c = c) :
    s.afterScalar f = s.afterWord .s 1 none .fall [] (fun t => t) := by
  have e : (fun t : State => t.modCtx f) = fun t => t := funext fun t => t.modCtx_of_fixed f (h t.ctx)
  rw [State.afterScalar, e]

theorem runAlone_scalar_x0 (i : Instr) (s : State) (srcs : List (BitVec 6)) (v : Word) (hw : i.wellFormed = true)
    (hs : ∀ r ∈ srcs, s.ctx.xReady r) :
    runAlone i (scalarRes s.ctx srcs 0 v) s = .next (s.afterWord .s 1 none .fall [] (fun t => t)) := by
  rw [runAlone_scalar i s srcs 0 v hw hs s.ctx.xEmpty_zero, s.afterScalar_of_fixed _ (fun c => c.setX_zero v)]

theorem runAlone_pred_p0 (i : Instr) (s : State) (srcs : List (BitVec 6)) (v : Bool) (hw : i.wellFormed = true)
    (hs : ∀ r ∈ srcs, s.ctx.xReady r) :
    runAlone i (predRes s.ctx srcs 0 v) s = .next (s.afterWord .s 1 none .fall [] (fun t => t)) := by
  rw [runAlone_pred i s srcs 0 v hw hs, s.afterScalar_of_fixed _ (fun c => c.setP_zero v)]

/-- A move or a clear of a capability into c0 (R161, R163). -/
theorem runAlone_cap_c0 (i : Instr) (s : State) (k : BitVec 5) (v : Cap) (hw : i.wellFormed = true) (hk : s.ctx.cReady k) :
    runAlone i (capRes s.ctx [k] [] 0 [cPoisonTrap s.ctx k] v) s = .next (s.afterWord .s 1 none .fall [] (fun t => t)) := by
  rw [runAlone_cap i s [k] [] 0 _ v hw (by simpa using hk) (by simp) s.ctx.cEmpty_zero
      (by simpa using cPoisonTrap_none s.ctx k hk.2),
    s.afterScalar_of_fixed _ (fun c => c.setC_zero v)]

/-- A division aimed at x0 puts nothing in flight: it is a word that writes x0 in its issue cycle (R27, R117). -/
theorem slotDivide_x0 (f : Word → Word → Word) (a b : BitVec 6) (s : State) :
    slotDivide f 0 a b s = scalarRes s.ctx [a, b] 0 (f (s.ctx.xVal a) (s.ctx.xVal b)) := by
  have e : ∀ v : Word, (fun t : State => t.modCtx (fun c => c.setX 0 v)) = fun t => t :=
    fun v => funext fun t => t.modCtx_of_fixed _ (Ctx.setX_zero t.ctx v)
  simp only [slotDivide, scalarRes, e, if_true]

theorem runAlone_divide_x0 (i : Instr) (f : Word → Word → Word) (s : State) (a b : BitVec 6) (hw : i.wellFormed = true)
    (hs : ∀ r ∈ [a, b], s.ctx.xReady r) :
    runAlone i (slotDivide f 0 a b s) s = .next (s.afterWord .s 1 none .fall [] (fun t => t)) := by
  rw [slotDivide_x0, runAlone_scalar_x0 i s [a, b] _ hw hs]

/-- CGET of a capability that can be read, into a full register (R165). -/
theorem exec_cget (s : State) (d : BitVec 6) (k : BitVec 5) (e : BitVec 4) (he : e.toNat ≤ 8) (hk : s.ctx.cReady k)
    (hd : s.ctx.xEmpty d = false) :
    exec (.cget d k e) s = .next (s.afterScalar (fun c => c.setX d (capField (s.ctx.cVal k) e.toNat))) := by
  have hw : (Instr.cget d k e).wellFormed = true := decide_eq_true he
  refine runAlone_ctx (.cget d k e) s (slotCget d k e s) _ hw (by rintro x rfl; simp [slotCget])
    (valueConflict_noSys _ _ (by simp [slotCget])) (cPoisonTrap_none s.ctx k hk.2) (joinHolds_none _ ?_)
  simp [cHold_none _ _ hk.1, xHold_none _ _ hd]

/-- CGET into x0. -/
theorem exec_cget_x0 (s : State) (k : BitVec 5) (e : BitVec 4) (he : e.toNat ≤ 8) (hk : s.ctx.cReady k) :
    exec (.cget 0 k e) s = .next (s.afterWord .s 1 none .fall [] (fun t => t)) := by
  rw [exec_cget s 0 k e he hk s.ctx.xEmpty_zero, s.afterScalar_of_fixed _ (fun c => c.setX_zero _)]

/-- Settles O59: the updates and reads of register 0 by their definitions; a slot that writes hardwired registers alone adds nothing to what
R26 compares; and each of the words has the effect of a write that is discarded. -/
theorem hardwiredRegisters : Obligations.HardwiredRegisters := by
  unfold Obligations.HardwiredRegisters
  constructor
  · intro c
    refine ⟨c.setX_zero, c.setP_zero, c.setC_zero, c.setK_zero, c.emptyX_zero, c.poisonX_zero, c.emptyC_zero, c.xVal_zero, c.xEmpty_zero,
      c.pVal_zero, c.cVal_zero, c.cEmpty_zero, c.kVal_zero, ?_⟩
    intro r rs h
    have hreal : ∀ d ∈ r.dests, d.real = false := by
      intro d hd
      rcases h d hd with rfl | rfl | rfl <;> rfl
    rw [allDests_cons_of_not_real r rs hreal]
  · intro s a b k ha hb hk
    have ha' : ∀ r ∈ [a], s.ctx.xReady r := List.forall_mem_singleton.2 ha
    have hab : ∀ r ∈ [a, b], s.ctx.xReady r := List.forall_mem_cons.2 ⟨ha, List.forall_mem_singleton.2 hb⟩
    simp only [List.forall_mem_cons, List.not_mem_nil, false_implies, implies_true, and_true]
    exact ⟨runAlone_scalar_x0 (.add 0 a b) s [a, b] _ rfl hab, runAlone_scalar_x0 (.mul 0 a b) s [a, b] _ rfl hab,
      runAlone_scalar_x0 (.addi 0 a 1) s [a] _ rfl ha', runAlone_divide_x0 (.div 0 a b) divS s a b rfl hab,
      runAlone_divide_x0 (.remn 0 a b) remU s a b rfl hab, runAlone_pred_p0 (.cmpEq 0 a b) s [a, b] _ rfl hab,
      runAlone_pred_p0 (.pnot 0 1) s [] _ rfl (by simp), runAlone_cap_c0 (.cmov 0 k) s k _ rfl hk,
      runAlone_cap_c0 (.cclr 0 k) s k _ rfl hk, exec_cget_x0 s k 2 (by decide) hk⟩

end Sys2Proof.Machine
end

section
/-! SUPPORT. How the decoder reads an S word that is built from its fields by a layout of R116 to R122: the opcode in the top byte, each field in
its place, the reserved bits zero. -/

namespace Sys2Proof

/-- A row whose reserved bits are zero and whose instruction is well-formed is accepted. -/
theorem row_ok {w m : SlotWord} {i : Instr} (hm : w &&& m = 0) (hi : i.wellFormed = true) : row w m i = .ok i := by
  simp [row, hm, hi]

/-- A field of a word given by its value. -/
theorem fld_ofNat {v lo n : Nat} {x : BitVec n} (hv : v < 2 ^ 32) (h : v / 2 ^ lo % 2 ^ n = x.toNat) :
    fld (BitVec.ofNat 32 v) lo n = x := by
  apply BitVec.eq_of_toNat_eq
  rw [fld, BitVec.toNat_ofNat, BitVec.toNat_ofNat, Nat.mod_eq_of_lt hv, h]

/-- A reserved field that is zero passes its mask. -/
theorem reserved_ofNat {v lo n : Nat} (h : v / 2 ^ lo % 2 ^ n = 0) :
    BitVec.ofNat 32 v &&& BitVec.ofNat 32 ((2 ^ n - 1) * 2 ^ lo) = 0 := by
  apply BitVec.eq_of_getLsbD_eq
  intro i hi
  have hbit : lo ≤ i → i - lo < n → v.testBit i = false := by
    intro hlo hn
    have h0 : (v / 2 ^ lo % 2 ^ n).testBit (i - lo) = false := by rw [h, Nat.zero_testBit]
    simpa [Nat.testBit_mod_two_pow, Nat.testBit_div_two_pow, hn, Nat.sub_add_cancel hlo] using h0
  simp only [BitVec.getLsbD_and, BitVec.getLsbD_ofNat, Nat.testBit_mul_two_pow, Nat.testBit_two_pow_sub_one]
  by_cases hlo : lo ≤ i
  · by_cases hn : i - lo < n
    · simp [hbit hlo hn]
    · simp [hn]
  · simp [hlo]

/-- Two reserved fields pass the mask of both. -/
theorem reserved_or {w m n : SlotWord} (hm : w &&& m = 0) (hn : w &&& n = 0) : w &&& (m ||| n) = 0 := by
  rw [BitVec.and_or_distrib_left, hm, hn, BitVec.or_self]

/-- A word whose opcode selects a row is read as the instruction of its fields. -/
theorem decodeSlot_s_ok {v op : Nat} {m : SlotWord} {g : SlotWord → Instr} {i : Instr}
    (arm : ∀ w : SlotWord, w.toNat / 2 ^ 24 = op → decodeS w = row w m (g w)) (hv : v < 2 ^ 32) (hop : v / 2 ^ 24 = op)
    (hm : BitVec.ofNat 32 v &&& m = 0) (hg : g (BitVec.ofNat 32 v) = i) (hi : i.wellFormed = true) :
    decodeSlot .s (BitVec.ofNat 32 v) = .ok i := by
  have hw : (BitVec.ofNat 32 v).toNat / 2 ^ 24 = op := by rw [BitVec.toNat_ofNat, Nat.mod_eq_of_lt hv, hop]
  rw [decodeSlot, arm _ hw, hg, row_ok hm hi]

-- One lemma per layout. Its hypotheses, that the opcode selects a row of this layout and that the row's instructions are well-formed, are
-- checked at a literal opcode where the lemma is used.

/-- Two sources and a destination (R116, R117). -/
theorem threeReg_decodes {op : Nat} {mk : BitVec 6 → BitVec 6 → BitVec 6 → Instr} (d a b : BitVec 6) (hop : op < 256 := by decide)
    (wf : (mk d a b).wellFormed = true := by rfl)
    (arm : ∀ w : SlotWord, w.toNat / 2 ^ 24 = op → decodeS w = row w 0x0000003F (mk (fld w 18 6) (fld w 12 6) (fld w 6 6)) := by
      intro w h; simp only [decodeS, h]) :
    decodeSlot .s (BitVec.ofNat 32 (op * 2 ^ 24 + d.toNat * 2 ^ 18 + a.toNat * 2 ^ 12 + b.toNat * 2 ^ 6)) = .ok (mk d a b) := by
  have hv : op * 2 ^ 24 + d.toNat * 2 ^ 18 + a.toNat * 2 ^ 12 + b.toNat * 2 ^ 6 < 2 ^ 32 := by omega
  refine decodeSlot_s_ok arm hv (by omega) (reserved_ofNat (lo := 0) (n := 6) (by omega)) ?_ wf
  rw [fld_ofNat (x := d) hv (by omega), fld_ofNat (x := a) hv (by omega), fld_ofNat (x := b) hv (by omega)]

/-- One source and a destination (R116). -/
theorem twoReg_decodes {op : Nat} {mk : BitVec 6 → BitVec 6 → Instr} (d a : BitVec 6) (hop : op < 256 := by decide)
    (wf : (mk d a).wellFormed = true := by rfl)
    (arm : ∀ w : SlotWord, w.toNat / 2 ^ 24 = op → decodeS w = row w 0x00000FFF (mk (fld w 18 6) (fld w 12 6)) := by
      intro w h; simp only [decodeS, h]) :
    decodeSlot .s (BitVec.ofNat 32 (op * 2 ^ 24 + d.toNat * 2 ^ 18 + a.toNat * 2 ^ 12)) = .ok (mk d a) := by
  have hv : op * 2 ^ 24 + d.toNat * 2 ^ 18 + a.toNat * 2 ^ 12 < 2 ^ 32 := by omega
  refine decodeSlot_s_ok arm hv (by omega) (reserved_ofNat (lo := 0) (n := 12) (by omega)) ?_ wf
  rw [fld_ofNat (x := d) hv (by omega), fld_ofNat (x := a) hv (by omega)]

/-- SEL: two sources, a destination and a predicate (R116). -/
theorem sel_decodes (d a b : BitVec 6) (p : BitVec 4) :
    decodeSlot .s (BitVec.ofNat 32 (0x16 * 2 ^ 24 + d.toNat * 2 ^ 18 + a.toNat * 2 ^ 12 + b.toNat * 2 ^ 6 + p.toNat * 4)) = .ok (.sel d a b p) := by
  have hv : 0x16 * 2 ^ 24 + d.toNat * 2 ^ 18 + a.toNat * 2 ^ 12 + b.toNat * 2 ^ 6 + p.toNat * 4 < 2 ^ 32 := by omega
  refine decodeSlot_s_ok (op := 0x16) (m := 0x00000003) (g := fun w => .sel (fld w 18 6) (fld w 12 6) (fld w 6 6) (fld w 2 4))
    (fun w h => by simp only [decodeS, h]) hv (by omega) (reserved_ofNat (lo := 0) (n := 2) (by omega)) ?_ rfl
  rw [fld_ofNat (x := d) hv (by omega), fld_ofNat (x := a) hv (by omega), fld_ofNat (x := b) hv (by omega), fld_ofNat (x := p) hv (by omega)]

/-- A source, a destination and a 12-bit immediate (R118). -/
theorem regImm_decodes {op : Nat} {mk : BitVec 6 → BitVec 6 → BitVec 12 → Instr} (d a : BitVec 6) (i : BitVec 12) (hop : op < 256 := by decide)
    (wf : (mk d a i).wellFormed = true := by rfl)
    (arm : ∀ w : SlotWord, w.toNat / 2 ^ 24 = op → decodeS w = row w 0x00000000 (mk (fld w 18 6) (fld w 12 6) (fld w 0 12)) := by
      intro w h; simp only [decodeS, h]) :
    decodeSlot .s (BitVec.ofNat 32 (op * 2 ^ 24 + d.toNat * 2 ^ 18 + a.toNat * 2 ^ 12 + i.toNat)) = .ok (mk d a i) := by
  have hv : op * 2 ^ 24 + d.toNat * 2 ^ 18 + a.toNat * 2 ^ 12 + i.toNat < 2 ^ 32 := by omega
  refine decodeSlot_s_ok arm hv (by omega) (BitVec.and_zero) ?_ wf
  rw [fld_ofNat (x := d) hv (by omega), fld_ofNat (x := a) hv (by omega), fld_ofNat (x := i) hv (by omega)]

/-- A source, a destination and a shift count (R118). -/
theorem shiftImm_decodes {op : Nat} {mk : BitVec 6 → BitVec 6 → BitVec 6 → Instr} (d a j : BitVec 6) (hop : op < 256 := by decide)
    (wf : (mk d a j).wellFormed = true := by rfl)
    (arm : ∀ w : SlotWord, w.toNat / 2 ^ 24 = op → decodeS w = row w 0x00000FC0 (mk (fld w 18 6) (fld w 12 6) (fld w 0 6)) := by
      intro w h; simp only [decodeS, h]) :
    decodeSlot .s (BitVec.ofNat 32 (op * 2 ^ 24 + d.toNat * 2 ^ 18 + a.toNat * 2 ^ 12 + j.toNat)) = .ok (mk d a j) := by
  have hv : op * 2 ^ 24 + d.toNat * 2 ^ 18 + a.toNat * 2 ^ 12 + j.toNat < 2 ^ 32 := by omega
  refine decodeSlot_s_ok arm hv (by omega) (reserved_ofNat (lo := 6) (n := 6) (by omega)) ?_ wf
  rw [fld_ofNat (x := d) hv (by omega), fld_ofNat (x := a) hv (by omega), fld_ofNat (x := j) hv (by omega)]

/-- A destination and an 18-bit immediate (R119). -/
theorem longImm_decodes {op : Nat} {mk : BitVec 6 → BitVec 18 → Instr} (d : BitVec 6) (l : BitVec 18) (hop : op < 256 := by decide)
    (wf : (mk d l).wellFormed = true := by rfl)
    (arm : ∀ w : SlotWord, w.toNat / 2 ^ 24 = op → decodeS w = row w 0x00000000 (mk (fld w 18 6) (fld w 0 18)) := by
      intro w h; simp only [decodeS, h]) :
    decodeSlot .s (BitVec.ofNat 32 (op * 2 ^ 24 + d.toNat * 2 ^ 18 + 0 * 2 ^ 12 + l.toNat)) = .ok (mk d l) := by
  have hv : op * 2 ^ 24 + d.toNat * 2 ^ 18 + 0 * 2 ^ 12 + l.toNat < 2 ^ 32 := by omega
  refine decodeSlot_s_ok arm hv (by omega) (BitVec.and_zero) ?_ wf
  rw [fld_ofNat (x := d) hv (by omega), fld_ofNat (x := l) hv (by omega)]

/-- Two sources and a destination predicate (R120). -/
theorem cmp_decodes {op : Nat} {mk : BitVec 4 → BitVec 6 → BitVec 6 → Instr} (p : BitVec 4) (a b : BitVec 6) (hop : op < 256 := by decide)
    (wf : (mk p a b).wellFormed = true := by rfl)
    (arm : ∀ w : SlotWord, w.toNat / 2 ^ 24 = op → decodeS w = row w 0x000C003F (mk (fld w 20 4) (fld w 12 6) (fld w 6 6)) := by
      intro w h; simp only [decodeS, h]) :
    decodeSlot .s (BitVec.ofNat 32 (op * 2 ^ 24 + p.toNat * 2 ^ 20 + a.toNat * 2 ^ 12 + b.toNat * 64)) = .ok (mk p a b) := by
  have hv : op * 2 ^ 24 + p.toNat * 2 ^ 20 + a.toNat * 2 ^ 12 + b.toNat * 64 < 2 ^ 32 := by omega
  refine decodeSlot_s_ok arm hv (by omega)
    (reserved_or (reserved_ofNat (lo := 18) (n := 2) (by omega)) (reserved_ofNat (lo := 0) (n := 6) (by omega))) ?_ wf
  rw [fld_ofNat (x := p) hv (by omega), fld_ofNat (x := a) hv (by omega), fld_ofNat (x := b) hv (by omega)]

/-- A source, a 12-bit immediate and a destination predicate (R121). -/
theorem cmpImm_decodes {op : Nat} {mk : BitVec 4 → BitVec 6 → BitVec 12 → Instr} (p : BitVec 4) (a : BitVec 6) (i : BitVec 12)
    (hop : op < 256 := by decide) (wf : (mk p a i).wellFormed = true := by rfl)
    (arm : ∀ w : SlotWord, w.toNat / 2 ^ 24 = op → decodeS w = row w 0x000C0000 (mk (fld w 20 4) (fld w 12 6) (fld w 0 12)) := by
      intro w h; simp only [decodeS, h]) :
    decodeSlot .s (BitVec.ofNat 32 (op * 2 ^ 24 + p.toNat * 2 ^ 20 + a.toNat * 2 ^ 12 + i.toNat)) = .ok (mk p a i) := by
  have hv : op * 2 ^ 24 + p.toNat * 2 ^ 20 + a.toNat * 2 ^ 12 + i.toNat < 2 ^ 32 := by omega
  refine decodeSlot_s_ok arm hv (by omega) (reserved_ofNat (lo := 18) (n := 2) (by omega)) ?_ wf
  rw [fld_ofNat (x := p) hv (by omega), fld_ofNat (x := a) hv (by omega), fld_ofNat (x := i) hv (by omega)]

/-- Two predicates and a destination predicate (R122). -/
theorem predOp_decodes {op : Nat} {mk : BitVec 4 → BitVec 4 → BitVec 4 → Instr} (p q r : BitVec 4) (hop : op < 256 := by decide)
    (wf : (mk p q r).wellFormed = true := by rfl)
    (arm : ∀ w : SlotWord, w.toNat / 2 ^ 24 = op → decodeS w = row w 0x00000FFF (mk (fld w 20 4) (fld w 16 4) (fld w 12 4)) := by
      intro w h; simp only [decodeS, h]) :
    decodeSlot .s (BitVec.ofNat 32 (op * 2 ^ 24 + p.toNat * 2 ^ 20 + (q.toNat * 16 + r.toNat) * 2 ^ 12)) = .ok (mk p q r) := by
  have hv : op * 2 ^ 24 + p.toNat * 2 ^ 20 + (q.toNat * 16 + r.toNat) * 2 ^ 12 < 2 ^ 32 := by omega
  refine decodeSlot_s_ok arm hv (by omega) (reserved_ofNat (lo := 0) (n := 12) (by omega)) ?_ wf
  rw [fld_ofNat (x := p) hv (by omega), fld_ofNat (x := q) hv (by omega), fld_ofNat (x := r) hv (by omega)]

/-- PNOT: a predicate and a destination predicate (R122). -/
theorem pnot_decodes (p q : BitVec 4) :
    decodeSlot .s (BitVec.ofNat 32 (0x43 * 2 ^ 24 + p.toNat * 2 ^ 20 + q.toNat * 16 * 2 ^ 12)) = .ok (.pnot p q) := by
  have hv : 0x43 * 2 ^ 24 + p.toNat * 2 ^ 20 + q.toNat * 16 * 2 ^ 12 < 2 ^ 32 := by omega
  refine decodeSlot_s_ok (op := 0x43) (m := 0x0000FFFF) (g := fun w => .pnot (fld w 20 4) (fld w 16 4))
    (fun w h => by simp only [decodeS, h]) hv (by omega) (reserved_ofNat (lo := 0) (n := 16) (by omega)) ?_ rfl
  rw [fld_ofNat (x := p) hv (by omega), fld_ofNat (x := q) hv (by omega)]

end Sys2Proof
end

section
/-! SUPPORT. The values of R116 to R121: each function of the model against the formula of its rule. -/

namespace Sys2Proof.Machine

theorem shl_eq_mul (x : Word) (n : Nat) : x <<< n = BitVec.ofNat 64 (x.toNat * 2 ^ n) := by
  apply BitVec.eq_of_toNat_eq
  rw [BitVec.toNat_shiftLeft, BitVec.toNat_ofNat, Nat.shiftLeft_eq]

theorem shr_eq_div (x : Word) (n : Nat) : x >>> n = BitVec.ofNat 64 (x.toNat / 2 ^ n) := by
  have hlt : x.toNat / 2 ^ n < 2 ^ 64 := Nat.lt_of_le_of_lt (Nat.div_le_self ..) x.isLt
  apply BitVec.eq_of_toNat_eq
  rw [BitVec.toNat_ushiftRight, BitVec.toNat_ofNat, Nat.shiftRight_eq_div_pow, Nat.mod_eq_of_lt hlt]

theorem sar_eq_div (x : Word) (n : Nat) : x.sshiftRight n = BitVec.ofInt 64 (x.toInt / 2 ^ n) := by
  rw [BitVec.sshiftRight, Int.shiftRight_eq_div_pow]
  norm_cast

/-- A long immediate enters below the bits that were shifted up (R119). -/
theorem shl_or_eq_add (x : Word) (l : BitVec 18) : x <<< 18 ||| l.setWidth 64 = BitVec.ofNat 64 (x.toNat * 2 ^ 18 + l.toNat) := by
  have hdisj : x <<< 18 &&& l.setWidth 64 = 0#64 := by
    apply BitVec.eq_of_getLsbD_eq
    intro i hi
    by_cases h : i < 18
    · simp [h]
    · simp [BitVec.getLsbD_of_ge l i (by omega)]
  rw [← BitVec.add_eq_or_of_and_eq_zero _ _ hdisj, shl_eq_mul, ← BitVec.ofNat_toNat, ← BitVec.ofNat_add]

theorem minS_eq (x y : Word) : minS x y = if x.toInt < y.toInt then x else y := by simp [minS, BitVec.slt]
theorem maxS_eq (x y : Word) : maxS x y = if x.toInt < y.toInt then y else x := by simp [maxS, BitVec.slt]
theorem minU_eq (x y : Word) : minU x y = if x.toNat < y.toNat then x else y := by simp [minU, BitVec.ult]
theorem maxU_eq (x y : Word) : maxU x y = if x.toNat < y.toNat then y else x := by simp [maxU, BitVec.ult]

theorem popCount_eq (x : Word) : popCount x = BitVec.ofNat 64 ((List.range 64).filter (fun i => x.getLsbD i)).length := by
  rw [popCount, List.countP_eq_length_filter]

/-- As many of the numbers below `n` are at least `m` as `m` falls short of `n`. -/
theorem length_filter_le_range (m n : Nat) : ((List.range n).filter (fun i => m ≤ i)).length = n - m := by
  induction n with
  | zero => simp
  | succ n ih =>
    rw [List.range_succ, List.filter_append, List.length_append, ih]
    by_cases h : m ≤ n
    · simp [h]; omega
    · simp [h]; omega

/-- The leading zeros of a value are the powers of two below 2⁶⁴ that exceed it. -/
theorem leadingZeros_eq (x : Word) : leadingZeros x = BitVec.ofNat 64 ((List.range 64).filter (fun i => x.toNat < 2 ^ i)).length := by
  by_cases h : x = 0
  · subst h; rfl
  · have h0 : x.toNat ≠ 0 := fun e => h (BitVec.eq_of_toNat_eq e)
    have hlt : ∀ i, x.toNat < 2 ^ i ↔ Nat.log2 x.toNat + 1 ≤ i := fun i => (Nat.log2_lt h0).symm
    simp only [leadingZeros, if_neg h, hlt, length_filter_le_range]
    congr 1; omega

/-- The model's quotient by the signs alone: a quotient of magnitudes that is 0 has no sign to take. -/
theorem tdivInt_eq_signed (a b : Int) :
    tdivInt a b = if decide (a < 0) = decide (b < 0) then ((a.natAbs / b.natAbs : Nat) : Int) else -((a.natAbs / b.natAbs : Nat) : Int) := by
  by_cases hs : decide (a < 0) = decide (b < 0)
  · simp [tdivInt, hs]
  · by_cases h : b.natAbs ≤ a.natAbs
    · simp [tdivInt, hs, h]
    · simp [tdivInt, Nat.div_eq_of_lt (Nat.lt_of_not_le h)]

/-- The model's quotient is the library's quotient towards zero. -/
theorem tdivInt_eq (a b : Int) : tdivInt a b = a.tdiv b := by
  have hpos : ∀ n : Nat, decide (Int.ofNat n < 0) = false := fun n => decide_eq_false (Int.not_lt.2 (Int.natCast_nonneg n))
  have hneg : ∀ n : Nat, decide (Int.negSucc n < 0) = true := fun n => decide_eq_true (Int.negSucc_lt_zero n)
  rw [tdivInt_eq_signed]
  match a, b with
  | .ofNat m, .ofNat n => rw [hpos, hpos]; rfl
  | .ofNat m, .negSucc n => rw [hpos, hneg]; rfl
  | .negSucc m, .ofNat n => rw [hneg, hpos]; rfl
  | .negSucc m, .negSucc n => rw [hneg, hneg]; rfl

theorem toInt_eq_neg_one_iff (y : Word) : y.toInt = -1 ↔ y = -1 := by
  rw [← BitVec.toInt_inj]; rfl

theorem divS_eq (x y : Word) : divS x y =
    if y = 0 then -1 else if x.toInt = -2 ^ 63 ∧ y = -1 then x else BitVec.ofInt 64 (x.toInt.tdiv y.toInt) := by
  simp only [divS, toInt_eq_neg_one_iff, tdivInt_eq]; rfl

theorem remS_eq (x y : Word) : remS x y =
    if y = 0 then x else if x.toInt = -2 ^ 63 ∧ y = -1 then 0 else BitVec.ofInt 64 (x.toInt.tmod y.toInt) := by
  simp only [remS, toInt_eq_neg_one_iff, tdivInt_eq, Int.tmod_def]

theorem divU_eq (x y : Word) : divU x y = if y = 0 then -1 else BitVec.ofNat 64 (x.toNat / y.toNat) := rfl

end Sys2Proof.Machine
end

section
/-! SUPPORT. The issue of a scalar word by its form: the operands of R113 and R114, the value from the form's function. -/

namespace Sys2Proof.Machine

-- Ready sources raise nothing and hold nothing

theorem scalarRes_trap (c : Ctx) (srcs : List (BitVec 6)) (d : BitVec 6) (v : Word) (hs : ∀ r ∈ srcs, c.xReady r) :
    (scalarRes c srcs d v).trap = none :=
  firstTrap_none _ (List.forall_mem_map.2 fun r hr => xPoisonTrap_none c r (hs r hr).2)

theorem scalarRes_hold (c : Ctx) (srcs : List (BitVec 6)) (d : BitVec 6) (v : Word) (hs : ∀ r ∈ srcs, c.xReady r) (hd : c.xEmpty d = false) :
    (scalarRes c srcs d v).hold = none :=
  joinHolds_none _ (List.forall_mem_map.2 (List.forall_mem_cons.2 ⟨xHold_none c d hd, fun r hr => xHold_none c r (hs r hr).1⟩))

/-- A three-register word (R116). -/
theorem runAlone_slotR3 (s : State) (d a b : BitVec 6) (ha : s.ctx.xReady a) (hb : s.ctx.xReady b) (hd : s.ctx.xEmpty d = false)
    (i : Instr) (f : Word → Word → Word) {v : Word} (hw : i.wellFormed = true) (hv : f (s.ctx.xVal a) (s.ctx.xVal b) = v) :
    runAlone i (slotR3 f d a b s) s = .next (s.afterScalar (fun c => c.setX d v)) := by
  rw [← hv]
  exact runAlone_scalar i s [a, b] d _ hw (List.forall_mem_cons.2 ⟨ha, List.forall_mem_singleton.2 hb⟩) hd

/-- A one-source word (R116, R118). -/
theorem runAlone_slotR2 (s : State) (d a : BitVec 6) (ha : s.ctx.xReady a) (hd : s.ctx.xEmpty d = false)
    (i : Instr) (f : Word → Word) {v : Word} (hw : i.wellFormed = true) (hv : f (s.ctx.xVal a) = v) :
    runAlone i (slotR2 f d a s) s = .next (s.afterScalar (fun c => c.setX d v)) := by
  rw [← hv]
  exact runAlone_scalar i s [a] d _ hw (List.forall_mem_singleton.2 ha) hd

/-- A register compare (R120). -/
theorem runAlone_slotCmp (s : State) (p : BitVec 4) (a b : BitVec 6) (ha : s.ctx.xReady a) (hb : s.ctx.xReady b)
    (i : Instr) (f : Word → Word → Bool) {v : Bool} (hw : i.wellFormed = true) (hv : f (s.ctx.xVal a) (s.ctx.xVal b) = v) :
    runAlone i (slotCmp f p a b s) s = .next (s.afterScalar (fun c => c.setP p v)) := by
  rw [← hv]
  exact runAlone_pred i s [a, b] p _ hw (List.forall_mem_cons.2 ⟨ha, List.forall_mem_singleton.2 hb⟩)

/-- An immediate compare (R121). -/
theorem runAlone_slotCmpi (s : State) (p : BitVec 4) (a : BitVec 6) (j : BitVec 12) (ha : s.ctx.xReady a)
    (i : Instr) (f : Int → Int → Bool) (hw : i.wellFormed = true) :
    runAlone i (slotCmpi f p a j s) s = .next (s.afterScalar (fun c => c.setP p (f (s.ctx.xVal a).toInt j.toInt))) :=
  runAlone_pred i s [a] p _ hw (List.forall_mem_singleton.2 ha)

/-- A division leaves its destination empty and its value in flight to c + 18; aimed at x0 it leaves neither (R27, R117). -/
theorem runAlone_slotDivide (s : State) (d a b : BitVec 6) (ha : s.ctx.xReady a) (hb : s.ctx.xReady b) (hd : s.ctx.xEmpty d = false)
    (i : Instr) (f : Word → Word → Word) {v : Word} (hw : i.wellFormed = true) (hv : f (s.ctx.xVal a) (s.ctx.xVal b) = v) :
    runAlone i (slotDivide f d a b s) s = .next (s.afterWord .s 1 none .fall [] (fun t =>
      if d = 0 then t else (t.modCtx (fun c => c.emptyX d)).addFlight .s s.cr.cur (s.cr.cyc + 18) (.xreg d v))) := by
  have hs : ∀ r ∈ [a, b], s.ctx.xReady r := List.forall_mem_cons.2 ⟨ha, List.forall_mem_singleton.2 hb⟩
  have htrap : (slotDivide f d a b s).trap = none := scalarRes_trap s.ctx [a, b] d (f (s.ctx.xVal a) (s.ctx.xVal b)) hs
  have hhold : (slotDivide f d a b s).hold = none := scalarRes_hold s.ctx [a, b] d (f (s.ctx.xVal a) (s.ctx.xVal b)) hs hd
  have hclear : (slotDivide f d a b s).Clear s :=
    clear_plain _ s rfl (valueConflict_noSys _ _ (by simp [slotDivide, scalarRes])) htrap hhold rfl rfl rfl rfl
  rw [← hv]
  exact runAlone_clear i _ s hw hclear rfl rfl (fun _ => rfl)

end Sys2Proof.Machine
end

section
/-! SUPPORT. The scalar integer, compare and predicate words (R116 to R122): each word's value and its place in the S slot's opcodes. -/

namespace Sys2Proof.Machine

/-- Settles O1: each form's rule of issue with the value lemma of its function, and the layouts of R116. -/
theorem integerResults : Obligations.IntegerResults := by
  unfold Obligations.IntegerResults
  constructor
  · intro s d a b p ha hb hd x y n
    have r3 := runAlone_slotR3 s d a b ha hb hd
    have r2 := runAlone_slotR2 s d a ha hd
    simp only [List.forall_mem_cons, List.not_mem_nil, false_implies, implies_true, and_true]
    exact ⟨r3 (.add d a b) (· + ·) rfl rfl, r3 (.sub d a b) (· - ·) rfl rfl, r3 (.mul d a b) (· * ·) rfl rfl,
      r3 (.mulh d a b) mulHigh rfl rfl, r3 (.mulhn d a b) mulHighU rfl rfl,
      r3 (.and d a b) (· &&& ·) rfl rfl, r3 (.or d a b) (· ||| ·) rfl rfl, r3 (.xor d a b) (· ^^^ ·) rfl rfl,
      r3 (.shl d a b) shiftLeft rfl (shl_eq_mul x n), r3 (.shr d a b) shiftRight rfl (shr_eq_div x n),
      r3 (.sar d a b) shiftArith rfl (sar_eq_div x n),
      r3 (.min d a b) minS rfl (minS_eq x y), r3 (.max d a b) maxS rfl (maxS_eq x y),
      r3 (.minn d a b) minU rfl (minU_eq x y), r3 (.maxn d a b) maxU rfl (maxU_eq x y),
      r3 (.sel d a b p) (fun x y => if s.ctx.pVal p then x else y) rfl rfl,
      r2 (.popc d a) popCount rfl (popCount_eq x), r2 (.clz d a) leadingZeros rfl (leadingZeros_eq x)⟩
  · intro d a b p word
    simp only [List.forall_mem_cons, List.not_mem_nil, false_implies, implies_true, and_true, word, Nat.zero_mul, Nat.add_zero]
    exact ⟨threeReg_decodes d a b, threeReg_decodes d a b, threeReg_decodes d a b, threeReg_decodes d a b, threeReg_decodes d a b,
      threeReg_decodes d a b, threeReg_decodes d a b, threeReg_decodes d a b, threeReg_decodes d a b, threeReg_decodes d a b,
      threeReg_decodes d a b, threeReg_decodes d a b, threeReg_decodes d a b, threeReg_decodes d a b, threeReg_decodes d a b,
      twoReg_decodes d a, twoReg_decodes d a, sel_decodes d a b p⟩

/-- Settles O2: each form's rule of issue with the value lemma of its function, and the layouts of R118 to R122. -/
theorem immediateAndPredicateResults : Obligations.ImmediateAndPredicateResults := by
  unfold Obligations.ImmediateAndPredicateResults
  refine ⟨?values, ?predicates, ?words⟩
  case values =>
    intro s d a j i l ha hd hpd x
    have r2 := runAlone_slotR2 s d a ha hd
    have zext : ∀ i : BitVec 12, i.setWidth 64 = BitVec.ofNat 64 i.toNat := fun i => (BitVec.ofNat_toNat 64 i).symm
    simp only [List.forall_mem_cons, List.not_mem_nil, false_implies, implies_true, and_true]
    exact ⟨r2 (.addi d a i) (fun x => x + i.signExtend 64) rfl rfl,
      r2 (.andi d a i) (fun x => x &&& i.setWidth 64) rfl (congrArg (x &&& ·) (zext i)),
      r2 (.ori d a i) (fun x => x ||| i.setWidth 64) rfl (congrArg (x ||| ·) (zext i)),
      r2 (.xori d a i) (fun x => x ^^^ i.setWidth 64) rfl (congrArg (x ^^^ ·) (zext i)),
      r2 (.muli d a i) (fun x => x * i.signExtend 64) rfl rfl,
      r2 (.shli d a j) (fun x => x <<< j.toNat) rfl (shl_eq_mul x j.toNat),
      r2 (.shri d a j) (fun x => x >>> j.toNat) rfl (shr_eq_div x j.toNat),
      r2 (.sari d a j) (fun x => x.sshiftRight j.toNat) rfl (sar_eq_div x j.toNat),
      runAlone_scalar (.movi d l) s [] d _ rfl (by simp) hd,
      runAlone_slotR2 s d d ⟨hd, hpd⟩ hd (.movs d l) (fun x => x <<< 18 ||| l.setWidth 64) rfl (shl_or_eq_add _ l)⟩
  case predicates =>
    intro s p q r a b i ha hb x y
    have rc := runAlone_slotCmp s p a b ha hb
    have ri := runAlone_slotCmpi s p a i ha
    have rp := fun (i : Instr) (v : Bool) (hw : i.wellFormed = true) => runAlone_pred i s [] p v hw (by simp)
    simp only [List.forall_mem_cons, List.not_mem_nil, false_implies, implies_true, and_true]
    exact ⟨rc (.cmpEq p a b) (fun a b => a == b) rfl rfl, rc (.cmpNe p a b) (fun a b => a != b) rfl (decide_not (p := x = y)).symm,
      rc (.cmpLt p a b) (fun a b => a.slt b) rfl rfl, rc (.cmpLe p a b) (fun a b => a.sle b) rfl rfl,
      rc (.cmpLtn p a b) (fun a b => a.ult b) rfl rfl, rc (.cmpLen p a b) (fun a b => a.ule b) rfl rfl,
      ri (.cmpiEq p a i) (fun a b => decide (a = b)) rfl, ri (.cmpiNe p a i) (fun a b => decide (a ≠ b)) rfl,
      ri (.cmpiLt p a i) (fun a b => decide (a < b)) rfl, ri (.cmpiLe p a i) (fun a b => decide (a ≤ b)) rfl,
      ri (.cmpiGt p a i) (fun a b => decide (a > b)) rfl, ri (.cmpiGe p a i) (fun a b => decide (a ≥ b)) rfl,
      rp (.pand p q r) _ rfl, rp (.por p q r) _ rfl, rp (.pxor p q r) _ rfl, rp (.pnot p q) _ rfl⟩
  case words =>
    intro d a b j i l p q r word xd pd
    simp only [List.forall_mem_cons, List.not_mem_nil, false_implies, implies_true, and_true, word, xd, pd, Nat.add_zero]
    exact ⟨regImm_decodes d a i, regImm_decodes d a i, regImm_decodes d a i, regImm_decodes d a i,
      shiftImm_decodes d a j, shiftImm_decodes d a j, shiftImm_decodes d a j, regImm_decodes d a i,
      longImm_decodes d l, longImm_decodes d l,
      cmp_decodes p a b, cmp_decodes p a b, cmp_decodes p a b, cmp_decodes p a b, cmp_decodes p a b, cmp_decodes p a b,
      cmpImm_decodes p a i, cmpImm_decodes p a i, cmpImm_decodes p a i, cmpImm_decodes p a i, cmpImm_decodes p a i, cmpImm_decodes p a i,
      predOp_decodes p q r, predOp_decodes p q r, predOp_decodes p q r, pnot_decodes p q⟩

/-- Settles O3: the rule of issue of a division with the value lemma of its function, and the layout of R117. -/
theorem divisionResults : Obligations.DivisionResults := by
  unfold Obligations.DivisionResults
  constructor
  · intro s d a b ha hb hd x y
    have rd := runAlone_slotDivide s d a b ha hb hd
    simp only [List.forall_mem_cons, List.not_mem_nil, false_implies, implies_true, and_true]
    exact ⟨rd (.div d a b) divS rfl (divS_eq x y), rd (.rem d a b) remS rfl (remS_eq x y), rd (.divn d a b) divU rfl (divU_eq x y),
      rd (.remn d a b) remU rfl rfl⟩
  · intro d a b
    simp only [List.forall_mem_cons, List.not_mem_nil, false_implies, implies_true, and_true]
    exact ⟨threeReg_decodes d a b, threeReg_decodes d a b, threeReg_decodes d a b, threeReg_decodes d a b⟩

end Sys2Proof.Machine
end
